-- ==== Sys2Proof/Word.lean ====
section
/-! DEFINITION. The octet: the unit every link of the ZC-460 carries (R144, R181). -/

namespace Sys2Proof

/-- One octet of a message, frame or report. -/
abbrev Octet := BitVec 8

end Sys2Proof
end

