-- ==== Sys2Proof/Syntax.lean ====
section
/-! DEFINITION. The commands of the ZC-460: one constructor per row of spec/opcode_table.json, with the operands the
spec gives the event. A cab message or valley message carries its payload as the octets of the link, so that the
payload rules of R199 are part of each request's meaning. -/

namespace Sys2Proof

/-- The two cabs (0.2): the upper one at the uphill end. -/
inductive Cab where
  | upper | lower
  deriving DecidableEq, Repr

/-- The two spring brakes (R89). -/
inductive BrakeId where
  | rack | hold
  deriving DecidableEq, Repr

/-- The four passenger door leaves (R108). -/
inductive LeafId where
  | a1 | a2 | b1 | b2
  deriving DecidableEq, Repr

/-- The reading of one pinion tooth sensor (R19). -/
inductive Level where
  | low | high
  deriving DecidableEq, Repr

/-- The reading of a spring brake's feedback switch (R89). -/
inductive Feedback where
  | applied | clear
  deriving DecidableEq, Repr

/-- What a cab port hands on of a message: its port, its tag and its payload octets (R183, Table 12-2). -/
structure CabMsg where
  cab : Cab
  tag : Octet
  payload : List Octet
  deriving DecidableEq, Repr

/-- What the handler takes from a valley message: car id, order number and payload octets (Table 9-1). -/
structure ValleyMsg where
  car : Octet
  order : Octet
  payload : List Octet
  deriving DecidableEq, Repr

/-- A message of a kind that no row of its own origin names: from a cab or from the valley (R131). -/
inductive AnyMsg where
  | cab (kind : Octet) (m : CabMsg)
  | valley (kind : Octet) (m : ValleyMsg)
  deriving DecidableEq, Repr

/-- The commands, in the order of spec/opcode_table.json. -/
inductive Instr where
  /-- CAB_STATE, kind 0 (R185). -/
  | cabState (m : CabMsg)
  /-- READ_STATUS, kind 1 (R189). -/
  | readStatus (m : CabMsg)
  /-- READ_PROFILE_ENTRY, kind 2 naming an index (R17). -/
  | readProfileEntry (m : CabMsg)
  /-- READ_PROFILE_ENTRY asking for "next", kind 2 with index FFFFh (R18). -/
  | readProfileEntryNext (m : CabMsg)
  /-- READ_COUNTERS, kind 3 (R179). -/
  | readCounters (m : CabMsg)
  /-- TRANSFER_COUNTERS, kind 4 (R179). -/
  | transferCounters (m : CabMsg)
  /-- READ_RESET_CAUSE, kind 5 (R197). -/
  | readResetCause (m : CabMsg)
  /-- OPEN_CAB, kind 6 (R137). -/
  | openCab (m : CabMsg)
  /-- CLOSE_CAB, kind 7 (R138). -/
  | closeCab (m : CabMsg)
  /-- LEND_DRIVE, kind 8 (R139). -/
  | lendDrive (m : CabMsg)
  /-- RETURN_DRIVE, kind 9 (R140). -/
  | returnDrive (m : CabMsg)
  /-- EMERGENCY_ACK, kind 10 (R102). -/
  | emergencyAck (m : CabMsg)
  /-- HOLD_RELEASE, kind 11 (R98). -/
  | holdRelease (m : CabMsg)
  /-- HOLD_APPLY, kind 12 (R97). -/
  | holdApply (m : CabMsg)
  /-- DOOR_RELEASE, kind 13 (R111). -/
  | doorRelease (m : CabMsg)
  /-- DOOR_CLOSE, kind 14 (R113). -/
  | doorClose (m : CabMsg)
  /-- DOOR_ISOLATE with setting on, kind 15 (R123). -/
  | doorIsolateOn (m : CabMsg)
  /-- DOOR_ISOLATE with setting off, kind 15 (R123). -/
  | doorIsolateOff (m : CabMsg)
  /-- PROFILE_BEGIN, kind 16 (R6). -/
  | profileBegin (m : CabMsg)
  /-- PROFILE_SEGMENT, kind 17 (R7). -/
  | profileSegment (m : CabMsg)
  /-- PROFILE_MARKER, kind 18 (R8). -/
  | profileMarker (m : CabMsg)
  /-- PROFILE_COMMIT, kind 19 (R9). -/
  | profileCommit (m : CabMsg)
  /-- SET_POSITION, kind 20 (R32). -/
  | setPosition (m : CabMsg)
  /-- CAB_RESTRICT, kind 21 (R39). -/
  | cabRestrict (m : CabMsg)
  /-- CAB_LIFT, kind 22 (R45). -/
  | cabLift (m : CabMsg)
  /-- PARK, kind 23 (R192). -/
  | park (m : CabMsg)
  /-- SET_GATE, kind 24 with selector 0 (R134). -/
  | setGate (m : CabMsg)
  /-- SET_PARAMETER, kind 24 with selector 1 (R135). -/
  | setParameter (m : CabMsg)
  /-- A request or order of a kind that is absent, above 47 or not of its origin (R131). -/
  | absentKindRequest (m : AnyMsg)
  /-- The octets of a cab message with a bad length or CRC, as received (R182). -/
  | badCabMessage (c : Cab) (octets : List Octet)
  /-- A received character: `none` reads a start level at its stop bit; `some o` passes and meets the receive
  buffer, which may be full (R181). -/
  | framingFault (c : Cab) (ch : Option Octet)
  /-- The answer a port is sending ends (R183). -/
  | answerSent (c : Cab)
  /-- The silence timer of a port expires (R184). -/
  | silenceTimerExpiry (c : Cab)
  /-- LINE, kind 32 (R169). -/
  | line (m : ValleyMsg)
  /-- AUTHORITY, kind 33 (R49). -/
  | authority (m : ValleyMsg)
  /-- RESTRICT, kind 34 (R39). -/
  | restrict (m : ValleyMsg)
  /-- LIFT, kind 35 (R46). -/
  | lift (m : ValleyMsg)
  /-- STOP with severity SERVICE, kind 36 (R170). -/
  | stopService (m : ValleyMsg)
  /-- STOP with severity EMERGENCY, kind 36 (R170). -/
  | stopEmergency (m : ValleyMsg)
  /-- STOP_RELEASE, kind 37 (R170). -/
  | stopRelease (m : ValleyMsg)
  /-- DOORS_CLOSE, kind 38 (R113). -/
  | doorsClose (m : ValleyMsg)
  /-- CLEAR_OVERFLOW, kind 39 (R44). -/
  | clearOverflow (m : ValleyMsg)
  /-- WAKE, kind 40 (R171). -/
  | wake (m : ValleyMsg)
  /-- POLL, kind 41 (R171). -/
  | poll (m : ValleyMsg)
  /-- A valid valley message of any kind whose car id is another car's (R166). -/
  | valleyMessageOtherCar (kind : Octet) (m : ValleyMsg)
  /-- The octets of a valley message with a bad length or CRC, as handed on (R165). -/
  | badValleyMessage (octets : List Octet)
  /-- The two tooth sensors' new readings and the time of the change in microseconds (R19, R25). -/
  | sensorTransition (s1 s2 : Level) (micros : Nat)
  /-- A pulse of the marker reader (R28). -/
  | markerPulse
  /-- The standstill time expires (R27). -/
  | standstillDeclaration
  /-- The evaluation timer expires (R60). -/
  | evaluationTimerExpiry
  /-- The contact timer reaches the degrade threshold (R55). -/
  | degradeThresholdReached
  /-- The contact timer reaches the void, or shadow void, threshold (R57). -/
  | voidThresholdReached
  /-- A feedback switch changes to this reading (R91). -/
  | brakeFeedbackChange (b : BrakeId) (reads : Feedback)
  /-- A release timer expires (R90). -/
  | releaseTimerExpiry (b : BrakeId)
  /-- An apply timer expires (R90). -/
  | applyTimerExpiry (b : BrakeId)
  /-- The vigilance timer expires (R84). -/
  | vigilanceTimerExpiry
  /-- The hold timer expires (R96). -/
  | holdTimerExpiry
  /-- A locked switch changes: `locked` is its new reading (R117, R122). -/
  | lockedSwitchChange (i : LeafId) (locked : Bool)
  /-- An open-end switch changes: `isOpen` is its new reading (R116, R120). -/
  | openEndSwitchChange (i : LeafId) (isOpen : Bool)
  /-- An obstruction edge changes: `pressed` is its new reading (R118). -/
  | obstruction (i : LeafId) (pressed : Bool)
  /-- A passenger button is pressed (R115). -/
  | passengerPress (i : LeafId)
  /-- An open limit expires (R116). -/
  | openLimitExpiry (i : LeafId)
  /-- A close limit expires (R117). -/
  | closeLimitExpiry (i : LeafId)
  /-- A reversal timer expires (R120). -/
  | reversalTimerExpiry (i : LeafId)
  /-- A sync candidate at bit `pos` is tested: the octets standing 192 and 384 bits after it (R147). -/
  | candidateTest (pos : Nat) (at192 at384 : Octet)
  /-- The header of the next frame at the current alignment arrives (R146). -/
  | headerReceived (header : Octet)
  /-- The offline timer expires (R150). -/
  | offlineTimerExpiry
  /-- An offline candidate at bit `pos` is tested, as in `candidateTest` (R151). -/
  | offlineCandidateTest (pos : Nat) (at192 at384 : Octet)
  /-- The fallback timer expires (R150). -/
  | fallbackTimerExpiry
  /-- The check octet of frame 0 or 4 arrives: the 96 octets received of the half before, and the octet (R153). -/
  | checkOctetReceived (half : List Octet) (check : Octet)
  /-- The overhead octet of frame 1 or 5 arrives (R155). -/
  | farEndReport (octet : Octet)
  /-- The overhead octet of frame 2 or 6 arrives (R157). -/
  | codeOctet (octet : Octet)
  /-- The hold timer of the line state code expires (R158). -/
  | lineCodeHoldExpiry
  /-- The transmit side sends one frame (R160, R161). -/
  | transmitFrame
  /-- The last CRC octet of the report being sent is given (R176). -/
  | reportSent
  /-- The report timer expires (R172). -/
  | reportTimerExpiry
  /-- The transfer timer expires (R178). -/
  | transferTimerExpiry
  /-- The period timer of the parked watch expires (R193). -/
  | periodTimerExpiry
  /-- The window end of the parked watch is reached (R193). -/
  | windowClose
  /-- The check timer of waking expires (R195). -/
  | checkTimerExpiry
  /-- A valve output readback changes: `energized` is its new reading (R196). -/
  | valveReadbackChange (b : BrakeId) (energized : Bool)
  /-- The readback timer expires (R196). -/
  | readbackTimerExpiry
  /-- The verification interval of the store check ends (R14). -/
  | storeVerification
  /-- A reset from the supply (R198). -/
  | powerOnReset
  /-- A reset from the reset line (R198). -/
  | pinReset
  deriving DecidableEq, Repr

end Sys2Proof
end

