-- ==== Sys2Proof/Decode.lean ====
section
/-! DEFINITION. What the opcode table's bits spell. spec/opcode_table.json gives no row any bits: the ZC-460 is a block, its
commands are messages and events, so no word spells a command (INVENTORY, Instructions). -/

namespace Sys2Proof

/-- The command a word of `nbits` bits spells: none, since no row of the table has bits. -/
def decodeTableWord (_nbits _w : Nat) : Option Instr := none

end Sys2Proof
end

