-- ==== Sys2Proof/Machine/Types.lean ====
section
/-! DEFINITION. The types of the ZC-460's state: the spec's enumerations, sets and records, block by block, under the
spec's names. Every one is plain data. -/

namespace Sys2Proof.Machine

/-! ## Enumerations -/

/-- The car modes (0.8). -/
inductive CarMode where
  | config | ready | drive | parked | waking
  deriving DecidableEq, Repr

/-- The ten kinds of brake cause (Table 5-4), in the order of their codes. -/
inductive CauseKind where
  | overspeed | eoaPassed | valleyStop | driveLost | cabEmergency | rollaway | brakeFeedback | restart | sensor | lineEnd
  deriving DecidableEq, Repr

/-- The ten kinds of change flag (Table 10-4), in the order of their bits. -/
inductive FlagKind where
  | mode | token | supervision | causes | doors | brakes | radio | lineCode | lineRecord | wake
  deriving DecidableEq, Repr

/-- A direction along the line (0.6). -/
inductive Dir where
  | up | down
  deriving DecidableEq, Repr

/-- The origin of a request (7.1). -/
inductive Origin where
  | cab (c : Cab)
  | valley
  deriving DecidableEq, Repr

/-- Result codes (Table 7-4), in the order of their codes. -/
inductive ResultCode where
  | ok | clamped | absent | origin | rank | notDriving | stateFails | busy | full | version | range | unknownId
  deriving DecidableEq, Repr

/-- Confidence (Table 2-4). -/
inductive Confidence where
  | unknown | declared | confirmed | drifting | lost
  deriving DecidableEq, Repr

/-- Decoder phases (Figure 2-1). -/
inductive Phase where
  | q0 | q1 | q2 | q3
  deriving DecidableEq, Repr

/-- Profile states (R4). -/
inductive ProfileState where
  | empty | loading | valid
  deriving DecidableEq, Repr

/-- Platform sides of a segment (Table 1-1). -/
inductive PlatformSide where
  | none | a | b | both
  deriving DecidableEq, Repr

/-- Contact states (R55). -/
inductive ContactState where
  | live | degraded | void
  deriving DecidableEq, Repr

/-- Supervision states (R77). -/
inductive SupState where
  | normal | warning | intervene | trip
  deriving DecidableEq, Repr

/-- Kinds of target (R68, R69). -/
inductive TargetKind where
  | boundary | restriction | overflow | eoa | noAuthority | lineEnd
  deriving DecidableEq, Repr

/-- Spring brake states (Table 5-2). -/
inductive BrakeState where
  | applied | releasing | released | applying | fault
  deriving DecidableEq, Repr

/-- Leaf states (Table 6-2). -/
inductive LeafState where
  | closedLocked | closedUnlocked | opening | opened | closing | reversing | obstructed | fault | isolated
  deriving DecidableEq, Repr

/-- The two door sides (0.6). -/
inductive SideId where
  | a | b
  deriving DecidableEq, Repr

/-- The state of a door side (R110). -/
inductive SideState where
  | locked | released
  deriving DecidableEq, Repr

/-- Link states of a cab port (R184). -/
inductive LinkState where
  | silent | active | lost
  deriving DecidableEq, Repr

/-- Assembly states of a cab port (R182). -/
inductive AsmState where
  | hunting | assembling | waiting
  deriving DecidableEq, Repr

/-- Direction selector positions (Table 10-2). -/
inductive Selector where
  | neutral | towardThisEnd | away
  deriving DecidableEq, Repr

/-- Receive states of the radio framer (Table 8-2). -/
inductive RxState where
  | hunt | frame | unchecked | checked
  deriving DecidableEq, Repr

/-- Conditions of the current line state code (R158). -/
inductive CodeCondition where
  | live | held | expired
  deriving DecidableEq, Repr

/-- Effective line state codes (Table 8-4). -/
inductive EffectiveCode where
  | clear | caution | stop
  deriving DecidableEq, Repr

/-- Origins a gate allows (Table 7-2). -/
inductive GateOrigins where
  | cab | valley | both
  deriving DecidableEq, Repr

/-- The tables READ_PROFILE_ENTRY names (R16). -/
inductive TableId where
  | segments | markers | restrictions
  deriving DecidableEq, Repr

/-- Kinds of reset (11.5). -/
inductive ResetKind where
  | powerOn | pin | internalStore | internalOutput
  deriving DecidableEq, Repr

/-- The six live counters (Table 9-5). -/
inductive CounterId where
  | syncErr | checkFail | farFail | slip | loss | msgBad
  deriving DecidableEq, Repr

/-- Reasons a commit's validation fails (Table 1-4). -/
inductive CommitReason where
  | unwritten | notAtZero | notIncreasing | beyondEnd
  deriving DecidableEq, Repr

/-! ## Sets -/

/-- The cause set: ten kinds, each at most once, in no order (R99). -/
structure CauseSet where
  overspeed : Bool := false
  eoaPassed : Bool := false
  valleyStop : Bool := false
  driveLost : Bool := false
  cabEmergency : Bool := false
  rollaway : Bool := false
  brakeFeedback : Bool := false
  restart : Bool := false
  sensor : Bool := false
  lineEnd : Bool := false
  deriving DecidableEq, Repr

/-- One cab's change flags: ten kinds, each at most once, in no order (R187). -/
structure FlagSet where
  mode : Bool := false
  token : Bool := false
  supervision : Bool := false
  causes : Bool := false
  doors : Bool := false
  brakes : Bool := false
  radio : Bool := false
  lineCode : Bool := false
  lineRecord : Bool := false
  wake : Bool := false
  deriving DecidableEq, Repr

/-- The change flags of both cabs (R187). -/
structure CabFlags where
  upper : FlagSet
  lower : FlagSet
  deriving DecidableEq, Repr

/-- The reset cause record (R197). -/
structure ResetCauses where
  pin : Bool := false
  store : Bool := false
  output : Bool := false
  power : Bool := false
  deriving DecidableEq, Repr

/-! ## Line store (Chapters 1 and 3) -/

/-- A segment entry (Table 1-1). -/
structure Segment where
  start : Nat
  gradient : Int
  limitUp : Nat
  limitDown : Nat
  side : PlatformSide
  shadow : Bool
  station : Nat
  deriving DecidableEq, Repr

/-- An indexed table of which some indices are written: index and entry, indices strictly rising, an empty index
unlisted (R1, R3). -/
abbrev Table (α : Type) := List (Nat × α)

/-- A restriction entry (Table 3-1). -/
structure Restriction where
  id : Nat
  start : Nat
  stop : Nat
  limit : Nat
  origin : Origin
  deriving DecidableEq, Repr

/-- The overflow record while present (Table 3-2). -/
structure Overflow where
  start : Nat
  stop : Nat
  limit : Nat
  folded : Nat
  deriving DecidableEq, Repr

/-- The authority record while present (Table 3-3). -/
structure Authority where
  dir : Dir
  eoa : Nat
  number : Nat
  void : Bool
  deriving DecidableEq, Repr

/-- The line store. -/
structure LineStore where
  profile : ProfileState
  loader : Option Cab
  segCount : Nat
  mkrCount : Nat
  lineEnd : Nat
  version : Nat
  storeCheck : BitVec 16
  segments : Table Segment
  markers : Table Nat
  verifyTimer : Option Nat
  restrictions : List Restriction
  overflow : Option Overflow
  authority : Option Authority
  deriving DecidableEq, Repr

/-! ## Position unit (Chapter 2) -/

/-- The position unit (Table 2-1). -/
structure Position where
  count : Nat
  phase : Phase
  dir : Option Dir
  speed : Nat
  runStart : Option Nat
  standstill : Bool
  standTimer : Option Nat
  confidence : Confidence
  correction : Int
  distance : Nat
  deriving DecidableEq, Repr

/-! ## Supervision (Chapters 3 and 4) -/

/-- The valley contact timer (Table 3-4). -/
structure Contact where
  value : Nat
  state : ContactState
  shadow : Bool
  deriving DecidableEq, Repr

/-- The limiting term with its detail (R67). -/
inductive Limiting where
  | ceiling
  | static
  | restriction (id : Nat)
  | overflow
  | unconfirmed
  | radio
  | target (kind : TargetKind) (pos : Int) (vt : Nat)
  | noProfile
  | noDirection
  deriving DecidableEq, Repr

/-- A target with all R70 says it holds. -/
structure Target where
  kind : TargetKind
  pos : Int
  vt : Nat
  distance : Nat
  fMax : Nat
  aEff : Int
  curve : Nat
  deriving DecidableEq, Repr

/-- The supervision unit (Table 4-1). -/
structure Supervision where
  travel : Option Dir
  permitted : Nat
  warning : Nat
  limiting : Limiting
  targets : List Target
  state : SupState
  passedMark : Bool
  evalTimer : Nat
  deriving DecidableEq, Repr

/-! ## Brake unit (Chapter 5) -/

/-- One spring brake: its state, the timer of that state, and its feedback reading (R89, R90). -/
structure SpringBrake where
  state : BrakeState
  timer : Option Nat
  feedback : Feedback
  deriving DecidableEq, Repr

/-- The seven service demand terms, in per cent (Table 5-1). -/
structure Terms where
  driver : Nat
  supervision : Nat
  vigilance : Nat
  valley : Nat
  door : Nat
  contact : Nat
  emergency : Nat
  deriving DecidableEq, Repr

/-- The first-cause record while present (R103). -/
structure FirstCause where
  kind : CauseKind
  count : Nat
  speed : Nat
  mode : CarMode
  deriving DecidableEq, Repr

/-- The brake unit. -/
structure Brakes where
  rack : SpringBrake
  hold : SpringBrake
  terms : Terms
  serviceOut : Nat
  tractionCut : Bool
  vigTimer : Option Nat
  holdTimer : Option Nat
  long : Bool
  causes : CauseSet
  first : Option FirstCause
  rollRunning : Bool
  rollCount : Int
  deriving DecidableEq, Repr

/-- The mode controller's watch over the two valves (R196). -/
structure ValveWatch where
  rackReadback : Bool
  holdReadback : Bool
  timer : Option Nat
  deriving DecidableEq, Repr

/-! ## Door unit (Chapter 6) -/

/-- One leaf: state, the leaf timer that runs, reversal count, and its three switch readings (R108). -/
structure Leaf where
  state : LeafState
  timer : Option Nat
  reversals : Nat
  locked : Bool
  openEnd : Bool
  edge : Bool
  deriving DecidableEq, Repr

/-- The door unit. -/
structure Doors where
  sideA : SideState
  sideB : SideState
  a1 : Leaf
  a2 : Leaf
  b1 : Leaf
  b2 : Leaf
  deriving DecidableEq, Repr

/-! ## Authority unit (Chapter 7) -/

/-- The drive token record (Table 7-6). -/
structure Token where
  driving : Option Cab
  lendLink : Option Cab
  markUpper : Bool
  markLower : Bool
  deriving DecidableEq, Repr

/-- A gate entry (Table 7-2). -/
structure GateEntry where
  present : Bool
  least : Nat
  drive : Bool
  origins : GateOrigins
  locked : Bool
  deriving DecidableEq, Repr

/-- The parameters of Table 7-5, in the order of their numbers. -/
structure Params where
  carLength : Nat
  markerWindow : Nat
  maxUnconfirmed : Nat
  degrade : Nat
  void : Nat
  shadowVoid : Nat
  carCeiling : Nat
  unconfirmedCeiling : Nat
  radioCeiling : Nat
  aCap : Nat
  aFloor : Nat
  reaction : Nat
  targetMargin : Nat
  warningMargin : Nat
  serviceMargin : Nat
  emergencyMargin : Nat
  holdDelay : Nat
  doorGradient : Nat
  autoTransfer : Nat
  carId : Nat
  deriving DecidableEq, Repr

/-- The refusal record while present (R133). -/
structure Refused where
  code : ResultCode
  index : Nat
  valley : Bool
  deriving DecidableEq, Repr

/-! ## Cab ports (Chapter 10) -/

/-- The control inputs record (Table 10-2). -/
structure Controls where
  key : Bool
  selector : Selector
  lever : Nat
  deadman : Bool
  button : Bool
  deriving DecidableEq, Repr

/-- An answer: the kind and tag answered, the result code and the answer payload (R200). -/
structure Answer where
  kind : Octet
  tag : Octet
  code : ResultCode
  payload : List Octet
  deriving DecidableEq, Repr

/-- The read-back cursor (R18). -/
structure Cursor where
  table : TableId
  index : Option Nat
  deriving DecidableEq, Repr

/-- One cab port (Table 10-1), less its change flags; `lastSent` holds the octets of the last answer sent, the model's own
(log 40). -/
structure Port where
  link : LinkState
  silence : Option Nat
  receive : List Octet
  asm : AsmState
  buffer : List Octet
  sending : Option Answer
  waiting : Option Answer
  errors : Nat
  controls : Option Controls
  cursor : Cursor
  lastSent : List Octet
  deriving DecidableEq, Repr

/-! ## Radio framer (Chapter 8) -/

/-- The receive side of the framer. `align` is the bit position of the last header read at the current alignment,
`search` the bit from which the hunt goes on, `offSearch` that of the offline hunt. -/
structure RadioRx where
  state : RxState
  align : Option Nat
  search : Nat
  frameNo : Option Nat
  badHeaders : Nat
  offTimer : Option Nat
  fallTimer : Option Nat
  offHunt : Bool
  offSearch : Nat
  superCand : Option Nat
  violated : Bool
  violatedPrev : Bool
  halfWhole : Bool
  judged : Nat
  failed : Nat
  farPending : Bool
  deriving DecidableEq, Repr

/-- The line state code with its debounce record and hold timer (R157, R158). -/
structure LineCode where
  candidate : Option Nat
  run : Nat
  value : Option Nat
  condition : CodeCondition
  holdTimer : Option Nat
  deriving DecidableEq, Repr

/-- The transmit side: the number of the next frame while keyed, the octets of the half under way with its own check
octet counted as 00h, the CRC-8 of the half before, the remote alarm sent, and the last frame sent. -/
structure RadioTx where
  frameNo : Option Nat
  half : List Octet
  prevCheck : Option Octet
  alarm : Bool
  lastFrame : List Octet
  deriving DecidableEq, Repr

/-! ## Valley message handler and link performance monitor (Chapter 9) -/

/-- The order outcome record (R168). -/
structure Outcomes where
  accepted : Option Octet
  refused : Option Octet
  reason : Option ResultCode
  tally : Nat
  deriving DecidableEq, Repr

/-- The valley message handler, less its reports. HUNTING is the empty assembly buffer (R164). -/
structure Handler where
  buffer : List Octet
  outcomes : Outcomes
  lineVersion : Option Nat
  versionInd : Bool
  stopService : Bool
  stopEmergency : Bool
  deriving DecidableEq, Repr

/-- An ALARM: its kind, the first-cause record at the join, and its repeat count (R173). -/
structure Alarm where
  kind : CauseKind
  first : FirstCause
  repeats : Nat
  deriving DecidableEq, Repr

/-- A report: a STATUS with its payload as composed, or an ALARM (R172, R173). -/
inductive Report where
  | status (payload : List Octet)
  | alarm (a : Alarm)
  deriving DecidableEq, Repr

/-- A slot of the report queue: the report, its car id, the report number once begun, whether it is being sent, and
how many of its octets have been given (R174, R176). -/
structure Slot where
  report : Report
  carId : Octet
  number : Option Nat
  sending : Bool
  given : Nat
  deriving DecidableEq, Repr

/-- The report queue and alarm backlog (9.5). -/
structure Reports where
  queue : List Slot
  backlog : List Alarm
  number : Nat
  timer : Option Nat
  deriving DecidableEq, Repr

/-- A counter with its overflow mark (R177). -/
structure Counter where
  value : Nat
  overflowed : Bool
  deriving DecidableEq, Repr

/-- Six counters (Table 9-5). -/
structure Counters where
  syncErr : Counter
  checkFail : Counter
  farFail : Counter
  slip : Counter
  loss : Counter
  msgBad : Counter
  deriving DecidableEq, Repr

/-- The link performance monitor (9.7). -/
structure Monitor where
  live : Counters
  interval : Nat
  snapshot : Counters
  snapInterval : Nat
  timer : Option Nat
  deriving DecidableEq, Repr

/-! ## Mode controller (Chapter 11) -/

/-- An open window of the parked watch: ms since its start, and its end in ms after the start (R193). -/
structure Window where
  elapsed : Nat
  closeAt : Nat
  deriving DecidableEq, Repr

/-- The mode controller (Table 11-1), less its valve watch. -/
structure ModeCtl where
  mode : CarMode
  periodTimer : Option Nat
  window : Option Window
  checkTimer : Option Nat
  resetCauses : ResetCauses
  modemPower : Bool
  modemKey : Bool
  deriving DecidableEq, Repr

end Sys2Proof.Machine
end

