-- ==== Sys2Proof/Machine/Octets.lean ====
section
/-! DEFINITION. Octet coding (R199): multi-octet fields most significant octet first, two's complement, the CRC-16 of
messages and of the store check (R13), the CRC-8 of radio halves (R153), and the codes of Table 12-1. -/

namespace Sys2Proof.Machine

/-- The low octet of a number. -/
def oct (n : Nat) : Octet := BitVec.ofNat 8 n

/-- A number in two octets, the most significant first (R199). -/
def oct2 (n : Nat) : List Octet := [oct (n / 256), oct n]

/-- A number in three octets, the most significant first (R199). -/
def oct3 (n : Nat) : List Octet := [oct (n / 65536), oct (n / 256), oct n]

/-- A signed number in two octets, two's complement (R199). -/
def octInt2 (i : Int) : List Octet := oct2 (i % 65536).toNat

/-- A signed number in three octets, two's complement (R199). -/
def octInt3 (i : Int) : List Octet := oct3 (i % 16777216).toNat

/-- A mark as one octet. -/
def octBool (b : Bool) : Octet := if b then 1#8 else 0#8

/-- The number two octets carry (R199). -/
def num2 (a b : Octet) : Nat := a.toNat * 256 + b.toNat

/-- The number three octets carry (R199). -/
def num3 (a b c : Octet) : Nat := a.toNat * 65536 + b.toNat * 256 + c.toNat

/-- The signed number two octets carry, two's complement (R199). -/
def int2 (a b : Octet) : Int := if a.toNat < 128 then (num2 a b : Int) else (num2 a b : Int) - 65536

/-- Bits as a number, bit 0 first. -/
def bitsNum : List Bool → Nat
  | [] => 0
  | b :: bs => (if b then 1 else 0) + 2 * bitsNum bs

/-- The eight bits of an octet, most significant first (R13, R144). -/
def Octet.bits (o : Octet) : List Bool :=
  [o.getLsbD 7, o.getLsbD 6, o.getLsbD 5, o.getLsbD 4, o.getLsbD 3, o.getLsbD 2, o.getLsbD 1, o.getLsbD 0]

/-- One bit into the CRC-16 register, polynomial 1021h (R13). -/
def crc16Bit (r : BitVec 16) (b : Bool) : BitVec 16 :=
  if r.getLsbD 15 ^^ b then (r <<< 1) ^^^ 0x1021#16 else r <<< 1

/-- One octet into the CRC-16 register, most significant bit first (R13). -/
def crc16Octet (r : BitVec 16) (o : Octet) : BitVec 16 := (Octet.bits o).foldl crc16Bit r

/-- The CRC-16 of octets: initial value FFFFh, no final inversion (R13, R165, R182). -/
def crc16 (l : List Octet) : BitVec 16 := l.foldl crc16Octet 0xFFFF#16

/-- A CRC-16 in two octets, high octet first (R199). -/
def crcOctets (r : BitVec 16) : List Octet := oct2 r.toNat

/-- One bit into the CRC-8 register, polynomial 07h (R153). -/
def crc8Bit (r : BitVec 8) (b : Bool) : BitVec 8 :=
  if r.getLsbD 7 ^^ b then (r <<< 1) ^^^ 0x07#8 else r <<< 1

/-- One octet into the CRC-8 register, most significant bit first (R153). -/
def crc8Octet (r : BitVec 8) (o : Octet) : BitVec 8 := (Octet.bits o).foldl crc8Bit r

/-- The CRC-8 of octets: initial value 00h, no final inversion (R153). -/
def crc8 (l : List Octet) : Octet := l.foldl crc8Octet 0x00#8

/-- The octets of a half with its own overhead octet (octet 23 of its first frame) counted as 00h (R153). -/
def halfForCheck (half : List Octet) : List Octet := half.set 23 0x00#8

/-! ## Codes of Table 12-1 -/

/-- Table 12-1, result code. -/
def ResultCode.num : ResultCode → Nat
  | .ok => 0
  | .clamped => 1
  | .absent => 2
  | .origin => 3
  | .rank => 4
  | .notDriving => 5
  | .stateFails => 6
  | .busy => 7
  | .full => 8
  | .version => 9
  | .range => 10
  | .unknownId => 11

/-- Table 12-1, car mode. -/
def CarMode.num : CarMode → Nat
  | .config => 0
  | .ready => 1
  | .drive => 2
  | .parked => 3
  | .waking => 4

/-- Table 12-1, cause kind. -/
def CauseKind.num : CauseKind → Nat
  | .overspeed => 0
  | .eoaPassed => 1
  | .valleyStop => 2
  | .driveLost => 3
  | .cabEmergency => 4
  | .rollaway => 5
  | .brakeFeedback => 6
  | .restart => 7
  | .sensor => 8
  | .lineEnd => 9

/-- Table 12-1, cab. -/
def cabNum : Option Cab → Nat
  | none => 0
  | some .upper => 1
  | some .lower => 2

/-- Table 12-1, origin. -/
def Origin.num : Origin → Nat
  | .cab c => cabNum (some c)
  | .valley => 3

/-- Table 12-1, direction. -/
def dirNum : Option Dir → Nat
  | none => 0
  | some .up => 1
  | some .down => 2

/-- Table 12-1, confidence. -/
def Confidence.num : Confidence → Nat
  | .unknown => 0
  | .declared => 1
  | .confirmed => 2
  | .drifting => 3
  | .lost => 4

/-- Table 12-1, supervision state. -/
def SupState.num : SupState → Nat
  | .normal => 0
  | .warning => 1
  | .intervene => 2
  | .trip => 3

/-- Table 12-1, limiting term. -/
def Limiting.num : Limiting → Nat
  | .ceiling => 0
  | .static => 1
  | .restriction _ => 2
  | .overflow => 3
  | .unconfirmed => 4
  | .radio => 5
  | .target _ _ _ => 6
  | .noProfile => 7
  | .noDirection => 8

/-- Table 12-1, target kind. -/
def TargetKind.num : TargetKind → Nat
  | .boundary => 0
  | .restriction => 1
  | .overflow => 2
  | .eoa => 3
  | .noAuthority => 4
  | .lineEnd => 5

/-- Table 12-1, spring brake. -/
def BrakeState.num : BrakeState → Nat
  | .applied => 0
  | .releasing => 1
  | .released => 2
  | .applying => 3
  | .fault => 4

/-- Table 12-1, leaf. -/
def LeafState.num : LeafState → Nat
  | .closedLocked => 0
  | .closedUnlocked => 1
  | .opening => 2
  | .opened => 3
  | .closing => 4
  | .reversing => 5
  | .obstructed => 6
  | .fault => 7
  | .isolated => 8

/-- Table 12-1, side state. -/
def SideState.num : SideState → Nat
  | .locked => 0
  | .released => 1

/-- Table 12-1, receive state. -/
def RxState.num : RxState → Nat
  | .hunt => 0
  | .frame => 1
  | .unchecked => 2
  | .checked => 3

/-- Table 12-1, link state. -/
def LinkState.num : LinkState → Nat
  | .silent => 0
  | .active => 1
  | .lost => 2

/-- Table 12-1, line code condition. -/
def CodeCondition.num : CodeCondition → Nat
  | .live => 0
  | .held => 1
  | .expired => 2

/-- Table 12-1, effective line code. -/
def EffectiveCode.num : EffectiveCode → Nat
  | .clear => 0
  | .caution => 1
  | .stop => 2

/-- Table 12-1, contact state. -/
def ContactState.num : ContactState → Nat
  | .live => 0
  | .degraded => 1
  | .void => 2

/-- Table 12-1, profile state. -/
def ProfileState.num : ProfileState → Nat
  | .empty => 0
  | .loading => 1
  | .valid => 2

/-- Platform side in the flags octet of a segment (R13). -/
def PlatformSide.num : PlatformSide → Nat
  | .none => 0
  | .a => 1
  | .b => 2
  | .both => 3

/-- Origins allowed (Table 12-3, kind 24). -/
def GateOrigins.num : GateOrigins → Nat
  | .cab => 0
  | .valley => 1
  | .both => 2

/-- Tables of READ_PROFILE_ENTRY (Table 12-3, kind 2). -/
def TableId.num : TableId → Nat
  | .segments => 0
  | .markers => 1
  | .restrictions => 2

/-- Reasons of a failed commit (Table 12-3, kind 19). -/
def CommitReason.num : CommitReason → Nat
  | .unwritten => 0
  | .notAtZero => 1
  | .notIncreasing => 2
  | .beyondEnd => 3

/-! ## Fields read from octets -/

/-- The table a code names (R16). -/
def tableOf (n : Nat) : Option TableId :=
  match n with
  | 0 => some .segments
  | 1 => some .markers
  | 2 => some .restrictions
  | _ => none

/-- The leaf a code names (Table 12-3, kind 15). -/
def leafOf (n : Nat) : Option LeafId :=
  match n with
  | 0 => some .a1
  | 1 => some .a2
  | 2 => some .b1
  | 3 => some .b2
  | _ => none

/-- The sides a side code names: A, B, and BOTH or ALL (Table 12-1). -/
def sidesOf (n : Nat) : Option (List SideId) :=
  match n with
  | 0 => some [.a]
  | 1 => some [.b]
  | 2 => some [.a, .b]
  | _ => none

/-- The direction a code names (Table 12-6). -/
def dirOf (n : Nat) : Option Dir :=
  match n with
  | 1 => some .up
  | 2 => some .down
  | _ => none

/-- The platform side of a flags octet's bits 1..0 (R13). -/
def sideOf (n : Nat) : PlatformSide :=
  match n % 4 with
  | 0 => .none
  | 1 => .a
  | 2 => .b
  | _ => .both

/-- The selector position a code names (Table 12-1). -/
def selectorOf (n : Nat) : Option Selector :=
  match n with
  | 0 => some .neutral
  | 1 => some .towardThisEnd
  | 2 => some .away
  | _ => none

/-- A two-valued code: 0 or 1 (Table 12-1). -/
def boolOf (n : Nat) : Option Bool :=
  match n with
  | 0 => some false
  | 1 => some true
  | _ => none

/-- The eleven octets of a segment's store form (Table 1-6). -/
def Segment.store (g : Segment) : List Octet :=
  oct3 g.start ++ octInt2 g.gradient ++ oct2 g.limitUp ++ oct2 g.limitDown
    ++ [oct ((if g.shadow then 4 else 0) + g.side.num), oct g.station]

/-- The three octets of a marker's store form (Table 1-6). -/
def markerStore (p : Nat) : List Octet := oct3 p

/-- A segment read from eleven octets of store form, its fields in range: start at most 99,999, gradient from -480 to
+480, limits at most 1,200, flags bits 7..3 at 0, station at most 63 (R7, 12.2). -/
def segmentOf (l : List Octet) : Option Segment :=
  match l with
  | a :: b :: c :: g1 :: g2 :: u1 :: u2 :: d1 :: d2 :: f :: st :: _ =>
    let start := num3 a b c
    let gradient := int2 g1 g2
    let up := num2 u1 u2
    let down := num2 d1 d2
    if start ≤ 99999 ∧ -480 ≤ gradient ∧ gradient ≤ 480 ∧ up ≤ 1200 ∧ down ≤ 1200 ∧ f.toNat < 8 ∧ st.toNat ≤ 63 then
      some { start := start, gradient := gradient, limitUp := up, limitDown := down, side := sideOf f.toNat,
             shadow := decide (4 ≤ f.toNat), station := st.toNat }
    else none
  | _ => none

/-! ## Message framing -/

/-- How a run of octets whose first is a start octet stands: not yet whole, bad (by its length or its CRC), or a valid
message of `size` octets. -/
inductive Framing where
  | partialMessage
  | bad
  | valid (body : List Octet) (size : Nat)
  deriving DecidableEq, Repr

/-- Judges octets that begin with a start octet. A message is its start, a length from 2 to `top`, `extra` octets the
length does not count, `length` octets, and the CRC-16 over all between the start and itself (R164, R165, R182). -/
def frameOf (top extra : Nat) (l : List Octet) : Framing :=
  match l with
  | _ :: len :: rest =>
    let n := len.toNat
    if n < 2 ∨ top < n then .bad
    else if rest.length < n + extra + 2 then .partialMessage
    else
      let body := rest.take (n + extra)
      if crcOctets (crc16 (len :: body)) = (rest.drop (n + extra)).take 2 then .valid body (n + extra + 4) else .bad
  | _ => .partialMessage

/-- The octets of a cab message, start to CRC (Table 12-2). -/
def cabOctets (kind : Octet) (m : CabMsg) : List Octet :=
  let body := oct (m.payload.length + 2) :: kind :: m.tag :: m.payload
  0xA5#8 :: body ++ crcOctets (crc16 body)

/-- The octets of a valley message, start to CRC (Table 12-5). -/
def valleyOctets (kind : Octet) (m : ValleyMsg) : List Octet :=
  let body := oct (m.payload.length + 2) :: m.car :: kind :: m.order :: m.payload
  0xC3#8 :: body ++ crcOctets (crc16 body)

/-- The octets of an answer, start to CRC (R200): the length counts the octets from the kind to the last payload octet,
and the CRC-16 over length to payload follows, high octet first (R199). -/
def Answer.octets (a : Answer) : List Octet :=
  let body := oct (a.payload.length + 3) :: a.kind :: a.tag :: oct a.code.num :: a.payload
  0xA5#8 :: body ++ crcOctets (crc16 body)

end Sys2Proof.Machine
end

