-- ==== Sys2Proof/Config.lean ====
section
/-! DEFINITION. What the model fixes beside the spec: the wired inputs as they read when the model starts (log 5), and
the one value the spec leaves open (log 11). -/

namespace Sys2Proof.Config

/-- FREE VALUE (log 11): the number carried in the three octets that show a target position below 0, which the spec's
unsigned positions (R199) give no form for. -/
opaque negativePosition : Int → Nat

/-- DESIGN CHOICE (log 5): both tooth sensors read LOW at the start, so the phase is Q0. -/
def startPhase : Machine.Phase := .q0

/-- DESIGN CHOICE (log 5): each feedback switch reads APPLIED at the start. -/
def startFeedback : Feedback := .applied

/-- DESIGN CHOICE (log 5): both valve readbacks read de-energized at the start. -/
def startReadback : Bool := false

/-- DESIGN CHOICE (log 5): at the start each locked switch reads LOCKED, each open-end switch NOT_OPEN and each
obstruction edge CLEAR. -/
def startLocked : Bool := true

@[inherit_doc startLocked]
def startOpenEnd : Bool := false

@[inherit_doc startLocked]
def startEdge : Bool := false

end Sys2Proof.Config
end

