-- ==== Sys2Proof/Machine/Defaults.lean ====
section
/-! DEFINITION. The fixed figures of the spec: gate defaults (Table 7-3), parameters with their defaults and ranges
(Table 7-5), and the durations the chapters state. -/

namespace Sys2Proof.Machine

/-- An absent gate entry (R130). DESIGN CHOICE (log 38): its other fields, which no request reads, are 0, no, BOTH and
locked. -/
def gateAbsent : GateEntry := { present := false, least := 0, drive := false, origins := .both, locked := true }

/-- A cab kind's default gate (Table 7-3). -/
def gateCab (least : Nat) (drive locked : Bool) : GateEntry :=
  { present := true, least := least, drive := drive, origins := .cab, locked := locked }

/-- A valley kind's default gate: locked, without drive required (Table 7-3). -/
def gateValley (least : Nat) : GateEntry :=
  { present := true, least := least, drive := false, origins := .valley, locked := true }

/-- The gate defaults of entries 0 to 24 (Table 7-3). -/
def cabGates : List GateEntry :=
  [ gateCab 0 false true, gateCab 0 false false, gateCab 0 false false, gateCab 0 false false, gateCab 0 false false,
    gateCab 1 false false, gateCab 1 false false, gateCab 2 true false, gateCab 2 true false, gateCab 2 true false,
    gateCab 2 true true, gateCab 2 true true, gateCab 1 false true, gateCab 2 true false, gateCab 1 false true,
    gateCab 1 false false, gateCab 1 false false, gateCab 1 false false, gateCab 1 false false, gateCab 1 false false,
    gateCab 2 true false, gateCab 1 false false, gateCab 1 false false, gateCab 2 true false, gateCab 1 false false ]

/-- The gate defaults of entries 32 to 41 (Table 7-3). -/
def valleyGates : List GateEntry :=
  [ gateValley 0, gateValley 3, gateValley 3, gateValley 3, gateValley 1,
    gateValley 3, gateValley 1, gateValley 3, gateValley 3, gateValley 0 ]

/-- The 48 gate entries after a power-on reset (R130). -/
def gateDefaults : List GateEntry :=
  cabGates ++ List.replicate 7 gateAbsent ++ valleyGates ++ List.replicate 6 gateAbsent

/-- The parameters after a power-on reset (Table 7-5). -/
def paramDefaults : Params :=
  { carLength := 160, markerWindow := 8, maxUnconfirmed := 1500, degrade := 3, void := 20, shadowVoid := 90,
    carCeiling := 700, unconfirmedCeiling := 150, radioCeiling := 250, aCap := 300, aFloor := 20, reaction := 15,
    targetMargin := 20, warningMargin := 30, serviceMargin := 60, emergencyMargin := 100, holdDelay := 2000,
    doorGradient := 120, autoTransfer := 1, carId := 1 }

/-- The ranges of Table 7-5, by parameter number. -/
def paramRanges : List (Nat × Nat) :=
  [ (20, 400), (1, 50), (100, 10000), (1, 10), (5, 60), (20, 300), (100, 1200), (20, 600), (20, 1200), (100, 600),
    (10, 100), (0, 50), (0, 100), (0, 200), (0, 300), (0, 400), (500, 10000), (0, 480), (0, 1), (1, 15) ]

/-- The value of a parameter by its number (Table 7-5). -/
def Params.get (p : Params) : Nat → Nat
  | 0 => p.carLength
  | 1 => p.markerWindow
  | 2 => p.maxUnconfirmed
  | 3 => p.degrade
  | 4 => p.void
  | 5 => p.shadowVoid
  | 6 => p.carCeiling
  | 7 => p.unconfirmedCeiling
  | 8 => p.radioCeiling
  | 9 => p.aCap
  | 10 => p.aFloor
  | 11 => p.reaction
  | 12 => p.targetMargin
  | 13 => p.warningMargin
  | 14 => p.serviceMargin
  | 15 => p.emergencyMargin
  | 16 => p.holdDelay
  | 17 => p.doorGradient
  | 18 => p.autoTransfer
  | 19 => p.carId
  | _ => 0

/-- The parameters with one replaced, by its number (Table 7-5). -/
def Params.set (p : Params) (n v : Nat) : Params :=
  match n with
  | 0 => { p with carLength := v }
  | 1 => { p with markerWindow := v }
  | 2 => { p with maxUnconfirmed := v }
  | 3 => { p with degrade := v }
  | 4 => { p with void := v }
  | 5 => { p with shadowVoid := v }
  | 6 => { p with carCeiling := v }
  | 7 => { p with unconfirmedCeiling := v }
  | 8 => { p with radioCeiling := v }
  | 9 => { p with aCap := v }
  | 10 => { p with aFloor := v }
  | 11 => { p with reaction := v }
  | 12 => { p with targetMargin := v }
  | 13 => { p with warningMargin := v }
  | 14 => { p with serviceMargin := v }
  | 15 => { p with emergencyMargin := v }
  | 16 => { p with holdDelay := v }
  | 17 => { p with doorGradient := v }
  | 18 => { p with autoTransfer := v }
  | 19 => { p with carId := v }
  | _ => p

/-! ## Durations, in ms -/

/-- R27. -/
def standstillTime : Nat := 1500
/-- R60. -/
def evaluationPeriod : Nat := 50
/-- R84. -/
def vigilanceTime : Nat := 3000
/-- R90. -/
def releaseTime : Nat := 1500
/-- R90. -/
def applyTime : Nat := 800
/-- R116. -/
def openLimit : Nat := 6000
/-- R117. -/
def closeLimit : Nat := 8000
/-- R118. -/
def reversalTime : Nat := 1000
/-- R184. -/
def silenceTime : Nat := 600
/-- R146. -/
def offlineTime : Nat := 480
/-- R146. -/
def fallbackTime : Nat := 4000
/-- R172. -/
def reportPeriod : Nat := 500
/-- R178. -/
def transferPeriod : Nat := 1000
/-- R193. -/
def watchPeriod : Nat := 10000
/-- R193: a window's first end, the least time it stays open after an event that moves it, and its cap. -/
def windowFirst : Nat := 2000
@[inherit_doc windowFirst]
def windowStay : Nat := 1000
@[inherit_doc windowFirst]
def windowCap : Nat := 6000
/-- R194. -/
def checkTime : Nat := 1000
/-- R196. -/
def readbackTime : Nat := 20
/-- R14. -/
def verifyPeriod : Nat := 10000
/-- R53: the contact timer saturates here. -/
def contactMax : Nat := 600000
/-- R68: the look-ahead in teeth. -/
def lookAhead : Nat := 10000
/-- R22: the highest tooth count and distance since marker. -/
def positionMax : Nat := 99999
/-- R62: the highest speed limit in cm/s. -/
def limitMax : Nat := 1200

end Sys2Proof.Machine
end

