-- ==== Sys2Proof/Machine/State.lean ====
section
/-! DEFINITION. The state of the ZC-460: one field per block of Figure 0-1, its replacement block by block, the ways a
step can stop (none does), and the state right after a power-on reset. -/

namespace Sys2Proof.Machine

/-- The state of the part. -/
structure State where
  /-- the parameters of Table 7-5 -/
  params : Params
  /-- the gate table, entries 0 to 47 (R130) -/
  gates : List GateEntry
  /-- the drive token record (R136) -/
  token : Token
  /-- the refusal record (R133) -/
  refusal : Option Refused
  /-- the line store (Chapters 1 and 3) -/
  line : LineStore
  /-- the position unit (Chapter 2) -/
  pos : Position
  /-- the valley contact timer (3.6) -/
  contact : Contact
  /-- the supervision unit (Chapter 4) -/
  sup : Supervision
  /-- the brake unit (Chapter 5) -/
  brk : Brakes
  /-- the watch over the valve readbacks (R196) -/
  valves : ValveWatch
  /-- the door unit (Chapter 6) -/
  doors : Doors
  /-- the upper cab port (Chapter 10) -/
  upper : Port
  /-- the lower cab port (Chapter 10) -/
  lower : Port
  /-- the change flags of both cabs (R187) -/
  flags : CabFlags
  /-- the receive side of the radio framer (Chapter 8) -/
  rx : RadioRx
  /-- the line state code (8.7) -/
  lineCode : LineCode
  /-- the transmit side of the radio framer (8.10) -/
  tx : RadioTx
  /-- the valley message handler (Chapter 9) -/
  handler : Handler
  /-- the report queue and alarm backlog (9.5) -/
  reports : Reports
  /-- the link performance monitor (9.7) -/
  mon : Monitor
  /-- the mode controller (Chapter 11) -/
  mode : ModeCtl
  /-- the commands waiting, first in, first out (the model's own) -/
  pending : List Instr
  deriving DecidableEq, Repr

/-- Replaces the parameters of Table 7-5. -/
def State.withParams (s : State) (x : Params) : State := { s with params := x }

/-- Replaces the gate table, entries 0 to 47 (R130). -/
def State.withGates (s : State) (x : List GateEntry) : State := { s with gates := x }

/-- Replaces the drive token record (R136). -/
def State.withToken (s : State) (x : Token) : State := { s with token := x }

/-- Replaces the refusal record (R133). -/
def State.withRefusal (s : State) (x : Option Refused) : State := { s with refusal := x }

/-- Replaces the line store (Chapters 1 and 3). -/
def State.withLine (s : State) (x : LineStore) : State := { s with line := x }

/-- Replaces the position unit (Chapter 2). -/
def State.withPos (s : State) (x : Position) : State := { s with pos := x }

/-- Replaces the valley contact timer (3.6). -/
def State.withContact (s : State) (x : Contact) : State := { s with contact := x }

/-- Replaces the supervision unit (Chapter 4). -/
def State.withSup (s : State) (x : Supervision) : State := { s with sup := x }

/-- Replaces the brake unit (Chapter 5). -/
def State.withBrk (s : State) (x : Brakes) : State := { s with brk := x }

/-- Replaces the watch over the valve readbacks (R196). -/
def State.withValves (s : State) (x : ValveWatch) : State := { s with valves := x }

/-- Replaces the door unit (Chapter 6). -/
def State.withDoors (s : State) (x : Doors) : State := { s with doors := x }

/-- Replaces the upper cab port (Chapter 10). -/
def State.withUpper (s : State) (x : Port) : State := { s with upper := x }

/-- Replaces the lower cab port (Chapter 10). -/
def State.withLower (s : State) (x : Port) : State := { s with lower := x }

/-- Replaces the change flags of both cabs (R187). -/
def State.withFlags (s : State) (x : CabFlags) : State := { s with flags := x }

/-- Replaces the receive side of the radio framer (Chapter 8). -/
def State.withRx (s : State) (x : RadioRx) : State := { s with rx := x }

/-- Replaces the line state code (8.7). -/
def State.withLineCode (s : State) (x : LineCode) : State := { s with lineCode := x }

/-- Replaces the transmit side of the radio framer (8.10). -/
def State.withTx (s : State) (x : RadioTx) : State := { s with tx := x }

/-- Replaces the valley message handler (Chapter 9). -/
def State.withHandler (s : State) (x : Handler) : State := { s with handler := x }

/-- Replaces the report queue and alarm backlog (9.5). -/
def State.withReports (s : State) (x : Reports) : State := { s with reports := x }

/-- Replaces the link performance monitor (9.7). -/
def State.withMon (s : State) (x : Monitor) : State := { s with mon := x }

/-- Replaces the mode controller (Chapter 11). -/
def State.withMode (s : State) (x : ModeCtl) : State := { s with mode := x }

/-- Replaces the commands waiting, first in, first out (the model's own). -/
def State.withPending (s : State) (x : List Instr) : State := { s with pending := x }

/-- The ways a command can fault: none. The spec gives every row an effect in every state (INVENTORY, Faults), so no
constructor is needed. -/
inductive Fault where
  deriving DecidableEq, Repr

/-- The ways a command can be refused by the model itself. -/
inductive Refusal where
  /-- A command whose meaning is not written yet, by its mnemonic. Raised by no arm of `exec`. Safe. -/
  | notModelled (mnemonic : String)
  deriving DecidableEq, Repr

/-! ## The state after a power-on reset (R198) -/

/-- A spring brake at a reset: APPLYING with its apply timer, or APPLIED at once where its feedback reads APPLIED
(R107). -/
def SpringBrake.atReset (fb : Feedback) : SpringBrake :=
  match fb with
  | .applied => { state := .applied, timer := none, feedback := .applied }
  | .clear => { state := .applying, timer := some applyTime, feedback := .clear }

/-- A leaf at a reset: CLOSED_LOCKED where its locked switch reads LOCKED, else FAULT (R126). -/
def Leaf.atReset (locked openEnd edge : Bool) : Leaf :=
  { state := if locked then .closedLocked else .fault, timer := none, reversals := 0, locked := locked,
    openEnd := openEnd, edge := edge }

/-- A cab port after every kind of reset (Table 10-5). -/
def Port.atReset : Port :=
  { link := .silent, silence := none, receive := [], asm := .hunting, buffer := [], sending := none, waiting := none,
    errors := 0, controls := none, cursor := { table := .segments, index := none },
    lastSent := [] }

/-- The change flags after every kind of reset (R190). -/
def CabFlags.atReset : CabFlags := { upper := { mode := true }, lower := { mode := true } }

/-- The receive side after every kind of reset (Table 8-6). -/
def RadioRx.atReset : RadioRx :=
  { state := .hunt, align := none, search := 0, frameNo := none, badHeaders := 0, offTimer := none, fallTimer := none,
    offHunt := false, offSearch := 0, superCand := none, violated := false, violatedPrev := false, halfWhole := false,
    judged := 0, failed := 0, farPending := false }

/-- The line state code after every kind of reset (Table 8-6). -/
def LineCode.atReset : LineCode :=
  { candidate := none, run := 0, value := none, condition := .expired, holdTimer := none }

/-- The transmit side after the keying every reset makes (R160, R198). -/
def RadioTx.keyed : RadioTx :=
  { frameNo := some 0, half := [], prevCheck := none, alarm := false, lastFrame := [] }

/-- The valley message handler after every kind of reset (Table 9-7). -/
def Handler.atReset : Handler :=
  { buffer := [], outcomes := { accepted := none, refused := none, reason := none, tally := 0 }, lineVersion := none,
    versionInd := false, stopService := false, stopEmergency := false }

/-- Six counters at 0 with their marks clear (R177). -/
def Counters.zero : Counters :=
  { syncErr := ⟨0, false⟩, checkFail := ⟨0, false⟩, farFail := ⟨0, false⟩, slip := ⟨0, false⟩, loss := ⟨0, false⟩,
    msgBad := ⟨0, false⟩ }

/-- The token record naming no cab (R143). -/
def Token.nobody : Token := { driving := none, lendLink := none, markUpper := false, markLower := false }

/-- A line store that holds nothing (Tables 1-7 and 3-5). -/
def LineStore.emptied : LineStore :=
  { profile := .empty, loader := none, segCount := 0, mkrCount := 0, lineEnd := 0, version := 0, storeCheck := 0#16,
    segments := [], markers := [], verifyTimer := none, restrictions := [], overflow := none, authority := none }

/-- The demand terms after every kind of reset (Table 5-6). -/
def Terms.atReset : Terms :=
  { driver := 0, supervision := 0, vigilance := 0, valley := 0, door := 0, contact := 100, emergency := 100 }

/-- The first-cause record a power-on reset writes (R107). -/
def FirstCause.powerOn : FirstCause := { kind := .restart, count := 0, speed := 0, mode := .config }

/-- The payload of the STATUS offered at the keying of the power-on reset (Table 12-7): mode CONFIG, cause set
RESTART, first cause RESTART, all else 0. -/
def State.resetStatus : List Octet :=
  [0, 0, 0, 0, 0, 0, 0, 0, 0, 0, 0, 0x00, 0x80, 7, 0, 0, 0, 0, 0, 0, 0, 0, 0, 0, 0, 0, 0, 0, 0, 0, 0, 0, 0, 0, 0, 0, 0]

/-- The state right after a power-on reset (R198), the wired inputs reading as Config says (log 5). -/
def State.reset : State :=
  { params := paramDefaults
    gates := gateDefaults
    token := Token.nobody
    refusal := none
    line := LineStore.emptied
    pos := { count := 0, phase := Config.startPhase, dir := none, speed := 0, runStart := none, standstill := true,
             standTimer := none, confidence := .unknown, correction := 0, distance := 0 }
    contact := { value := contactMax, state := .void, shadow := false }
    sup := { travel := none, permitted := 0, warning := 30, limiting := .noProfile, targets := [], state := .normal,
             passedMark := false, evalTimer := evaluationPeriod }
    brk := { rack := SpringBrake.atReset Config.startFeedback, hold := SpringBrake.atReset Config.startFeedback,
             terms := Terms.atReset, serviceOut := 100, tractionCut := true, vigTimer := none, holdTimer := none,
             long := true, causes := { restart := true }, first := some FirstCause.powerOn, rollRunning := false,
             rollCount := 0 }
    valves := { rackReadback := Config.startReadback, holdReadback := Config.startReadback, timer := none }
    doors := { sideA := .locked, sideB := .locked
               a1 := Leaf.atReset Config.startLocked Config.startOpenEnd Config.startEdge
               a2 := Leaf.atReset Config.startLocked Config.startOpenEnd Config.startEdge
               b1 := Leaf.atReset Config.startLocked Config.startOpenEnd Config.startEdge
               b2 := Leaf.atReset Config.startLocked Config.startOpenEnd Config.startEdge }
    upper := Port.atReset
    lower := Port.atReset
    flags := CabFlags.atReset
    rx := RadioRx.atReset
    lineCode := LineCode.atReset
    tx := RadioTx.keyed
    handler := Handler.atReset
    reports := { queue := [ { report := .alarm { kind := .restart, first := FirstCause.powerOn, repeats := 1 },
                              carId := 1#8, number := none, sending := false, given := 0 },
                            { report := .status State.resetStatus, carId := 1#8, number := none, sending := false,
                              given := 0 } ]
                 backlog := [], number := 0, timer := some reportPeriod }
    mon := { live := Counters.zero, interval := 0, snapshot := Counters.zero, snapInterval := 0,
             timer := some transferPeriod }
    mode := { mode := .config, periodTimer := none, window := none, checkTimer := none,
              resetCauses := { power := true }, modemPower := true, modemKey := true }
    pending := [] }

end Sys2Proof.Machine
end

