-- ==== Sys2Proof/Machine/Flags.lean ====
section
/-! DEFINITION. The sets of the spec as operations: the cause set (R99), the change flags and attention lines (R187,
R188), the reset cause record (R197). -/

namespace Sys2Proof.Machine

/-! ## The cause set -/

/-- Whether the set holds a kind (R99). -/
def CauseSet.has (c : CauseSet) : CauseKind → Bool
  | .overspeed => c.overspeed
  | .eoaPassed => c.eoaPassed
  | .valleyStop => c.valleyStop
  | .driveLost => c.driveLost
  | .cabEmergency => c.cabEmergency
  | .rollaway => c.rollaway
  | .brakeFeedback => c.brakeFeedback
  | .restart => c.restart
  | .sensor => c.sensor
  | .lineEnd => c.lineEnd

/-- The set with a kind joined to it (R99). -/
def CauseSet.join (c : CauseSet) : CauseKind → CauseSet
  | .overspeed => { c with overspeed := true }
  | .eoaPassed => { c with eoaPassed := true }
  | .valleyStop => { c with valleyStop := true }
  | .driveLost => { c with driveLost := true }
  | .cabEmergency => { c with cabEmergency := true }
  | .rollaway => { c with rollaway := true }
  | .brakeFeedback => { c with brakeFeedback := true }
  | .restart => { c with restart := true }
  | .sensor => { c with sensor := true }
  | .lineEnd => { c with lineEnd := true }

/-- Whether the set is empty. -/
def CauseSet.isEmpty (c : CauseSet) : Bool :=
  !(c.overspeed || c.eoaPassed || c.valleyStop || c.driveLost || c.cabEmergency || c.rollaway || c.brakeFeedback
    || c.restart || c.sensor || c.lineEnd)

/-- The set as sent: two octets, bit 0 the least significant bit of the second (R199). -/
def CauseSet.octets (c : CauseSet) : List Octet :=
  oct2 (bitsNum [c.overspeed, c.eoaPassed, c.valleyStop, c.driveLost, c.cabEmergency, c.rollaway, c.brakeFeedback,
    c.restart, c.sensor, c.lineEnd])

/-! ## The change flags -/

/-- Whether a cab's flags hold a kind (R187). -/
def FlagSet.has (f : FlagSet) : FlagKind → Bool
  | .mode => f.mode
  | .token => f.token
  | .supervision => f.supervision
  | .causes => f.causes
  | .doors => f.doors
  | .brakes => f.brakes
  | .radio => f.radio
  | .lineCode => f.lineCode
  | .lineRecord => f.lineRecord
  | .wake => f.wake

/-- A cab's flags with a kind added (R187). -/
def FlagSet.add (f : FlagSet) : FlagKind → FlagSet
  | .mode => { f with mode := true }
  | .token => { f with token := true }
  | .supervision => { f with supervision := true }
  | .causes => { f with causes := true }
  | .doors => { f with doors := true }
  | .brakes => { f with brakes := true }
  | .radio => { f with radio := true }
  | .lineCode => { f with lineCode := true }
  | .lineRecord => { f with lineRecord := true }
  | .wake => { f with wake := true }

/-- Whether a cab's flags are empty. -/
def FlagSet.isEmpty (f : FlagSet) : Bool :=
  !(f.mode || f.token || f.supervision || f.causes || f.doors || f.brakes || f.radio || f.lineCode || f.lineRecord
    || f.wake)

/-- A cab's flags as sent (R199). -/
def FlagSet.octets (f : FlagSet) : List Octet :=
  oct2 (bitsNum [f.mode, f.token, f.supervision, f.causes, f.doors, f.brakes, f.radio, f.lineCode, f.lineRecord,
    f.wake])

/-- One cab's flags. -/
def CabFlags.get (f : CabFlags) : Cab → FlagSet
  | .upper => f.upper
  | .lower => f.lower

/-- Both cabs' flags with a kind added to each (R187). -/
def CabFlags.add (f : CabFlags) (k : FlagKind) : CabFlags := { upper := f.upper.add k, lower := f.lower.add k }

/-- Both cabs' flags with one cab's emptied (R189). -/
def CabFlags.emptied (f : CabFlags) : Cab → CabFlags
  | .upper => { f with upper := {} }
  | .lower => { f with lower := {} }

/-- An owner reports a change of a kind: it joins the flags of both ports (R187). -/
def State.flag (k : FlagKind) (s : State) : State := s.withFlags (s.flags.add k)

/-- The attention line of a cab: asserted while its change flags are non-empty (R188). -/
def State.attention (s : State) (c : Cab) : Bool := !(s.flags.get c).isEmpty

/-! ## The reset cause record -/

/-- The flags as sent: bit 0 PIN, 1 STORE, 2 OUTPUT, 3 POWER (Table 12-3, kind 5). -/
def ResetCauses.octet (r : ResetCauses) : Octet := oct (bitsNum [r.pin, r.store, r.output, r.power])

/-- The record after a reset of a kind (R197). -/
def ResetCauses.after (r : ResetCauses) : ResetKind → ResetCauses
  | .powerOn => { power := true }
  | .pin => { r with pin := true }
  | .internalStore => { r with store := true }
  | .internalOutput => { r with output := true }

end Sys2Proof.Machine
end

