-- ==== Sys2Proof/Machine/Operands.lean ====
section
/-! DEFINITION. What the commands read: the indexed tables and the profile's lookups (R2, R16), the car's ends and
extent (R33), a cab's controls, rank and eligibility (R127, R128), the selected direction (R61), and small queries the
rules of several chapters share. -/

namespace Sys2Proof.Machine

/-! ## Indexed tables (R1, R3) -/

/-- The entry at an index, if written. -/
def Table.get {α : Type} (t : Table α) (i : Nat) : Option α :=
  match t with
  | [] => none
  | (j, x) :: rest => if i = j then some x else Table.get rest i

/-- The table with an entry written at an index, replacing any entry there (R1). -/
def Table.put {α : Type} (t : Table α) (i : Nat) (x : α) : Table α :=
  match t with
  | [] => [(i, x)]
  | (j, y) :: rest =>
    if i < j then (i, x) :: (j, y) :: rest
    else if i = j then (i, x) :: rest
    else (j, y) :: Table.put rest i x

/-- The table with every index at or above `n` emptied (R11). -/
def Table.below {α : Type} (t : Table α) (n : Nat) : Table α := t.filter fun e => decide (e.1 < n)

/-- One more than the highest written index, 0 when none is written (Table 1-8). -/
def Table.span {α : Type} (t : Table α) : Nat :=
  match t with
  | [] => 0
  | [(j, _)] => j + 1
  | _ :: rest => Table.span rest

/-- Canonical form: indices strictly rising and below `n`. -/
def Table.wf {α : Type} (n : Nat) (t : Table α) : Bool :=
  match t with
  | [] => true
  | [(i, _)] => decide (i < n)
  | (i, _) :: (j, y) :: rest => decide (i < j) && Table.wf n ((j, y) :: rest)

/-! ## The profile's lookups (R2) -/

/-- A segment with the closed span of positions it covers and its index. -/
structure Span where
  seg : Segment
  first : Int
  last : Int
  index : Nat
  deriving DecidableEq, Repr

/-- The spans of segments in index order: each up to the next start less one, the last up to the line end (R2). -/
def spansOf (lineEnd : Nat) : Nat → List Segment → List Span
  | _, [] => []
  | i, [g] => [{ seg := g, first := g.start, last := lineEnd, index := i }]
  | i, g :: h :: rest =>
    { seg := g, first := g.start, last := (h.start : Int) - 1, index := i } :: spansOf lineEnd (i + 1) (h :: rest)

/-- The covered spans of the committed profile; none in EMPTY and LOADING (R2). -/
def LineStore.spans (l : LineStore) : List Span :=
  if l.profile = .valid then spansOf l.lineEnd 0 (l.segments.map (·.2)) else []

/-- The segments whose covered span has a position in common with `lo..hi`, in index order (R2). -/
def LineStore.overlapping (l : LineStore) (lo hi : Int) : List Span :=
  l.spans.filter fun p => decide (p.first ≤ hi ∧ lo ≤ p.last)

/-- The segment at a position (R2). -/
def LineStore.segmentAt (l : LineStore) (p : Int) : Option Segment :=
  ((l.spans.find? fun q => decide (q.first ≤ p ∧ p ≤ q.last)).map (·.seg))

/-- The marker positions presented to the position unit; none in EMPTY and LOADING (R3). -/
def LineStore.markerList (l : LineStore) : List Nat :=
  if l.profile = .valid then l.markers.map (·.2) else []

/-- The profile version as committed, 0 where the profile state is not VALID (R169). -/
def LineStore.committedVersion (l : LineStore) : Nat := if l.profile = .valid then l.version else 0

/-- The store check of the entries held (R13). -/
def LineStore.freshCheck (l : LineStore) : BitVec 16 :=
  crc16 ((l.segments.map fun e => e.2.store).flatten ++ (l.markers.map fun e => markerStore e.2).flatten)

/-- The restriction of an id (R39). -/
def LineStore.restriction (l : LineStore) (id : Nat) : Option Restriction := l.restrictions.find? fun r => r.id == id

/-! ## The car's ends (R33) -/

/-- The upper end. -/
def State.upperEnd (s : State) : Int := s.pos.count

/-- The lower end, which may be below 0. -/
def State.lowerEnd (s : State) : Int := (s.pos.count : Int) - s.params.carLength

/-- The front end in a direction. -/
def State.frontEnd (s : State) : Dir → Int
  | .up => s.upperEnd
  | .down => s.lowerEnd

/-- The rear end in a direction. -/
def State.rearEnd (s : State) : Dir → Int
  | .up => s.lowerEnd
  | .down => s.upperEnd

/-- The segments overlapping the car extent (R33). -/
def State.extentSpans (s : State) : List Span := s.line.overlapping s.lowerEnd s.upperEnd

/-- Whether a segment under the car has a gradient whose magnitude exceeds the door gradient threshold (R111, R114). -/
def State.steep (s : State) : Bool :=
  s.extentSpans.any fun p => decide (s.params.doorGradient < p.seg.gradient.natAbs)

/-- Whether the front end, in an authority's direction, has passed its EOA (R48). -/
def State.passedEoa (s : State) (a : Authority) : Bool :=
  match a.dir with
  | .up => decide ((a.eoa : Int) < s.upperEnd)
  | .down => decide (s.lowerEnd < (a.eoa : Int))

/-! ## Cabs -/

/-- The other cab. -/
def otherCab : Cab → Cab
  | .upper => .lower
  | .lower => .upper

/-- A cab's port. -/
def State.port (s : State) : Cab → Port
  | .upper => s.upper
  | .lower => s.lower

/-- Replaces a cab's port. -/
def State.withPort (s : State) (c : Cab) (p : Port) : State :=
  match c with
  | .upper => s.withUpper p
  | .lower => s.withLower p

/-- Whether a port's last record shows the key ON; OFF where it holds none (R127). -/
def Port.keyOn (p : Port) : Bool :=
  match p.controls with
  | some r => r.key
  | none => false

/-- Whether a port's last record shows the emergency button PRESSED; released where it holds none (R100). -/
def Port.buttonPressed (p : Port) : Bool :=
  match p.controls with
  | some r => r.button
  | none => false

/-- Whether a cab is eligible: key ON and link ACTIVE (7.6). -/
def State.eligible (s : State) (c : Cab) : Bool := (s.port c).keyOn && decide ((s.port c).link = .active)

/-- The rank of a cab (R127). -/
def State.cabRank (s : State) (c : Cab) : Nat :=
  if s.token.driving = some c then 2 else if s.eligible c then 1 else 0

/-- The rank of the valley (R128). -/
def State.valleyRank (s : State) : Nat :=
  match s.rx.state with
  | .checked => 3
  | .unchecked => 1
  | .hunt => 0
  | .frame => 0

/-- The rank of an origin (R127, R128). -/
def State.rank (s : State) : Origin → Nat
  | .cab c => s.cabRank c
  | .valley => s.valleyRank

/-- Whether a cab is marked lending (Table 7-6). -/
def Token.lending (t : Token) : Cab → Bool
  | .upper => t.markUpper
  | .lower => t.markLower

/-- The lending marks as sent: bit 0 upper, bit 1 lower (Table 12-3). -/
def Token.marksOctet (t : Token) : Octet := oct (bitsNum [t.markUpper, t.markLower])

/-- The token held by a cab in its own right. -/
def Token.plain (c : Cab) : Token := { driving := some c, lendLink := none, markUpper := false, markLower := false }

/-- The token lent by a cab to the other (R139). -/
def Token.lent (lender : Cab) : Token :=
  { driving := some (otherCab lender), lendLink := some lender, markUpper := decide (lender = .upper),
    markLower := decide (lender = .lower) }

/-- The driving cab's last control inputs record (R83). -/
def State.drivingControls (s : State) : Option Controls :=
  match s.token.driving with
  | some c => (s.port c).controls
  | none => none

/-- The direction a cab's selector asks for (R61). -/
def selectorDir (c : Cab) : Selector → Option Dir
  | .neutral => none
  | .towardThisEnd => some (match c with | .upper => .up | .lower => .down)
  | .away => some (match c with | .upper => .down | .lower => .up)

/-- The direction the driving cab's selector asks for; none without a driving cab (R61). -/
def State.selectedDir (s : State) : Option Dir :=
  match s.token.driving with
  | some c =>
    match (s.port c).controls with
    | some r => selectorDir c r.selector
    | none => none
  | none => none

/-! ## Brakes, doors, radio -/

/-- One of the two spring brakes. -/
def Brakes.get (b : Brakes) : BrakeId → SpringBrake
  | .rack => b.rack
  | .hold => b.hold

/-- Replaces one of the two spring brakes. -/
def Brakes.put (b : Brakes) (i : BrakeId) (x : SpringBrake) : Brakes :=
  match i with
  | .rack => { b with rack := x }
  | .hold => { b with hold := x }

/-- Whether a brake's valve is commanded energized (Table 5-2). -/
def BrakeState.energized : BrakeState → Bool
  | .releasing => true
  | .released => true
  | .applied => false
  | .applying => false
  | .fault => false

/-- The largest demand term (R82). -/
def Terms.top (t : Terms) : Nat :=
  max t.driver (max t.supervision (max t.vigilance (max t.valley (max t.door (max t.contact t.emergency)))))

/-- Whether the car mode is READY or DRIVE. -/
def CarMode.running : CarMode → Bool
  | .ready => true
  | .drive => true
  | .config => false
  | .parked => false
  | .waking => false

/-- The side of a leaf. -/
def leafSide : LeafId → SideId
  | .a1 => .a
  | .a2 => .a
  | .b1 => .b
  | .b2 => .b

/-- The leaves of a side. -/
def SideId.leaves : SideId → List LeafId
  | .a => [.a1, .a2]
  | .b => [.b1, .b2]

/-- One of the four leaves. -/
def Doors.leaf (d : Doors) : LeafId → Leaf
  | .a1 => d.a1
  | .a2 => d.a2
  | .b1 => d.b1
  | .b2 => d.b2

/-- Replaces one of the four leaves. -/
def Doors.putLeaf (d : Doors) (i : LeafId) (x : Leaf) : Doors :=
  match i with
  | .a1 => { d with a1 := x }
  | .a2 => { d with a2 := x }
  | .b1 => { d with b1 := x }
  | .b2 => { d with b2 := x }

/-- The state of a side. -/
def Doors.side (d : Doors) : SideId → SideState
  | .a => d.sideA
  | .b => d.sideB

/-- Replaces the state of a side. -/
def Doors.putSide (d : Doors) (i : SideId) (x : SideState) : Doors :=
  match i with
  | .a => { d with sideA := x }
  | .b => { d with sideB := x }

/-- CLOSED_LOCKED or ISOLATED: the states "all closed" asks of a leaf (R109). -/
def LeafState.shut : LeafState → Bool
  | .closedLocked => true
  | .isolated => true
  | .closedUnlocked => false
  | .opening => false
  | .opened => false
  | .closing => false
  | .reversing => false
  | .obstructed => false
  | .fault => false

/-- "All closed": every leaf CLOSED_LOCKED or ISOLATED (R109). -/
def Doors.allClosed (d : Doors) : Bool := d.a1.state.shut && d.a2.state.shut && d.b1.state.shut && d.b2.state.shut

/-- "Side released": either side RELEASED (R109). -/
def Doors.sideReleased (d : Doors) : Bool := decide (d.sideA = .released) || decide (d.sideB = .released)

/-- Unlock output of a leaf in a car mode (R108, R124). -/
def Leaf.unlockOn (mode : CarMode) (l : Leaf) : Bool :=
  decide (mode ≠ .parked) && (match l.state with
    | .closedUnlocked => true
    | .opening => true
    | .opened => true
    | .closing => true
    | .reversing => true
    | .obstructed => true
    | .closedLocked => false
    | .fault => false
    | .isolated => false)

/-- Drive-open output of a leaf in a car mode (R108, R124). -/
def Leaf.driveOpenOn (mode : CarMode) (l : Leaf) : Bool :=
  decide (mode ≠ .parked) && (decide (l.state = .opening) || decide (l.state = .reversing))

/-- Drive-close output of a leaf in a car mode (R108, R124). -/
def Leaf.driveCloseOn (mode : CarMode) (l : Leaf) : Bool :=
  decide (mode ≠ .parked) && decide (l.state = .closing)

/-- The effective line state code (Table 8-4, R158). -/
def LineCode.effective (c : LineCode) : EffectiveCode :=
  match c.condition with
  | .expired => .caution
  | _ =>
    match c.value with
    | some 0 => .clear
    | some 5 => .stop
    | _ => .caution

/-- The degrade threshold in ms (R55). -/
def Params.degradeMs (p : Params) : Nat := p.degrade * 1000

/-- The void threshold in ms that holds under a shadow test (R55). -/
def Params.voidMs (p : Params) (shadow : Bool) : Nat := if shadow then p.shadowVoid * 1000 else p.void * 1000

end Sys2Proof.Machine
end

