-- ==== Sys2Proof/Machine/Curve.lean ====
section
/-! DEFINITION. The speeds supervision computes: the static limit (R63), the targets (R68 to R70), the braking curve
(R71 to R75) and the permitted speed with its limiting term (R62, R67). -/

namespace Sys2Proof.Machine

/-- A quotient rounded up. -/
def ceilDiv (n d : Nat) : Nat := (n + d - 1) / d

/-- The binary digits of an integer square root, from `2 ^ (k - 1)` down. -/
def isqrtFrom (n : Nat) : Nat → Nat → Nat
  | 0, r => r
  | k + 1, r => isqrtFrom n k (if (r + 2 ^ k) * (r + 2 ^ k) ≤ n then r + 2 ^ k else r)

/-- The integer square root: the largest integer whose square does not exceed the argument (R75). -/
def isqrt (n : Nat) : Nat := isqrtFrom n (n.log2 / 2 + 1) 0

/-- A segment's static limit in a direction (R63). -/
def Segment.limit (g : Segment) : Dir → Nat
  | .up => g.limitUp
  | .down => g.limitDown

/-- A segment's falling gradient along travel (0.6). -/
def Segment.falling (g : Segment) : Dir → Int
  | .up => -g.gradient
  | .down => g.gradient

/-- The least of a list of speeds, 0 of an empty one. -/
def leastOf : List Nat → Nat
  | [] => 0
  | x :: xs => xs.foldl min x

/-- The static limit: the least limit over the segments overlapping the car extent; 0 over none (R63). -/
def State.staticLimit (s : State) (d : Dir) : Nat := leastOf (s.extentSpans.map fun p => p.seg.limit d)

/-- Whether a span overlaps the car extent (R38). -/
def State.underCar (s : State) (start stop : Nat) : Bool :=
  decide ((start : Int) ≤ s.upperEnd ∧ s.lowerEnd ≤ (stop : Int))

/-- The entry point of a span in a direction (R38, R43). -/
def entryPoint (start stop : Nat) : Dir → Int
  | .up => start
  | .down => stop

/-- Whether a position is ahead of the front end (R68). -/
def State.ahead (s : State) (d : Dir) (p : Int) : Bool :=
  match d with
  | .up => decide (s.upperEnd < p)
  | .down => decide (p < s.lowerEnd)

/-- The distance from the front end, in teeth (R68). -/
def State.teethTo (s : State) (d : Dir) (p : Int) : Nat := (p - s.frontEnd d).natAbs

/-- Ahead and within the look-ahead (R68). -/
def State.inView (s : State) (d : Dir) (p : Int) : Bool := s.ahead d p && decide (s.teethTo d p ≤ lookAhead)

/-- The largest falling gradient over a span, not below 0 (R72). -/
def State.fMax (s : State) (d : Dir) (lo hi : Int) : Nat :=
  (s.line.overlapping lo hi).foldl (fun m p => max m (p.seg.falling d).toNat) 0

/-- The gravity term, rounded up, in cm/s² (R72). -/
def gravity (f : Nat) : Nat := ceilDiv (981 * f) 1000

/-- The effective distance of a target (R74). -/
def State.effDistance (s : State) (distance : Nat) : Int :=
  (distance : Int) - ceilDiv (s.pos.speed * s.params.reaction) 10 - (s.params.targetMargin : Int) * 10

/-- The curve speed of a target (R73, R74, R75). -/
def State.curveSpeed (s : State) (vt distance : Nat) (aEff : Int) : Nat :=
  if aEff < s.params.aFloor then vt
  else if s.effDistance distance ≤ 0 then vt
  else min limitMax (isqrt (vt * vt + 2 * aEff.toNat * (s.effDistance distance).toNat))

/-- A target at a position, with `teeth` its distance ahead (R70 to R75). -/
def State.target (s : State) (d : Dir) (kind : TargetKind) (pos : Int) (vt teeth : Nat) : Target :=
  let f := s.fMax d (min (s.rearEnd d) pos) (max (s.rearEnd d) pos)
  let a := (s.params.aCap : Int) - gravity f
  { kind := kind, pos := pos, vt := vt, distance := teeth * 10, fMax := f, aEff := a,
    curve := s.curveSpeed vt (teeth * 10) a }

/-- A target taken only when it is in view (R68). -/
def State.targetInView (s : State) (d : Dir) (kind : TargetKind) (pos : Int) (vt : Nat) : List Target :=
  if s.inView d pos then [s.target d kind pos vt (s.teethTo d pos)] else []

/-- A target taken in view, and with distance 0 when the front end has reached or passed it (R69, R71). -/
def State.targetOrReached (s : State) (d : Dir) (kind : TargetKind) (pos : Int) : List Target :=
  if s.ahead d pos then s.targetInView d kind pos 0 else [s.target d kind pos 0 0]

/-- Whether an authority is usable for a direction of travel (R48). -/
def Authority.usable (a : Authority) (d : Dir) : Bool := !a.void && decide (a.dir = d)

/-- The authority target: the EOA of a usable authority, else NO_AUTHORITY at the front end (R69). -/
def State.authorityTarget (s : State) (d : Dir) : List Target :=
  match s.line.authority with
  | some a =>
    if a.usable d then s.targetOrReached d .eoa a.eoa else [s.target d .noAuthority (s.frontEnd d) 0 0]
  | none => [s.target d .noAuthority (s.frontEnd d) 0 0]

/-- The line-end target: at the line end travelling UP, at 0 travelling DOWN (R69). -/
def State.lineEndTarget (s : State) (d : Dir) : List Target :=
  s.targetOrReached d .lineEnd (match d with | .up => (s.line.lineEnd : Int) | .down => 0)

/-- The overflow target (R68). -/
def State.overflowTarget (s : State) (d : Dir) : List Target :=
  match s.line.overflow with
  | some o => s.targetInView d .overflow (entryPoint o.start o.stop d) o.limit
  | none => []

/-- The restriction targets, in increasing id (R68). -/
def State.restrictionTargets (s : State) (d : Dir) : List Target :=
  (s.line.restrictions.map fun r => s.targetInView d .restriction (entryPoint r.start r.stop d) r.limit).flatten

/-- The boundary between two segments as a target: at the start of the upper one travelling UP, at the highest position
of the lower one travelling DOWN (R68). -/
def State.boundaryTarget (s : State) (d : Dir) (lower upper : Span) : List Target :=
  match d with
  | .up => s.targetInView .up .boundary upper.first upper.seg.limitUp
  | .down => s.targetInView .down .boundary lower.last lower.seg.limitDown

/-- The boundary targets, in increasing segment index (R68). -/
def State.boundaryTargets (s : State) (d : Dir) : List Target :=
  ((s.line.spans.zip s.line.spans.tail).map fun p => s.boundaryTarget d p.1 p.2).flatten

/-- Inserts a target before the first that is at least as far (R70). -/
def insertNear (t : Target) : List Target → List Target
  | [] => [t]
  | u :: us => if t.distance ≤ u.distance then t :: u :: us else u :: insertNear t us

/-- Orders targets nearest first, those at one distance in the order given (R70). -/
def nearestFirst (l : List Target) : List Target := l.foldr insertNear []

/-- Whether targets are built: CONFIRMED, DRIFTING or LOST (R68). -/
def Confidence.buildsTargets : Confidence → Bool
  | .confirmed => true
  | .drifting => true
  | .lost => true
  | .unknown => false
  | .declared => false

/-- The target list for a direction of travel, nearest first (R68, R69, R70). -/
def State.targetList (s : State) (d : Dir) : List Target :=
  if s.pos.confidence.buildsTargets then
    nearestFirst (s.authorityTarget d ++ s.lineEndTarget d ++ s.overflowTarget d ++ s.restrictionTargets d
      ++ s.boundaryTargets d)
  else []

/-- A term of the permitted speed: its value and what it is shown as (Table 4-3). -/
structure SpeedTerm where
  value : Nat
  shown : Limiting
  deriving DecidableEq, Repr

/-- A term when a condition applies. -/
def termWhen (c : Bool) (v : Nat) (l : Limiting) : List SpeedTerm := if c then [{ value := v, shown := l }] else []

/-- The terms that apply, in the order R67 names them (R62 to R65), after CEILING. -/
def State.speedTerms (s : State) (d : Dir) (targets : List Target) : List SpeedTerm :=
  [{ value := s.staticLimit d, shown := .static }]
    ++ (s.line.restrictions.map fun r => termWhen (s.underCar r.start r.stop) r.limit (.restriction r.id)).flatten
    ++ (match s.line.overflow with
        | some o => termWhen (s.underCar o.start o.stop) o.limit .overflow
        | none => [])
    ++ termWhen (decide (s.pos.confidence ≠ .confirmed)) s.params.unconfirmedCeiling .unconfirmed
    ++ termWhen (decide (s.contact.state = .degraded) || decide (s.lineCode.effective = .caution))
        s.params.radioCeiling .radio
    ++ targets.map fun t => { value := t.curve, shown := .target t.kind t.pos t.vt }

/-- The first of the least terms (R62, R67). -/
def leastTerm (first : SpeedTerm) (l : List SpeedTerm) : SpeedTerm :=
  l.foldl (fun m t => if t.value < m.value then t else m) first

/-- The permitted speed and its limiting term in VALID with a direction of travel (R62, R67). -/
def State.permittedTerm (s : State) (d : Dir) (targets : List Target) : SpeedTerm :=
  leastTerm { value := s.params.carCeiling, shown := .ceiling } (s.speedTerms d targets)

/-- The direction of travel (R61). -/
def State.travelNow (s : State) : Option Dir := if s.pos.standstill then s.selectedDir else s.pos.dir

/-- The target list an evaluation makes (R66, R68). -/
def State.targetsNow (s : State) : List Target :=
  if s.line.profile = .valid then
    match s.travelNow with
    | some d => s.targetList d
    | none => []
  else []

/-- The permitted speed with its limiting term an evaluation makes (R62, R66, R67). -/
def State.limitNow (s : State) : SpeedTerm :=
  if s.line.profile = .valid then
    match s.travelNow with
    | some d => s.permittedTerm d (s.targetList d)
    | none => { value := 0, shown := .noDirection }
  else { value := 0, shown := .noProfile }

/-- The next supervision state (Table 4-7). -/
def SupState.next (st : SupState) (v p service emergency : Nat) (standstill : Bool) : SupState :=
  match st with
  | .trip => if standstill then .normal else .trip
  | .intervene => if p + emergency < v then .trip else if p < v then .intervene else .normal
  | .normal | .warning =>
    if p + emergency < v then .trip else if p + service < v then .intervene else if p < v then .warning else .normal

end Sys2Proof.Machine
end

