-- ==== Sys2Proof/Machine/Reports.lean ====
section
/-! DEFINITION. What the part shows and sends: the indication record (Table 12-4), the STATUS and ALARM reports
(Tables 12-7, 12-8), and the report queue with its alarm backlog (9.5). -/

namespace Sys2Proof.Machine

/-! ## The indication record (R186, Table 12-4) -/

/-- The driving cab, the lend link and the lending marks (octets 2 to 4). -/
def Token.octets (t : Token) : List Octet := [oct (cabNum t.driving), oct (cabNum t.lendLink), t.marksOctet]

/-- The refusal record: code, gate index, valley flag; OK, 0 and clear where absent (R133; octets 10 to 12). -/
def refusalOctets : Option Refused → List Octet
  | none => [0#8, 0#8, 0#8]
  | some r => [oct r.code.num, oct r.index, octBool r.valley]

/-- The order outcome: last accepted, last refused, reason, present marks, tally (octets 13 to 17). -/
def Outcomes.octets (o : Outcomes) : List Octet :=
  [o.accepted.getD 0#8, o.refused.getD 0#8, oct ((o.reason.map ResultCode.num).getD 0),
   oct (bitsNum [o.accepted.isSome, o.refused.isSome]), oct o.tally]

/-- A target position in three octets; below 0 the free value stands (log 11). -/
def targetPosOctets (p : Int) : List Octet := if 0 ≤ p then oct3 p.toNat else oct3 (Config.negativePosition p)

/-- The limiting term and its detail: id or target kind, target position, target vt (R67; octets 23 to 29). -/
def Limiting.octets (l : Limiting) : List Octet :=
  match l with
  | .restriction id => [oct l.num, oct id] ++ oct3 0 ++ oct2 0
  | .target k p vt => [oct l.num, oct k.num] ++ targetPosOctets p ++ oct2 vt
  | _ => [oct l.num, 0#8] ++ oct3 0 ++ oct2 0

/-- Supervision (octets 18 to 29). -/
def Supervision.octets (u : Supervision) : List Octet :=
  oct u.state.num :: oct2 u.permitted ++ oct2 u.warning ++ u.limiting.octets

/-- The position unit (R34; octets 30 to 43). -/
def Position.octets (p : Position) : List Octet :=
  oct3 p.count ++ [oct (dirNum p.dir)] ++ oct2 p.speed ++ [octBool p.standstill, oct p.confidence.num]
    ++ octInt3 p.correction ++ oct3 p.distance

/-- The first-cause record: kind, count, speed, mode; kind FFh and 0 where absent (octets 46 to 52). -/
def firstOctets : Option FirstCause → List Octet
  | none => 0xFF#8 :: oct3 0 ++ oct2 0 ++ [0#8]
  | some f => oct f.kind.num :: oct3 f.count ++ oct2 f.speed ++ [oct f.mode.num]

/-- The seven terms in the order of Table 5-1. -/
def Terms.octets (t : Terms) : List Octet :=
  [oct t.driver, oct t.supervision, oct t.vigilance, oct t.valley, oct t.door, oct t.contact, oct t.emergency]

/-- The brakes (R106; octets 44 to 64). -/
def Brakes.octets (b : Brakes) : List Octet :=
  b.causes.octets ++ firstOctets b.first ++ [oct b.rack.state.num, oct b.hold.state.num,
    oct (bitsNum [decide (b.rack.feedback = .applied), decide (b.hold.feedback = .applied)])]
    ++ b.terms.octets ++ [oct b.serviceOut, octBool b.tractionCut]

/-- The readings of a leaf's switches: bit 0 LOCKED, 1 OPEN, 2 edge PRESSED (Table 12-4). -/
def Leaf.switchOctet (l : Leaf) : Octet := oct (bitsNum [l.locked, l.openEnd, l.edge])

/-- The two side states and the four leaf states (R112). -/
def Doors.states (d : Doors) : List Octet :=
  [oct d.sideA.num, oct d.sideB.num, oct d.a1.state.num, oct d.a2.state.num, oct d.b1.state.num, oct d.b2.state.num]

/-- The doors (R125; octets 65 to 79). -/
def Doors.octets (d : Doors) : List Octet :=
  d.states ++ [oct d.a1.reversals, oct d.a2.reversals, oct d.b1.reversals, oct d.b2.reversals,
    d.a1.switchOctet, d.a2.switchOctet, d.b1.switchOctet, d.b2.switchOctet,
    oct (bitsNum [d.allClosed, d.sideReleased])]

/-- The radio (R162; octets 80 to 86). -/
def State.radioOctets (s : State) : List Octet :=
  [oct s.rx.state.num, (match s.lineCode.value with | some v => oct v | none => 0xFF#8), oct s.lineCode.condition.num,
   oct s.lineCode.effective.num, octBool s.tx.alarm, oct s.contact.state.num,
   oct (bitsNum [s.handler.stopService, s.handler.stopEmergency])]

/-- The authority: direction, EOA, number, void flag; all 0 where absent (octets 91 to 96). -/
def authorityOctets : Option Authority → List Octet
  | none => 0#8 :: oct3 0 ++ [0#8, 0#8]
  | some a => oct (dirNum (some a.dir)) :: oct3 a.eoa ++ [oct a.number, octBool a.void]

/-- The line record (octets 87 to 96). -/
def LineStore.octets (l : LineStore) : List Octet :=
  oct l.profile.num :: oct2 l.version ++ [octBool l.overflow.isSome] ++ authorityOctets l.authority

/-- The indication record as a cab is shown it, 99 octets (R186, Table 12-4). -/
def State.indication (s : State) (c : Cab) : List Octet :=
  [oct s.mode.mode.num, octBool s.handler.versionInd] ++ s.token.octets
    ++ [oct (s.cabRank .upper), oct (s.cabRank .lower), oct s.valleyRank]
    ++ [oct s.upper.link.num, oct s.lower.link.num] ++ refusalOctets s.refusal ++ s.handler.outcomes.octets
    ++ s.sup.octets ++ s.pos.octets ++ s.brk.octets ++ s.doors.octets ++ s.radioOctets ++ s.line.octets
    ++ (s.flags.get c).octets

/-! ## Reports (9.4) -/

/-- The STATUS payload composed from the state at the offer, 37 octets (R172, Table 12-7). -/
def State.statusPayload (s : State) : List Octet :=
  [oct s.mode.mode.num] ++ oct3 s.pos.count ++ [oct s.pos.confidence.num] ++ oct2 s.pos.speed
    ++ [oct (dirNum s.pos.dir), oct s.sup.state.num] ++ oct2 s.sup.permitted ++ s.brk.causes.octets
    ++ firstOctets s.brk.first
    ++ [oct s.doors.a1.state.num, oct s.doors.a2.state.num, oct s.doors.b1.state.num, oct s.doors.b2.state.num,
        oct s.brk.rack.state.num, oct s.brk.hold.state.num, oct (cabNum s.token.driving)]
    ++ (match s.line.authority with
        | none => [0#8, 0#8]
        | some a => [oct a.number, if a.void then 2#8 else 1#8])
    ++ [oct (bitsNum [s.line.overflow.isSome, s.handler.versionInd])] ++ s.handler.outcomes.octets
    ++ oct2 s.mon.snapshot.checkFail.value

/-- The ALARM payload, 9 octets (Table 12-8). -/
def Alarm.payload (a : Alarm) : List Octet := oct a.kind.num :: firstOctets (some a.first) ++ [oct a.repeats]

/-- The kind of a report: 48 STATUS, 49 ALARM (9.4). -/
def Report.kind : Report → Octet
  | .status _ => 48#8
  | .alarm _ => 49#8

/-- The payload of a report. -/
def Report.payload : Report → List Octet
  | .status p => p
  | .alarm a => a.payload

/-- A report framed as a valley message, its number in the place of the order number (9.4, Table 12-5). -/
def Slot.octets (x : Slot) : List Octet :=
  valleyOctets x.report.kind { car := x.carId, order := oct (x.number.getD 0), payload := x.report.payload }

/-- A report that waits in a slot. -/
def Slot.waiting (r : Report) (carId : Octet) : Slot :=
  { report := r, carId := carId, number := none, sending := false, given := 0 }

/-- A slot that holds a STATUS not being sent (R174). -/
def Slot.isWaitingStatus (x : Slot) : Bool :=
  match x.report with
  | .status _ => !x.sending
  | .alarm _ => false

/-- The car id parameter as sent (9.4). -/
def State.carIdOctet (s : State) : Octet := oct s.params.carId

/-- The number of slots of the report queue (R174). -/
def queueSlots : Nat := 4

/-- Places an offered STATUS (R174). -/
def Reports.placeStatus (r : Reports) (x : Slot) : Reports :=
  if r.queue.any Slot.isWaitingStatus then
    { r with queue := r.queue.map fun y => if y.isWaitingStatus then x else y }
  else if r.queue.length < queueSlots then { r with queue := r.queue ++ [x] }
  else r

/-- A STATUS is composed and offered to the queue (R172, R174). -/
def State.offerStatus (s : State) : State :=
  s.withReports (s.reports.placeStatus (Slot.waiting (.status s.statusPayload) s.carIdOctet))

/-- The backlog with an ALARM: an entry of its kind counts the repeat, else it is appended (R175). -/
def backlogWith (l : List Alarm) (a : Alarm) : List Alarm :=
  if l.any fun x => decide (x.kind = a.kind) then
    l.map fun x => if x.kind = a.kind then { x with repeats := min 255 (x.repeats + 1) } else x
  else l ++ [a]

/-- Places an offered ALARM (R175). -/
def Reports.placeAlarm (r : Reports) (carId : Octet) (a : Alarm) : Reports :=
  if r.backlog ≠ [] then { r with backlog := backlogWith r.backlog a }
  else if r.queue.length < queueSlots then { r with queue := r.queue ++ [Slot.waiting (.alarm a) carId] }
  else if r.queue.any Slot.isWaitingStatus then
    { r with queue := (r.queue.filter fun x => !x.isWaitingStatus) ++ [Slot.waiting (.alarm a) carId] }
  else { r with backlog := backlogWith r.backlog a }

/-- The brake unit asks for an ALARM: the joining kind with the first-cause record as it stands (R99, R173). -/
def State.offerAlarm (k : CauseKind) (s : State) : State :=
  match s.brk.first with
  | some f => s.withReports (s.reports.placeAlarm s.carIdOctet { kind := k, first := f, repeats := 1 })
  | none => s

/-- A slot has become free: the oldest backlog entry moves to the tail (R175). -/
def Reports.slotFreed (r : Reports) (carId : Octet) : Reports :=
  match r.backlog with
  | [] => r
  | a :: rest => { r with queue := r.queue ++ [Slot.waiting (.alarm a) carId], backlog := rest }

/-- The report at the head leaves the queue (R176). -/
def Reports.headLeaves (r : Reports) (carId : Octet) : Reports :=
  ({ r with queue := r.queue.tail } : Reports).slotFreed carId

/-- The head begins: it takes the next report number, or keeps the one it took at its first beginning (R176). -/
def Reports.begin (r : Reports) : Reports :=
  match r.queue with
  | [] => r
  | x :: rest =>
    match x.number with
    | some _ => { r with queue := { x with sending := true, given := 0 } :: rest }
    | none =>
      let n := (r.number + 1) % 256
      { r with queue := { x with number := some n, sending := true, given := 0 } :: rest, number := n }

/-- Gives the next octet of the report being sent; its last CRC octet takes it from the queue (R176). -/
def Reports.give (r : Reports) (carId : Octet) : Octet × Reports :=
  match r.queue with
  | [] => (0#8, r)
  | x :: rest =>
    let l := x.octets
    let r' : Reports := { r with queue := { x with given := x.given + 1 } :: rest }
    (l.getD x.given 0#8, if l.length ≤ x.given + 1 then r'.headLeaves carId else r')

/-- The octet the handler gives the framer: of the report being sent, of the head as it begins, or 00h fill (R176). -/
def Reports.nextOctet (r : Reports) (carId : Octet) : Octet × Reports :=
  match r.queue with
  | [] => (0#8, r)
  | x :: _ => if x.sending then r.give carId else r.begin.give carId

/-- The next `n` octets the handler gives (R161). -/
def Reports.nextOctets (carId : Octet) : Nat → Reports → List Octet × Reports
  | 0, r => ([], r)
  | n + 1, r =>
    let a := r.nextOctet carId
    let b := Reports.nextOctets carId n a.2
    (a.1 :: b.1, b.2)

/-- The modem is unkeyed: a STATUS cut short is removed, an ALARM cut short stays to be sent again whole (R176). -/
def Reports.cut (r : Reports) (carId : Octet) : Reports :=
  match r.queue with
  | [] => r
  | x :: rest =>
    if x.sending then
      match x.report with
      | .status _ => r.headLeaves carId
      | .alarm _ => { r with queue := { x with sending := false, given := 0 } :: rest }
    else r

end Sys2Proof.Machine
end

