-- ==== Sys2Proof/Machine/Ops.lean ====
section
/-! DEFINITION. The shared operations on the outputs, the spring brakes and the cause set: the combining of demand terms
(R82, R88), the apply and release commands (R89, R90, R93), the rollaway watch's start and end (R104), the readback
comparison (R196), the modem outputs (R159, R160, R172, R176), the car mode (R191) and the join of a cause (R99). -/

namespace Sys2Proof.Machine

/-! ## Outputs -/

/-- Forms the service output and the traction cut afresh; a change of traction cut sets BRAKES (R82, R88, R106). -/
def State.settleOutputs (s : State) : State :=
  let out := s.brk.terms.top
  let cut := decide (0 < out) || decide (s.brk.rack.state ≠ .released) || decide (s.brk.hold.state ≠ .released)
  let s' := s.withBrk { s.brk with serviceOut := out, tractionCut := cut }
  if cut = s.brk.tractionCut then s' else s'.flag .brakes

/-- Whether a rollaway watch runs: in READY and DRIVE while the holding brake is not APPLIED (R104), and in PARKED
(R105). -/
def State.rollWatch (s : State) : Bool :=
  match s.mode.mode with
  | .ready => decide (s.brk.hold.state ≠ .applied)
  | .drive => decide (s.brk.hold.state ≠ .applied)
  | .parked => true
  | .config => false
  | .waking => false

/-- Starts or ends the rollaway watch, the count at 0 at either (R104). -/
def State.syncRollaway (s : State) : State :=
  if s.rollWatch = s.brk.rollRunning then s
  else s.withBrk { s.brk with rollRunning := s.rollWatch, rollCount := 0 }

/-- Whether a valve readback disagrees with its command (R196). -/
def State.readbackDisagrees (s : State) : Bool :=
  decide (s.valves.rackReadback ≠ s.brk.rack.state.energized) ||
    decide (s.valves.holdReadback ≠ s.brk.hold.state.energized)

/-- Starts the readback timer at a disagreement, leaves it running while one lasts, cancels it when both agree
(R196). -/
def State.syncReadback (s : State) : State :=
  s.withValves { s.valves with
    timer := if s.readbackDisagrees then some (s.valves.timer.getD readbackTime) else none }

/-! ## Spring brakes -/

/-- The timer that runs in a brake state (R90). -/
def brakeTimer : BrakeState → Option Nat
  | .releasing => some releaseTime
  | .applying => some applyTime
  | .applied => none
  | .released => none
  | .fault => none

/-- A spring brake takes a state: BRAKES, the outputs, the rollaway watch and the readback comparison follow (R89). The
comparison is made at every change of state, also one that leaves the valve command as it was (DESIGN CHOICE, log 34). -/
def State.setBrake (b : BrakeId) (st : BrakeState) (s : State) : State :=
  if (s.brk.get b).state = st then s
  else
    let s1 := s.withBrk (s.brk.put b { s.brk.get b with state := st, timer := brakeTimer st })
    (s1.flag .brakes).settleOutputs.syncRollaway.syncReadback

/-- An apply command (R93): RELEASING and RELEASED go to APPLYING, and on to APPLIED where the feedback reads so at the
entry (R89). -/
def State.applyCmd (b : BrakeId) (s : State) : State :=
  match (s.brk.get b).state with
  | .releasing | .released =>
    let s1 := s.setBrake b .applying
    match (s1.brk.get b).feedback with
    | .applied => s1.setBrake b .applied
    | .clear => s1
  | .applied | .applying | .fault => s

/-- The brake's part of a release command (R93): APPLIED and APPLYING go to RELEASING, and on to RELEASED where the
feedback reads CLEAR at the entry (R89). -/
def State.releaseValve (b : BrakeId) (s : State) : State :=
  match (s.brk.get b).state with
  | .applied | .applying =>
    let s1 := s.setBrake b .releasing
    match (s1.brk.get b).feedback with
    | .clear => s1.setBrake b .released
    | .applied => s1
  | .releasing | .released | .fault => s

/-- Writes demand terms and forms the output. A change that takes the service output above 0 while the standstill is
long, in DRIVE, issues an apply command to the holding brake (R82, R96). -/
def State.setTerms (t : Terms) (s : State) : State :=
  let s1 := (s.withBrk { s.brk with terms := t }).settleOutputs
  if s.brk.serviceOut = 0 ∧ 0 < s1.brk.serviceOut ∧ s.brk.long ∧ s.mode.mode = .drive then s1.applyCmd .hold else s1

/-! ## Modem outputs -/

/-- The key output is asserted: the transmit counter starts at 0, a STATUS is offered and the report timer starts
(R160, R172). -/
def State.keyOn (s : State) : State :=
  if s.mode.modemKey then s
  else
    let s1 := (s.withMode { s.mode with modemKey := true }).withTx
      { s.tx with frameNo := some 0, half := [], prevCheck := none }
    let s2 := s1.offerStatus
    s2.withReports { s2.reports with timer := some reportPeriod }

/-- The key output is released: the transmit side is silent, a report under way is cut short and the report timer stops
(R160, R172, R176). -/
def State.keyOff (s : State) : State :=
  if s.mode.modemKey then
    let s1 := (s.withMode { s.mode with modemKey := false }).withTx
      { s.tx with frameNo := none, half := [], prevCheck := none, alarm := false }
    s1.withReports { s1.reports.cut s1.carIdOctet with timer := none }
  else s

/-- Modem power is switched on: the framer searches from the first bit received (R159). -/
def State.powerOn (s : State) : State :=
  if s.mode.modemPower then s
  else (s.withMode { s.mode with modemPower := true }).withRx { s.rx with search := 0 }

/-! ## Doors -/

/-- The leaf timer that runs in a leaf state (Table 6-2). -/
def leafTimer : LeafState → Option Nat
  | .opening => some openLimit
  | .closing => some closeLimit
  | .reversing => some reversalTime
  | .closedLocked | .closedUnlocked | .opened | .obstructed | .fault | .isolated => none

/-- A leaf takes a state with a reversal count: DOORS is set, and a state that ends "all closed" commands the holding
brake to apply (R95, R108, R125). -/
def State.setLeaf (i : LeafId) (st : LeafState) (reversals : Nat) (s : State) : State :=
  let l := s.doors.leaf i
  let s1 := (s.withDoors (s.doors.putLeaf i { l with state := st, timer := leafTimer st, reversals := reversals }))
  let s2 := s1.flag .doors
  if st.shut then s2 else s2.applyCmd .hold

/-- A lock lost on a CLOSED_LOCKED leaf is reported: the DOOR term is held while the standstill flag is clear (R86,
R122). -/
def State.lockLoss (s : State) : State :=
  if s.pos.standstill then s else s.setTerms { s.brk.terms with door := 100 }

/-- What a leaf's switch levels do in its state: the next state and reversal count, if any (R108, R116 to R122). The
locked switch is judged before the edge (log 20). -/
def Leaf.judged (l : Leaf) (side : SideState) : Option (LeafState × Nat) :=
  match l.state with
  | .closedLocked =>
    if !l.locked then some (.fault, l.reversals)
    else if side = .released then some (.closedUnlocked, l.reversals)
    else none
  | .opening => if l.openEnd then some (.opened, l.reversals) else none
  | .closing =>
    if l.locked then some (.closedLocked, l.reversals)
    else if l.edge then
      if l.reversals + 1 < 3 then some (.reversing, l.reversals + 1) else some (.obstructed, 3)
    else none
  | .reversing => if l.openEnd then some (.closing, l.reversals) else none
  | .obstructed => if l.locked then some (.closedLocked, l.reversals) else none
  | .isolated => if !l.locked then some (.fault, l.reversals) else none
  | .closedUnlocked | .opened | .fault => none

/-- Judges a leaf's levels as often as they act, at most `n` times; a closing ends after three obstructions, so 10 is
more than any leaf needs (R118). -/
def State.settleLeaf (i : LeafId) : Nat → State → State
  | 0, s => s
  | n + 1, s =>
    let l := s.doors.leaf i
    match l.judged (s.doors.side (leafSide i)) with
    | none => s
    | some (st, r) =>
      let s1 := s.setLeaf i st r
      let s2 := if l.state = .closedLocked ∧ st = .fault then s1.lockLoss else s1
      State.settleLeaf i n s2

/-- A leaf enters a state, and its levels are judged at the entry (R108). -/
def State.enterLeaf (i : LeafId) (st : LeafState) (reversals : Nat) (s : State) : State :=
  (s.setLeaf i st reversals).settleLeaf i 10

/-- A withdrawal's act on one leaf (R113); an OBSTRUCTED leaf closes whenever its side was released (DESIGN CHOICE,
log 36). -/
def State.withdrawLeaf (i : LeafId) (s : State) : State :=
  match (s.doors.leaf i).state with
  | .closedUnlocked | .opening | .opened | .obstructed => s.enterLeaf i .closing 0
  | .closing | .reversing | .closedLocked | .fault | .isolated => s

/-- A side takes a state: DOORS is set, and a RELEASED side commands the holding brake to apply (R95, R110). -/
def State.setSide (d : SideId) (st : SideState) (s : State) : State :=
  if s.doors.side d = st then s
  else
    let s1 := (s.withDoors (s.doors.putSide d st)).flag .doors
    match st with
    | .released => s1.applyCmd .hold
    | .locked => s1

/-- A withdrawal's act on both leaves of a side (R113). -/
def State.withdrawLeaves (d : SideId) (s : State) : State := d.leaves.foldl (fun t i => t.withdrawLeaf i) s

/-- The automatic withdrawal of a side: a RELEASED side is set LOCKED and its leaves close (R113, R114). -/
def State.withdrawSide (d : SideId) (s : State) : State :=
  match s.doors.side d with
  | .locked => s
  | .released => (s.setSide d .locked).withdrawLeaves d

/-- Both sides at once (R114). -/
def State.withdrawAll (s : State) : State := (s.withdrawSide .a).withdrawSide .b

/-- A brake has left APPLIED: the holding brake withdraws both sides, the rack brake does where the grade under the car
is steep (R114); a grade that becomes steep is no such event (DESIGN CHOICE, log 37). -/
def State.leftApplied (b : BrakeId) (s : State) : State :=
  match b with
  | .hold => s.withdrawAll
  | .rack => if s.steep then s.withdrawAll else s

/-- A release command with the withdrawals its departure from APPLIED makes (R93, R114). -/
def State.releaseCmd (b : BrakeId) (s : State) : State :=
  let s1 := s.releaseValve b
  if (s.brk.get b).state = .applied ∧ (s1.brk.get b).state ≠ .applied then s1.leftApplied b else s1

/-- The release command to the rack brake, where the cause set is empty and the mode is READY or DRIVE (R94). -/
def State.releaseRack (s : State) : State :=
  if s.brk.causes.isEmpty ∧ s.mode.mode.running then s.releaseCmd .rack else s

/-! ## The car mode -/

/-- The modem outputs of a mode (R191); in PARKED the power follows the watch, which opens a window (R193). -/
def State.modemFor (m : CarMode) (s : State) : State :=
  match m with
  | .config | .ready | .drive => s.powerOn.keyOn
  | .waking => s.keyOff.powerOn
  | .parked => s.keyOff.powerOn

/-- The timers of the mode controller on entry into a mode: the parked watch begins with a window open, the waking check
starts, and every departure cancels both (R193, R194). -/
def ModeCtl.timersFor (m : CarMode) (c : ModeCtl) : ModeCtl :=
  { c with
    periodTimer := if m = .parked then some watchPeriod else none
    window := if m = .parked then some { elapsed := 0, closeAt := windowFirst } else none
    checkTimer := if m = .waking then some checkTime else none }

/-- The car mode changes, with all that follows but the rack brake's release: MODE is set, the rack brake is commanded
to apply outside READY and DRIVE, the holding brake outside DRIVE, both sides are withdrawn in PARKED and WAKING, the
modem outputs and the mode's timers follow (R94, R95, R114, R191). -/
def State.enterMode (m : CarMode) (s : State) : State :=
  if s.mode.mode = m then s
  else
    let s1 := (s.withMode (ModeCtl.timersFor m { s.mode with mode := m })).flag .mode
    let s2 := if m.running then s1 else s1.applyCmd .rack
    let s3 := if m = .drive then s2 else s2.applyCmd .hold
    let s4 := if m = .parked ∨ m = .waking then s3.withdrawAll else s3
    let s5 := s4.modemFor m
    let s6 := if m = .parked then s5.withBrk { s5.brk with rollCount := 0 } else s5
    s6.syncRollaway

/-- The car mode changes; an entry into READY or DRIVE from outside them releases the rack brake where the cause set is
empty (R94, R191). -/
def State.changeMode (m : CarMode) (s : State) : State :=
  let s1 := s.enterMode m
  if s.mode.mode.running then s1 else s1.releaseRack

/-! ## The cause set -/

/-- The first-cause record of a kind at this moment (R103). -/
def State.firstCauseNow (k : CauseKind) (s : State) : FirstCause :=
  { kind := k, count := s.pos.count, speed := s.pos.speed, mode := s.mode.mode }

/-- A kind joins the set: CAUSES, the first-cause record where the set was empty, EMERGENCY at 100 %, an apply command to
the rack brake and, at standstill, to the holding brake, and an ALARM (R94, R97, R99, R103). -/
def State.joinCause (k : CauseKind) (s : State) : State :=
  let first := if s.brk.causes.isEmpty then some (s.firstCauseNow k) else s.brk.first
  let s1 := (s.withBrk { s.brk with causes := s.brk.causes.join k, first := first }).flag .causes
  let s2 := s1.setTerms { s1.brk.terms with emergency := 100 }
  let s3 := s2.applyCmd .rack
  let s4 := if s3.pos.standstill then s3.applyCmd .hold else s3
  s4.offerAlarm k

/-- A block adds a cause (R99): nothing changes where the kind is held. ROLLAWAY added in PARKED is a wake cause that
takes the car to READY at once (R194). -/
def State.addCause (k : CauseKind) (s : State) : State :=
  let s1 := if s.brk.causes.has k then s else s.joinCause k
  if k = .rollaway ∧ s1.mode.mode = .parked then s1.changeMode .ready else s1

/-- A spring brake enters FAULT: its valve is de-energized, BRAKE_FEEDBACK is added, and a feedback that reads APPLIED
takes it on to APPLIED (R91, R92). -/
def State.brakeFault (b : BrakeId) (s : State) : State :=
  let s1 := s.setBrake b .fault
  let s2 := if (s.brk.get b).state = .applied then s1.leftApplied b else s1
  let s3 := s2.addCause .brakeFeedback
  match (s3.brk.get b).feedback with
  | .applied => s3.setBrake b .applied
  | .clear => s3

end Sys2Proof.Machine
end

