-- ==== Sys2Proof/Machine/Supervise.lean ====
section
/-! DEFINITION. The supervision unit at work: the evaluation (R60, R77, R78, R80), the contact state and the shadow test
(R53 to R57), and what follows a change of the line record (R47, R169) or of confidence (R24). -/

namespace Sys2Proof.Machine

/-! ## The evaluation -/

/-- The EOA test: the cause for a passing found with the mark clear, and the mark (R80). -/
def State.eoaTest (s : State) : State :=
  match s.line.authority with
  | none => s.withSup { s.sup with passedMark := false }
  | some a =>
    if s.passedEoa a then
      if s.sup.passedMark then s
      else
        let s1 := s.addCause .eoaPassed
        s1.withSup { s1.sup with passedMark := true }
    else s.withSup { s.sup with passedMark := false }

/-- The SUPERVISION term of a supervision state (R78). -/
def SupState.term : SupState → Nat
  | .normal => 0
  | .warning => 0
  | .intervene => 100
  | .trip => 100

/-- The supervision state takes a value: the flag, the SUPERVISION term, and OVERSPEED at the transition into TRIP
(R78, R79). -/
def State.setSupState (st : SupState) (s : State) : State :=
  if s.sup.state = st then s
  else
    let s1 := (s.withSup { s.sup with state := st }).flag .supervision
    let s2 := s1.setTerms { s1.brk.terms with supervision := st.term }
    if st = .trip then s2.addCause .overspeed else s2

/-- The direction, terms, targets, P, warning speed and limiting term found afresh (R60 to R70). -/
def State.measureLimits (s : State) : State :=
  let p := s.limitNow
  s.withSup { s.sup with
    travel := s.travelNow
    permitted := p.value
    warning := p.value + s.params.warningMargin
    limiting := p.shown
    targets := s.targetsNow }

/-- One evaluation: the limits, then the EOA test, then the supervision state (R60, R77, R80). -/
def State.evalCore (s : State) : State :=
  let s1 := s.measureLimits.eoaTest
  s1.setSupState (s1.sup.state.next s1.pos.speed s1.sup.permitted s1.params.serviceMargin s1.params.emergencyMargin
    s1.pos.standstill)

/-! ## The contact timer -/

/-- The contact state of a value and shadow test (R55). -/
def Params.contactState (p : Params) (value : Nat) (shadow : Bool) : ContactState :=
  if p.voidMs shadow ≤ value then .void
  else if !shadow && decide (p.degradeMs ≤ value) then .degraded
  else .live

/-- Entering VOID sets the void flag of a present authority, a change of the line record (R57). -/
def State.voidAuthority (s : State) : State :=
  match s.line.authority with
  | some a => (s.withLine { s.line with authority := some { a with void := true } }).flag .lineRecord
  | none => s

/-- The contact state takes a value: RADIO, the void flag, the CONTACT term, and an evaluation (R55, R57). -/
def State.setContactState (st : ContactState) (s : State) : State :=
  if s.contact.state = st then s
  else
    let s1 := (s.withContact { s.contact with state := st }).flag .radio
    let s2 := if st = .void then s1.voidAuthority else s1
    let s3 := s2.setTerms { s2.brk.terms with contact := if st = .void then 100 else 0 }
    s3.evalCore

/-- The contact state is judged; VOID stays (R55). -/
def State.judgeContact (s : State) : State :=
  if s.contact.state = .void then s
  else s.setContactState (s.params.contactState s.contact.value s.contact.shadow)

/-- A valid valley message for this car was heard: the timer starts from 0 and the contact state is LIVE (R53, R55). -/
def State.contactHeard (s : State) : State :=
  (s.withContact { s.contact with value := 0 }).setContactState .live

/-- The shadow flag of the segment at the front end; clear where there is none (R54). -/
def State.shadowAt (s : State) (d : Dir) : Bool :=
  match s.line.segmentAt (s.frontEnd d) with
  | some g => g.shadow
  | none => false

/-- The shadow test takes a value; a change from set to clear pulls the timer down to the degrade threshold (R56). -/
def State.setShadow (b : Bool) (s : State) : State :=
  if s.contact.shadow = b then s
  else
    let v := if b then s.contact.value else min s.contact.value s.params.degradeMs
    (s.withContact { s.contact with shadow := b, value := v }).judgeContact

/-- The shadow test is made again (R54). -/
def State.shadowTest (s : State) : State :=
  if s.line.profile = .valid then
    match s.travelNow with
    | some d => s.setShadow (s.shadowAt d)
    | none => s
  else s.setShadow false

/-! ## What follows a change -/

/-- An evaluation, with the shadow test after it where the direction of travel changed (R54, R60; order: DESIGN CHOICE,
log 42). -/
def State.evaluate (s : State) : State :=
  let s1 := s.evalCore
  if s.sup.travel = s1.sup.travel then s1 else s1.shadowTest

/-- The line store reports a change of the line record (R47). -/
def State.lineChanged (s : State) : State := (s.flag .lineRecord).evaluate

/-- The VERSION indication follows the last line version and the committed version; its change is a change of the line
record (R169). -/
def State.judgeVersion (s : State) : State :=
  let v := match s.handler.lineVersion with
    | some v => decide (v ≠ s.line.committedVersion)
    | none => false
  if s.handler.versionInd = v then s
  else (s.withHandler { s.handler with versionInd := v }).flag .lineRecord

/-- The profile state has changed: the VERSION indication, the line record and the shadow test follow, and the evaluation
last (R5, R54, R60, R169; order: DESIGN CHOICE, log 42). -/
def State.profileChanged (s : State) : State := (s.judgeVersion.flag .lineRecord).shadowTest.evaluate

/-- Confidence takes a value: leaving CONFIRMED withdraws both sides, and supervision evaluates (R24, R60, R114). -/
def State.setConfidence (c : Confidence) (s : State) : State :=
  if s.pos.confidence = c then s
  else
    let s1 := s.withPos { s.pos with confidence := c }
    let s2 := if s.pos.confidence = .confirmed then s1.withdrawAll else s1
    s2.evaluate

end Sys2Proof.Machine
end

