-- ==== Sys2Proof/Machine/Watch.lean ====
section
/-! DEFINITION. The brake unit's watches: the deadman (R84), the rollaway count (R104, R105), the long standstill (R96)
and the lock-loss term (R86). -/

namespace Sys2Proof.Machine

/-! ## Vigilance (R84) -/

/-- Whether the driving cab's last record shows the deadman PRESSED. -/
def State.deadmanPressed (s : State) : Bool :=
  match s.drivingControls with
  | some r => r.deadman
  | none => false

/-- Whether the driving cab's last record shows the deadman RELEASED. -/
def State.deadmanReleased (s : State) : Bool :=
  match s.drivingControls with
  | some r => !r.deadman
  | none => false

/-- The held term returns to 0 at standstill with the deadman PRESSED. -/
def State.endVigilance (s : State) : State :=
  if s.brk.terms.vigilance ≠ 0 ∧ s.pos.standstill ∧ s.deadmanPressed then
    s.setTerms { s.brk.terms with vigilance := 0 }
  else s

/-- The vigilance watch is judged: the held term may end, and the timer starts, runs on or is cancelled by its three
conditions (R84). -/
def State.judgeVigilance (s : State) : State :=
  let s1 := s.endVigilance
  let runs := decide (s1.brk.terms.vigilance = 0) && s1.deadmanReleased && !s1.pos.standstill
  s1.withBrk { s1.brk with vigTimer := if runs then some (s1.brk.vigTimer.getD vigilanceTime) else none }

/-- The vigilance watch is judged afresh for a new driving cab (R84; log 24). -/
def State.freshVigilance (s : State) : State := (s.withBrk { s.brk with vigTimer := none }).judgeVigilance

/-! ## Rollaway (R104, R105) -/

/-- A tooth up counts 1, a tooth down -1. -/
def Dir.sign : Dir → Int
  | .up => 1
  | .down => -1

/-- The rollaway count after a tooth: net movement without a selected direction and in PARKED; else the teeth by which
the car stands back from its furthest point. -/
def rollAfter (sel : Option Dir) (d : Dir) (count : Int) : Int :=
  match sel with
  | none => count + d.sign
  | some e => if d = e then max 0 (count - 1) else count + 1

/-- The most net teeth the watch lets pass: 1 in PARKED, else 3. -/
def CarMode.rollAllowance : CarMode → Nat
  | .parked => 1
  | .config => 3
  | .ready => 3
  | .drive => 3
  | .waking => 3

/-- The selected direction the rollaway count goes by; none in PARKED (R105). -/
def State.rollDir (s : State) : Option Dir := if s.mode.mode = .parked then none else s.selectedDir

/-- The rollaway watch takes a tooth: past the allowance the count is reset and ROLLAWAY added (R104, R105). -/
def State.rollTooth (d : Dir) (s : State) : State :=
  if s.brk.rollRunning then
    let n := rollAfter s.rollDir d s.brk.rollCount
    if s.mode.mode.rollAllowance < n.natAbs then
      (s.withBrk { s.brk with rollCount := 0 }).addCause .rollaway
    else s.withBrk { s.brk with rollCount := n }
  else s

/-- The rollaway count is reset where the selected direction is no longer `before` (R104). -/
def State.rollReselect (before : Option Dir) (s : State) : State :=
  if s.selectedDir = before then s else s.withBrk { s.brk with rollCount := 0 }

/-! ## Standstill -/

/-- A tooth ends the long standstill and cancels the hold timer (R96). -/
def State.endLong (s : State) : State := s.withBrk { s.brk with holdTimer := none, long := false }

/-- What the brake unit does at a standstill declaration: the DOOR term ends, vigilance is judged, the hold timer starts
(R84, R86, R96). -/
def State.standstillBrakes (s : State) : State :=
  let s1 := s.setTerms { s.brk.terms with door := 0 }
  let s2 := s1.judgeVigilance
  s2.withBrk { s2.brk with holdTimer := some s2.params.holdDelay, long := false }

/-- The expiry of the hold timer: the standstill is long, and in DRIVE with a demand present the holding brake is
commanded to apply (R96). -/
def State.holdExpired (s : State) : State :=
  let s1 := s.withBrk { s.brk with holdTimer := none, long := true }
  if s1.mode.mode = .drive ∧ 0 < s1.brk.serviceOut then s1.applyCmd .hold else s1

/-- The DRIVER term takes the lever of the driving cab's last record, 0 without a driving cab (R83). -/
def State.driverTerm (s : State) : State :=
  let v := match s.drivingControls with
    | some r => r.lever
    | none => 0
  s.setTerms { s.brk.terms with driver := v }

end Sys2Proof.Machine
end

