-- ==== Sys2Proof/Machine/BrakeEvents.lean ====
section
/-! DEFINITION. The brake unit's own events: BRAKE_FEEDBACK_CHANGE (R91), RELEASE_TIMER_EXPIRY and APPLY_TIMER_EXPIRY
(R90), VIGILANCE_TIMER_EXPIRY (R84), HOLD_TIMER_EXPIRY (R96). -/

namespace Sys2Proof.Machine

/-- A feedback switch takes a reading. -/
def State.setFeedback (b : BrakeId) (r : Feedback) (s : State) : State :=
  s.withBrk (s.brk.put b { s.brk.get b with feedback := r })

/-- A changed feedback is judged in the brake's state (R89 to R92). -/
def State.judgeFeedback (b : BrakeId) (s : State) : State :=
  match (s.brk.get b).state, (s.brk.get b).feedback with
  | .applied, .clear => s.brakeFault b
  | .released, .applied => s.brakeFault b
  | .releasing, .clear => s.setBrake b .released
  | .applying, .applied => s.setBrake b .applied
  | .fault, .applied => s.setBrake b .applied
  | .applied, .applied => s
  | .released, .clear => s
  | .releasing, .applied => s
  | .applying, .clear => s
  | .fault, .clear => s

/-- BRAKE_FEEDBACK_CHANGE (R89 to R92); a reading already held is no change. -/
def execBrakeFeedbackChange (b : BrakeId) (r : Feedback) (s : State) : Host.Outcome State Fault Refusal :=
  .next (if (s.brk.get b).feedback = r then s else (s.setFeedback b r).judgeFeedback b)

/-- RELEASE_TIMER_EXPIRY: with the feedback still APPLIED the brake enters FAULT (R90). -/
def execReleaseTimerExpiry (b : BrakeId) (s : State) : Host.Outcome State Fault Refusal :=
  .next (if (s.brk.get b).state = .releasing then s.brakeFault b else s)

/-- APPLY_TIMER_EXPIRY: with the feedback still CLEAR the brake enters FAULT (R90). -/
def execApplyTimerExpiry (b : BrakeId) (s : State) : Host.Outcome State Fault Refusal :=
  .next (if (s.brk.get b).state = .applying then s.brakeFault b else s)

/-- VIGILANCE_TIMER_EXPIRY: the term is held at 100 % (R84). -/
def execVigilanceTimerExpiry (s : State) : Host.Outcome State Fault Refusal :=
  .next (match s.brk.vigTimer with
    | none => s
    | some _ =>
      let s1 := s.withBrk { s.brk with vigTimer := none }
      s1.setTerms { s1.brk.terms with vigilance := 100 })

/-- HOLD_TIMER_EXPIRY: the standstill is long (R96). -/
def execHoldTimerExpiry (s : State) : Host.Outcome State Fault Refusal :=
  .next (match s.brk.holdTimer with
    | none => s
    | some _ => s.holdExpired)

end Sys2Proof.Machine
end

