-- ==== Sys2Proof/Machine/DoorEvents.lean ====
section
/-! DEFINITION. The door unit's own events: LOCKED_SWITCH_CHANGE (R117, R121, R122), OPEN_END_SWITCH_CHANGE (R116, R120),
OBSTRUCTION (R118), PASSENGER_PRESS (R115), OPEN_LIMIT_EXPIRY (R116), CLOSE_LIMIT_EXPIRY (R117), REVERSAL_TIMER_EXPIRY
(R120). -/

namespace Sys2Proof.Machine

/-- A leaf's locked switch takes a reading. -/
def State.setLocked (i : LeafId) (v : Bool) (s : State) : State :=
  s.withDoors (s.doors.putLeaf i { s.doors.leaf i with locked := v })

/-- A leaf's open-end switch takes a reading. -/
def State.setOpenEnd (i : LeafId) (v : Bool) (s : State) : State :=
  s.withDoors (s.doors.putLeaf i { s.doors.leaf i with openEnd := v })

/-- A leaf's obstruction edge takes a reading. -/
def State.setEdge (i : LeafId) (v : Bool) (s : State) : State :=
  s.withDoors (s.doors.putLeaf i { s.doors.leaf i with edge := v })

/-- LOCKED_SWITCH_CHANGE: the reading is judged in the leaf's state (R108). -/
def execLockedSwitchChange (i : LeafId) (v : Bool) (s : State) : Host.Outcome State Fault Refusal :=
  .next ((s.setLocked i v).settleLeaf i 10)

/-- OPEN_END_SWITCH_CHANGE: the reading is judged in the leaf's state (R108). -/
def execOpenEndSwitchChange (i : LeafId) (v : Bool) (s : State) : Host.Outcome State Fault Refusal :=
  .next ((s.setOpenEnd i v).settleLeaf i 10)

/-- OBSTRUCTION: the reading of the edge is judged in the leaf's state (R108). -/
def execObstruction (i : LeafId) (v : Bool) (s : State) : Host.Outcome State Fault Refusal :=
  .next ((s.setEdge i v).settleLeaf i 10)

/-- PASSENGER_PRESS: taken in CLOSED_UNLOCKED and OBSTRUCTED on a RELEASED side (R115). -/
def execPassengerPress (i : LeafId) (s : State) : Host.Outcome State Fault Refusal :=
  let l := s.doors.leaf i
  .next (if s.doors.side (leafSide i) = .released ∧ (l.state = .closedUnlocked ∨ l.state = .obstructed) then
    s.enterLeaf i .opening l.reversals
  else s)

/-- OPEN_LIMIT_EXPIRY: an OPENING leaf goes to FAULT (R116). -/
def execOpenLimitExpiry (i : LeafId) (s : State) : Host.Outcome State Fault Refusal :=
  let l := s.doors.leaf i
  .next (if l.state = .opening then s.enterLeaf i .fault l.reversals else s)

/-- CLOSE_LIMIT_EXPIRY: a CLOSING leaf goes to FAULT (R117). -/
def execCloseLimitExpiry (i : LeafId) (s : State) : Host.Outcome State Fault Refusal :=
  let l := s.doors.leaf i
  .next (if l.state = .closing then s.enterLeaf i .fault l.reversals else s)

/-- REVERSAL_TIMER_EXPIRY: a REVERSING leaf goes back to CLOSING, its count unchanged (R120). -/
def execReversalTimerExpiry (i : LeafId) (s : State) : Host.Outcome State Fault Refusal :=
  let l := s.doors.leaf i
  .next (if l.state = .reversing then s.enterLeaf i .closing l.reversals else s)

end Sys2Proof.Machine
end

