-- ==== Sys2Proof/Machine/Gate.lean ====
section
/-! DEFINITION. The authority unit: the gate's four steps (R131), the refusal record (R133), the reply an owner gives
(R132), and the drive token with what follows each of its changes (R136, R141, R142); and the abandonment of a load
(R12). -/

namespace Sys2Proof.Machine

/-! ## The gate -/

/-- Whether a gate's origins allow an origin (R131, step 2). -/
def GateOrigins.allows : GateOrigins → Origin → Bool
  | .cab, .cab _ => true
  | .cab, .valley => false
  | .valley, .cab _ => false
  | .valley, .valley => true
  | .both, _ => true

/-- Whether an origin is the driving cab (R131, step 4). -/
def State.drives (s : State) : Origin → Bool
  | .cab c => decide (s.token.driving = some c)
  | .valley => false

/-- Steps 1 to 4 of the check order: the first failure, if any (R131). -/
def State.gateCheck (s : State) (kind : Octet) (o : Origin) : Option ResultCode :=
  match s.gates[kind.toNat]? with
  | none => some .absent
  | some g =>
    if !g.present then some .absent
    else if !g.origins.allows o then some .origin
    else if s.rank o < g.least then some .rank
    else if g.drive && !s.drives o then some .notDriving
    else none

/-- Whether a result code means the request was accepted (R132). -/
def ResultCode.accepted : ResultCode → Bool
  | .ok => true
  | .clamped => true
  | .absent => false
  | .origin => false
  | .rank => false
  | .notDriving => false
  | .stateFails => false
  | .busy => false
  | .full => false
  | .version => false
  | .range => false
  | .unknownId => false

/-- Whether an origin is the valley. -/
def Origin.isValley : Origin → Bool
  | .cab _ => false
  | .valley => true

/-- The refusal record is written at a refusal; an acceptance leaves it (R133). -/
def State.noteResult (code : ResultCode) (kind : Octet) (o : Origin) (s : State) : State :=
  if code.accepted then s
  else s.withRefusal (some { code := code, index := kind.toNat, valley := o.isValley })

/-- What an owner gives for a request: the state after it, the result code, and the answer payload as composed from the
state the answer is composed in (R132, R183). -/
structure Reply where
  st : State
  code : ResultCode
  body : State → List Octet

/-- A refusal that changes nothing and carries no payload. -/
def refuse (code : ResultCode) (s : State) : Reply := { st := s, code := code, body := fun _ => [] }

/-- An acceptance without payload. -/
def accept (s : State) : Reply := { st := s, code := .ok, body := fun _ => [] }

/-- An acceptance whose payload is read from the state after it. -/
def acceptWith (body : State → List Octet) (s : State) : Reply := { st := s, code := .ok, body := body }

/-- A request judged: its state, its result code, and its answer payload. -/
structure Judged where
  st : State
  code : ResultCode
  payload : List Octet

/-- Judges a request: the gate, then the owner, then the refusal record; the payload is composed last (R131 to R133,
R183). -/
def State.judge (s : State) (kind : Octet) (o : Origin) (own : State → Reply) : Judged :=
  match s.gateCheck kind o with
  | some code => { st := s.noteResult code kind o, code := code, payload := [] }
  | none =>
    let r := own s
    let t := r.st.noteResult r.code kind o
    { st := t, code := r.code, payload := r.body t }

/-! ## The drive token -/

/-- The car mode a token gives: DRIVE with a driving cab, READY without (R136). -/
def Token.mode (t : Token) : CarMode :=
  match t.driving with
  | some _ => .drive
  | none => .ready

/-- The readers of the token act: supervision, the DRIVER term, the vigilance watch and the rollaway count (R136). -/
def State.tokenReaders (before : State) (s : State) : State :=
  let s1 := s.evaluate.driverTerm
  let s2 := if before.token.driving = s1.token.driving then s1.judgeVigilance else s1.freshVigilance
  s2.rollReselect before.selectedDir

/-- The token record changes, the car mode with it: TOKEN, the mode, DRIVE_LOST where the driving cab became NONE while
moving (log 7), and the readers (R136, R142). -/
def State.tokenTo (t : Token) (m : CarMode) (s : State) : State :=
  if s.token = t then s
  else
    let s1 := ((s.withToken t).flag .token).changeMode m
    let s2 := if s.token.driving ≠ none ∧ t.driving = none ∧ s1.pos.standstill = false then s1.addCause .driveLost
      else s1
    State.tokenReaders s s2

/-- The token record changes outside PARK (R136). -/
def State.setToken (t : Token) (s : State) : State := s.tokenTo t t.mode

/-- What becomes of the token when the driving cab gives it up: a borrower's eligible lender takes it, else nobody
(R138, R141). -/
def State.tokenLeft (s : State) : Token :=
  match s.token.lendLink with
  | some l => if s.eligible l then Token.plain l else Token.nobody
  | none => Token.nobody

/-- A cab's key has gone OFF or its link LOST: the token by that cab's role (R141). -/
def State.tokenLoss (c : Cab) (s : State) : State :=
  if s.token.driving = some c then s.setToken s.tokenLeft
  else if s.token.lendLink = some c then
    match s.token.driving with
    | some d => s.setToken (Token.plain d)
    | none => s
  else s

/-! ## The load -/

/-- The line store with its tables and profile record emptied and the loader cleared, in a profile state (R6, R12). -/
def LineStore.cleared (l : LineStore) (st : ProfileState) (loader : Option Cab) : LineStore :=
  { l with profile := st, loader := loader, segCount := 0, mkrCount := 0, lineEnd := 0, version := 0, storeCheck := 0#16,
           segments := [], markers := [], verifyTimer := none }

/-- A cab's key has gone OFF or its link LOST: a load it began is abandoned (R12). -/
def State.abandonLoad (c : Cab) (s : State) : State :=
  if s.line.profile = .loading ∧ s.line.loader = some c then
    (s.withLine (s.line.cleared .empty none)).profileChanged
  else s

/-- Both effects of a cab's loss, the token first (R141, R184, R185). -/
def State.cabLost (c : Cab) (s : State) : State := (s.tokenLoss c).abandonLoad c

end Sys2Proof.Machine
end

