-- ==== Sys2Proof/Machine/Monitor.lean ====
section
/-! DEFINITION. The link performance monitor: counting (R177), the transfer (R178), the snapshot as sent (R179). -/

namespace Sys2Proof.Machine

/-- The maximum of a counter (Table 9-5). -/
def CounterId.top : CounterId → Nat
  | .syncErr => 65535
  | .checkFail => 1023
  | .farFail => 1023
  | .slip => 255
  | .loss => 255
  | .msgBad => 1023

/-- One of the six counters. -/
def Counters.get (c : Counters) : CounterId → Counter
  | .syncErr => c.syncErr
  | .checkFail => c.checkFail
  | .farFail => c.farFail
  | .slip => c.slip
  | .loss => c.loss
  | .msgBad => c.msgBad

/-- Replaces one of the six counters. -/
def Counters.put (c : Counters) (i : CounterId) (x : Counter) : Counters :=
  match i with
  | .syncErr => { c with syncErr := x }
  | .checkFail => { c with checkFail := x }
  | .farFail => { c with farFail := x }
  | .slip => { c with slip := x }
  | .loss => { c with loss := x }
  | .msgBad => { c with msgBad := x }

/-- A counter takes an event: at its maximum the overflow mark is set instead (R177). -/
def Counter.up (top : Nat) (c : Counter) : Counter :=
  if c.value < top then { c with value := c.value + 1 } else { c with overflowed := true }

/-- A live counter takes an event (R177). -/
def State.countEvent (i : CounterId) (s : State) : State :=
  s.withMon { s.mon with live := s.mon.live.put i ((s.mon.live.get i).up i.top) }

/-- A transfer: the live values, marks and interval go to the snapshot, and a new interval starts. The transfer timer
restarts, whatever AUTO_TRANSFER holds (R178). -/
def State.transfer (s : State) : State :=
  s.withMon { live := Counters.zero, interval := 0, snapshot := s.mon.live, snapInterval := s.mon.interval,
              timer := some transferPeriod }

/-- The overflow marks as sent, bits 0 to 5 in the order of Table 9-5. -/
def Counters.marks (c : Counters) : Nat :=
  bitsNum [c.syncErr.overflowed, c.checkFail.overflowed, c.farFail.overflowed, c.slip.overflowed, c.loss.overflowed,
    c.msgBad.overflowed]

/-- The snapshot as a cab is answered it (Table 12-3, kinds 3 and 4). -/
def Monitor.octets (m : Monitor) : List Octet :=
  oct2 m.snapshot.syncErr.value ++ oct2 m.snapshot.checkFail.value ++ oct2 m.snapshot.farFail.value
    ++ [oct m.snapshot.slip.value, oct m.snapshot.loss.value] ++ oct2 m.snapshot.msgBad.value
    ++ [oct m.snapshot.marks] ++ oct2 m.snapInterval

end Sys2Proof.Machine
end

