-- ==== Sys2Proof/Machine/ConsoleRequests.lean ====
section
/-! DEFINITION. Owners of the requests about the console's own exchange and the records: CAB_STATE (R185), READ_STATUS
(R189), READ_COUNTERS and TRANSFER_COUNTERS (R179), READ_RESET_CAUSE (R197). -/

namespace Sys2Proof.Machine

/-- The control inputs record a payload carries; none where it is short or a field is out of range (Table 10-2, R199). -/
def readControls : List Octet → Option Controls
  | k :: sel :: lever :: dead :: button :: _ =>
    match boolOf k.toNat, selectorOf sel.toNat, boolOf dead.toNat, boolOf button.toNat with
    | some key, some selector, some deadman, some pressed =>
      if lever.toNat ≤ 100 then
        some { key := key, selector := selector, lever := lever.toNat, deadman := deadman, button := pressed }
      else none
    | _, _, _, _ => none
  | _ => none

/-- The selector of a cab's last record. -/
def State.selectorOfCab (s : State) (c : Cab) : Option Selector := ((s.port c).controls).map (·.selector)

/-- A cab's record is replaced. -/
def State.putControls (c : Cab) (r : Controls) (s : State) : State :=
  s.withPort c { s.port c with controls := some r }

/-- A new record goes to its readers: the button; a key gone from ON to OFF; then the lever, the deadman, the selector
and, in PARKED, the key (R185). -/
def State.takeControls (c : Cab) (r : Controls) (s : State) : State :=
  let s1 := s.putControls c r
  let s2 := if r.button then s1.addCause .cabEmergency else s1
  let s3 := if (s.port c).keyOn ∧ r.key = false then s2.cabLost c else s2
  let s4 := s3.driverTerm.judgeVigilance
  let s5 := if s4.token.driving = some c ∧ s.selectorOfCab c ≠ some r.selector then s4.evaluate else s4
  let s6 := s5.rollReselect s.selectedDir
  if s6.mode.mode = .parked ∧ r.key then s6.changeMode .waking else s6

/-- CAB_STATE (R185): the indication record answers, on RANGE too. -/
def ownCabState (c : Cab) (payload : List Octet) (s : State) : Reply :=
  match readControls payload with
  | none => { st := s, code := .range, body := fun t => t.indication c }
  | some r => { st := s.takeControls c r, code := .ok, body := fun t => t.indication c }

/-- READ_STATUS (R189): the payload shows the flags and counts as they stood before the emptying. -/
def ownReadStatus (c : Cab) (s : State) : Reply :=
  { st := ((s.withFlags (s.flags.emptied c)).withPort c { s.port c with errors := 0 }), code := .ok,
    body := fun _ => s.indication c ++ [oct s.upper.errors, oct s.lower.errors] }

/-- READ_COUNTERS (R179). -/
def ownReadCounters (s : State) : Reply := acceptWith (fun t => t.mon.octets) s

/-- TRANSFER_COUNTERS (R178, R179). -/
def ownTransferCounters (s : State) : Reply := acceptWith (fun t => t.mon.octets) s.transfer

/-- READ_RESET_CAUSE: the flags held are answered and the record emptied in the same step (R197). -/
def ownReadResetCause (s : State) : Reply :=
  { st := s.withMode { s.mode with resetCauses := {} }, code := .ok, body := fun _ => [s.mode.resetCauses.octet] }

end Sys2Proof.Machine
end

