-- ==== Sys2Proof/Machine/DriveRequests.lean ====
section
/-! DEFINITION. Owners of the requests on the drive token: OPEN_CAB (R137), CLOSE_CAB (R138), LEND_DRIVE (R139) and
RETURN_DRIVE (R140). -/

namespace Sys2Proof.Machine

/-- The token record as answered (Table 12-3, kinds 6 to 9). -/
def State.tokenBody (s : State) : List Octet := s.token.octets

/-- OPEN_CAB (R137). -/
def ownOpenCab (c : Cab) (s : State) : Reply :=
  if s.eligible c ∧ s.token.driving = none ∧ s.mode.mode = .ready ∧ s.pos.standstill ∧ s.token.lending c = false then
    acceptWith State.tokenBody (s.setToken (Token.plain c))
  else refuse .stateFails s

/-- CLOSE_CAB (R138). -/
def ownCloseCab (c : Cab) (s : State) : Reply :=
  if s.token.driving = some c ∧ s.pos.standstill then acceptWith State.tokenBody (s.setToken s.tokenLeft)
  else refuse .stateFails s

/-- LEND_DRIVE (R139). -/
def ownLendDrive (c : Cab) (s : State) : Reply :=
  if s.token.driving ≠ some c then refuse .stateFails s
  else if s.token.lendLink ≠ none then refuse .busy s
  else if s.pos.standstill ∧ s.brk.hold.state = .applied ∧ s.eligible (otherCab c) then
    acceptWith State.tokenBody (s.setToken (Token.lent c))
  else refuse .stateFails s

/-- RETURN_DRIVE (R140). -/
def ownReturnDrive (c : Cab) (s : State) : Reply :=
  match s.token.lendLink with
  | some l =>
    if s.token.driving = some c ∧ s.pos.standstill ∧ s.eligible l then
      acceptWith State.tokenBody (s.setToken (Token.plain l))
    else refuse .stateFails s
  | none => refuse .stateFails s

end Sys2Proof.Machine
end

