-- ==== Sys2Proof/Machine/BrakeRequests.lean ====
section
/-! DEFINITION. Owners of EMERGENCY_ACK (R102), HOLD_RELEASE (R98) and HOLD_APPLY (R97). -/

namespace Sys2Proof.Machine

/-- Whether a kind's persistent condition lasts (R101). -/
def State.lasts (s : State) : CauseKind → Bool
  | .valleyStop => s.handler.stopEmergency
  | .brakeFeedback => decide (s.brk.rack.state = .fault) || decide (s.brk.hold.state = .fault)
  | .cabEmergency => s.upper.buttonPressed || s.lower.buttonPressed
  | .overspeed => false
  | .eoaPassed => false
  | .driveLost => false
  | .rollaway => false
  | .restart => false
  | .sensor => false
  | .lineEnd => false

/-- The kinds an acknowledgement leaves: those held whose condition lasts (R101, R102). -/
def State.causesLeft (s : State) : CauseSet :=
  { valleyStop := s.brk.causes.valleyStop && s.lasts .valleyStop
    brakeFeedback := s.brk.causes.brakeFeedback && s.lasts .brakeFeedback
    cabEmergency := s.brk.causes.cabEmergency && s.lasts .cabEmergency }

/-- An acknowledgement that removes a kind: CAUSES, and where the set empties the first-cause record, the EMERGENCY term
and the rack brake's release (R94, R102, R103). -/
def State.acknowledge (s : State) : State :=
  let left := s.causesLeft
  if left.isEmpty then
    let s1 := (s.withBrk { s.brk with causes := left, first := none }).flag .causes
    (s1.setTerms { s1.brk.terms with emergency := 0 }).releaseRack
  else (s.withBrk { s.brk with causes := left }).flag .causes

/-- EMERGENCY_ACK (R102): the cause set is answered on OK and on STATE. -/
def ownEmergencyAck (s : State) : Reply :=
  if s.pos.standstill ∧ s.causesLeft ≠ s.brk.causes then
    acceptWith (fun t => t.brk.causes.octets) s.acknowledge
  else { st := s, code := .stateFails, body := fun t => t.brk.causes.octets }

/-- The holding brake state as answered (Table 12-3, kinds 11 and 12). -/
def State.holdBody (s : State) : List Octet := [oct s.brk.hold.state.num]

/-- Whether the driving cab's last record shows a selector other than NEUTRAL (R98). -/
def State.directionSelected (s : State) : Bool :=
  match s.drivingControls with
  | some r => decide (r.selector ≠ .neutral)
  | none => false

/-- The conditions of HOLD_RELEASE (R98). -/
def State.holdMayRelease (s : State) : Bool :=
  s.doors.allClosed && !s.doors.sideReleased && s.brk.causes.isEmpty && decide (s.brk.rack.state = .released)
    && s.directionSelected && decide (s.brk.hold.state ≠ .fault)

/-- HOLD_RELEASE (R98). -/
def ownHoldRelease (s : State) : Reply :=
  if s.holdMayRelease then acceptWith State.holdBody (s.releaseCmd .hold) else refuse .stateFails s

/-- HOLD_APPLY (R97). -/
def ownHoldApply (s : State) : Reply := acceptWith State.holdBody (s.applyCmd .hold)

end Sys2Proof.Machine
end

