-- ==== Sys2Proof/Machine/DoorRequests.lean ====
section
/-! DEFINITION. Owners of DOOR_RELEASE (R111, R112), DOOR_CLOSE (R113) and DOOR_ISOLATE (R123). -/

namespace Sys2Proof.Machine

/-- Whether a platform adjoins a side (R111). -/
def PlatformSide.serves : PlatformSide → SideId → Bool
  | .a, .a => true
  | .b, .b => true
  | .both, _ => true
  | .none, _ => false
  | .a, .b => false
  | .b, .a => false

/-- The platform condition of a side: the whole extent on the line, every segment under it with a platform there
(R111). -/
def State.atPlatform (s : State) (d : SideId) : Bool :=
  decide (s.line.profile = .valid) && decide (0 ≤ s.lowerEnd) && decide (s.upperEnd ≤ (s.line.lineEnd : Int))
    && s.extentSpans.all fun p => p.seg.side.serves d

/-- The state conditions of DOOR_RELEASE but for the platform (R111). -/
def State.doorsMayRelease (s : State) : Bool :=
  decide (s.mode.mode ≠ .parked) && decide (s.mode.mode ≠ .waking) && s.pos.standstill
    && decide (s.brk.hold.state = .applied) && (!s.steep || decide (s.brk.rack.state = .applied))
    && decide (s.pos.confidence = .confirmed)

/-- A release's act on one leaf: CLOSED_LOCKED unlocks (R112). -/
def State.unlockLeaf (i : LeafId) (s : State) : State :=
  let l := s.doors.leaf i
  if l.state = .closedLocked then s.enterLeaf i .closedUnlocked l.reversals else s

/-- A side is released; a side already RELEASED stays so, its leaves unaffected (R112). -/
def State.releaseSide (d : SideId) (s : State) : State :=
  match s.doors.side d with
  | .released => s
  | .locked => d.leaves.foldl (fun t i => t.unlockLeaf i) (s.setSide d .released)

/-- The side and leaf states as answered (R112, R113). -/
def State.doorBody (s : State) : List Octet := s.doors.states

/-- The sides a payload's first octet names. -/
def sidesIn : List Octet → Option (List SideId)
  | code :: _ => sidesOf code.toNat
  | [] => none

/-- DOOR_RELEASE (R111, R112). A code that names no side passes the state step and is refused RANGE (log 16). -/
def ownDoorRelease (payload : List Octet) (s : State) : Reply :=
  if !s.doorsMayRelease then refuse .stateFails s
  else
    match sidesIn payload with
    | none => refuse .range s
    | some sides =>
      if sides.all fun d => s.atPlatform d then
        acceptWith State.doorBody (sides.foldl (fun t d => t.releaseSide d) s)
      else refuse .stateFails s

/-- Whether a withdrawal moves a leaf in this state to CLOSING (R113). -/
def LeafState.withdraws : LeafState → Bool
  | .closedUnlocked => true
  | .opening => true
  | .opened => true
  | .obstructed => true
  | .closing => false
  | .reversing => false
  | .closedLocked => false
  | .fault => false
  | .isolated => false

/-- The second act of DOOR_CLOSE on a leaf (R113). -/
def State.closeLeafAgain (i : LeafId) (s : State) : State :=
  let l := s.doors.leaf i
  match l.state with
  | .closing => s.withDoors (s.doors.putLeaf i { l with timer := some closeLimit, reversals := 0 })
  | .reversing => s.enterLeaf i .closing 0
  | .fault => if l.locked then s.enterLeaf i .closedLocked l.reversals else s
  | .closedLocked | .closedUnlocked | .opening | .opened | .obstructed | .isolated => s

/-- DOOR_CLOSE on one side: the withdrawal, whether RELEASED or LOCKED (log 17), then the second act on each leaf the
withdrawal did not move (R113). -/
def State.closeSide (d : SideId) (s : State) : State :=
  d.leaves.foldl (fun t i => if (s.doors.leaf i).state.withdraws then t else t.closeLeafAgain i)
    ((s.setSide d .locked).withdrawLeaves d)

/-- DOOR_CLOSE (R113). -/
def ownDoorClose (payload : List Octet) (s : State) : Reply :=
  match sidesIn payload with
  | none => refuse .range s
  | some sides => acceptWith State.doorBody (sides.foldl (fun t d => t.closeSide d) s)

/-- The leaf a payload's first octet names. -/
def leafIn : List Octet → Option LeafId
  | code :: _ => leafOf code.toNat
  | [] => none

/-- A leaf's state as answered (R123). -/
def leafBody (i : LeafId) (s : State) : List Octet := [oct (s.doors.leaf i).state.num]

/-- DOOR_ISOLATE on (R123): the setting octet must read 1. -/
def ownDoorIsolateOn (payload : List Octet) (s : State) : Reply :=
  match leafIn payload, payload[1]? with
  | some i, some setting =>
    if setting ≠ 1#8 then refuse .range s
    else if (s.doors.leaf i).state = .isolated then acceptWith (leafBody i) s
    else if (s.doors.leaf i).locked then acceptWith (leafBody i) (s.enterLeaf i .isolated 0)
    else refuse .stateFails s
  | _, _ => refuse .range s

/-- DOOR_ISOLATE off (R123). -/
def ownDoorIsolateOff (payload : List Octet) (s : State) : Reply :=
  match leafIn payload with
  | some i =>
    if (s.doors.leaf i).state = .isolated then
      acceptWith (leafBody i) (s.enterLeaf i .closedLocked (s.doors.leaf i).reversals)
    else refuse .stateFails s
  | none => refuse .range s

end Sys2Proof.Machine
end

