-- ==== Sys2Proof/Machine/ProfileRequests.lean ====
section
/-! DEFINITION. Owners of the profile requests: PROFILE_BEGIN (R6), PROFILE_SEGMENT (R7), PROFILE_MARKER (R8),
PROFILE_COMMIT (R9 to R11), READ_PROFILE_ENTRY (R16 to R18), and of SET_POSITION (R32). -/

namespace Sys2Proof.Machine

/-! ## Loading -/

/-- The state conditions of PROFILE_BEGIN but for BUSY (R6). -/
def State.mayBegin (s : State) : Bool :=
  s.pos.standstill && decide (s.token.driving = none)
    && (decide (s.mode.mode = .ready) || decide (s.mode.mode = .config))

/-- A load begins: everything of the line record is emptied, the mode is CONFIG (R6). -/
def State.beginLoad (c : Cab) (s : State) : State :=
  let l := s.line.cleared .loading (some c)
  ((s.withLine { l with restrictions := [], overflow := none, authority := none }).changeMode .config).profileChanged

/-- PROFILE_BEGIN (R6). -/
def ownProfileBegin (c : Cab) (s : State) : Reply :=
  if s.line.profile = .loading ∧ s.line.loader ≠ some c then refuse .busy s
  else if s.mayBegin then accept (s.beginLoad c)
  else refuse .stateFails s

/-- How a loading request stands to the load: refused, or taken (R7, R8, R9). -/
def State.loadRefusal (s : State) (c : Cab) : Option ResultCode :=
  if s.line.profile = .loading then
    if s.line.loader = some c then none else some .busy
  else some .stateFails

/-- The index and segment a payload carries, in range (R7). -/
def readSegment : List Octet → Option (Nat × Segment)
  | a :: b :: rest => if num2 a b ≤ 255 then (segmentOf rest).map fun g => (num2 a b, g) else none
  | _ => none

/-- PROFILE_SEGMENT (R7). -/
def ownProfileSegment (c : Cab) (payload : List Octet) (s : State) : Reply :=
  match s.loadRefusal c with
  | some code => refuse code s
  | none =>
    match readSegment payload with
    | none => refuse .range s
    | some (i, g) =>
      accept ((s.withLine { s.line with segments := s.line.segments.put i g }).flag .lineRecord)

/-- The index and position a payload carries, in range (R8). -/
def readMarker : List Octet → Option (Nat × Nat)
  | a :: b :: x :: y :: z :: _ =>
    if num2 a b ≤ 127 ∧ num3 x y z ≤ positionMax then some (num2 a b, num3 x y z) else none
  | _ => none

/-- PROFILE_MARKER (R8). -/
def ownProfileMarker (c : Cab) (payload : List Octet) (s : State) : Reply :=
  match s.loadRefusal c with
  | some code => refuse code s
  | none =>
    match readMarker payload with
    | none => refuse .range s
    | some (i, p) =>
      accept ((s.withLine { s.line with markers := s.line.markers.put i p }).flag .lineRecord)

/-! ## Committing -/

/-- The fields of a commit (R9). -/
structure Commit where
  segCount : Nat
  mkrCount : Nat
  lineEnd : Nat
  version : Nat
  deriving DecidableEq, Repr

/-- The fields a commit's payload carries, in range (R9). -/
def readCommit : List Octet → Option Commit
  | s1 :: s2 :: m1 :: m2 :: e1 :: e2 :: e3 :: v1 :: v2 :: _ =>
    let k : Commit := { segCount := num2 s1 s2, mkrCount := num2 m1 m2, lineEnd := num3 e1 e2 e3, version := num2 v1 v2 }
    if 1 ≤ k.segCount ∧ k.segCount ≤ 256 ∧ k.mkrCount ≤ 128 ∧ 100 ≤ k.lineEnd ∧ k.lineEnd ≤ positionMax ∧ 1 ≤ k.version
    then some k else none
  | _ => none

/-- The first check the segment at an index fails (Table 1-4). -/
def segmentFault (t : Table Segment) (lineEnd i : Nat) : Option CommitReason :=
  match t.get i with
  | none => some .unwritten
  | some g =>
    if i = 0 ∧ g.start ≠ 0 then some .notAtZero
    else if i ≠ 0 ∧ g.start ≤ ((t.get (i - 1)).map (·.start)).getD 0 then some .notIncreasing
    else if lineEnd ≤ g.start then some .beyondEnd
    else none

/-- The first check the marker at an index fails (Table 1-4). -/
def markerFault (t : Table Nat) (lineEnd i : Nat) : Option CommitReason :=
  match t.get i with
  | none => some .unwritten
  | some p =>
    if i ≠ 0 ∧ p ≤ (t.get (i - 1)).getD 0 then some .notIncreasing
    else if lineEnd < p then some .beyondEnd
    else none

/-- A failure detail: table, index, reason (R10). -/
structure CommitFault where
  table : TableId
  index : Nat
  reason : CommitReason
  deriving DecidableEq, Repr

/-- The first failure of a list of indices. -/
def firstFault (table : TableId) (check : Nat → Option CommitReason) : List Nat → Option CommitFault
  | [] => none
  | i :: rest =>
    match check i with
    | some r => some { table := table, index := i, reason := r }
    | none => firstFault table check rest

/-- Validation: the segments in increasing index, then the markers; the first failure is reported (R10). -/
def LineStore.validate (l : LineStore) (k : Commit) : Option CommitFault :=
  match firstFault .segments (segmentFault l.segments k.lineEnd) (List.range k.segCount) with
  | some f => some f
  | none => firstFault .markers (markerFault l.markers k.lineEnd) (List.range k.mkrCount)

/-- The line store after a successful commit (R11). -/
def LineStore.committed (l : LineStore) (k : Commit) : LineStore :=
  let l1 : LineStore := { l with
    profile := .valid, loader := none, segCount := k.segCount, mkrCount := k.mkrCount, lineEnd := k.lineEnd,
    version := k.version, segments := l.segments.below k.segCount, markers := l.markers.below k.mkrCount,
    verifyTimer := some verifyPeriod }
  { l1 with storeCheck := l1.freshCheck }

/-- A failure detail as answered (Table 12-3, kind 19). -/
def CommitFault.octets (f : CommitFault) : List Octet := oct f.table.num :: oct2 f.index ++ [oct f.reason.num]

/-- PROFILE_COMMIT (R9, R10, R11): a failed validation is refused STATE with its detail, and reported (R5). -/
def ownProfileCommit (c : Cab) (payload : List Octet) (s : State) : Reply :=
  match s.loadRefusal c with
  | some code => refuse code s
  | none =>
    match readCommit payload with
    | none => refuse .range s
    | some k =>
      match s.line.validate k with
      | some f => { st := s.flag .lineRecord, code := .stateFails, body := fun _ => f.octets }
      | none =>
        acceptWith (fun t => oct2 t.line.version ++ crcOctets t.line.storeCheck)
          (((s.withLine (s.line.committed k)).changeMode .ready).profileChanged)

/-! ## Reading back -/

/-- The read-back count of a table (Table 1-8). -/
def LineStore.readCount (l : LineStore) : TableId → Nat
  | .segments =>
    match l.profile with
    | .valid => l.segCount
    | .loading => l.segments.span
    | .empty => 0
  | .markers =>
    match l.profile with
    | .valid => l.mkrCount
    | .loading => l.markers.span
    | .empty => 0
  | .restrictions => l.restrictions.length + (if l.overflow.isSome then 1 else 0)

/-- Eleven octets of 0. -/
def noEntry : List Octet := List.replicate 11 0#8

/-- A written mark and eleven entry octets (12.2). -/
def entryOctets (e : Option (List Octet)) : List Octet :=
  match e with
  | some l => 1#8 :: l
  | none => 0#8 :: noEntry

/-- A list entry as read back: ten octets and one of 0 (12.2). -/
def Restriction.octets (r : Restriction) : List Octet :=
  oct r.id :: oct3 r.start ++ oct3 r.stop ++ oct2 r.limit ++ [oct r.origin.num, 0#8]

/-- The overflow record as read back, with its mark (12.2). -/
def Overflow.octets (o : Overflow) : List Octet :=
  oct3 o.start ++ oct3 o.stop ++ oct2 o.limit ++ [oct o.folded, 1#8, 0#8]

/-- The entry at an index of a table, with its written mark (Table 1-8; the written mark of the RESTRICTIONS table is
sent set, log 33). -/
def LineStore.entryAt (l : LineStore) (t : TableId) (i : Nat) : List Octet :=
  match t with
  | .segments => entryOctets ((l.segments.get i).map Segment.store)
  | .markers => entryOctets ((l.markers.get i).map fun p => markerStore p ++ List.replicate 8 0#8)
  | .restrictions =>
    match l.restrictions[i]? with
    | some r => entryOctets (some r.octets)
    | none => entryOctets (l.overflow.map Overflow.octets)

/-- The payload of an OK answer (R16). -/
def readBackBody (t : TableId) (i : Nat) (s : State) : List Octet :=
  [oct t.num, oct i] ++ oct2 (s.line.readCount t) ++ [oct s.line.profile.num] ++ oct2 s.line.version
    ++ crcOctets s.line.storeCheck ++ s.line.entryAt t i

/-- Reads an index of a table and leaves the cab's cursor there; refused RANGE beyond the count (R17, R18). -/
def readBackAt (c : Cab) (t : TableId) (i : Nat) (s : State) : Reply :=
  if i < s.line.readCount t then
    acceptWith (readBackBody t i) (s.withPort c { s.port c with cursor := { table := t, index := some i } })
  else refuse .range s

/-- READ_PROFILE_ENTRY naming an index (R17). -/
def ownReadProfileEntry (c : Cab) (payload : List Octet) (s : State) : Reply :=
  match payload with
  | code :: a :: b :: _ =>
    match tableOf code.toNat with
    | some t => if num2 a b ≤ 255 then readBackAt c t (num2 a b) s else refuse .range s
    | none => refuse .range s
  | _ => refuse .range s

/-- The index "next" reads (R18). -/
def Cursor.nextIndex (k : Cursor) (t : TableId) (count : Nat) : Nat :=
  if k.table = t then
    match k.index with
    | some i => if i + 1 < count then i + 1 else 0
    | none => 0
  else 0

/-- READ_PROFILE_ENTRY asking for "next" (R18). -/
def ownReadProfileEntryNext (c : Cab) (payload : List Octet) (s : State) : Reply :=
  match payload with
  | code :: _ :: _ :: _ =>
    match tableOf code.toNat with
    | some t => readBackAt c t ((s.port c).cursor.nextIndex t (s.line.readCount t)) s
    | none => refuse .range s
  | _ => refuse .range s

/-! ## SET_POSITION -/

/-- The position a payload carries. -/
def readPosition : List Octet → Option Nat
  | a :: b :: c :: _ => some (num3 a b c)
  | _ => none

/-- A position is declared (R32): an authority removed is a change of the line record (R52), confidence leaving
CONFIRMED withdraws both sides (R114). The evaluation comes before the shadow test (DESIGN CHOICE, log 42). -/
def State.declarePosition (p : Nat) (s : State) : State :=
  let s1 := s.withPos { s.pos with count := p, confidence := .declared, distance := 0, correction := 0 }
  let s2 := if s1.line.authority.isSome then (s1.withLine { s1.line with authority := none }).flag .lineRecord else s1
  let s3 := if s.pos.confidence = .confirmed then s2.withdrawAll else s2
  s3.evaluate.shadowTest

/-- SET_POSITION (R32). -/
def ownSetPosition (payload : List Octet) (s : State) : Reply :=
  if s.pos.standstill = false ∨ s.line.profile ≠ .valid then refuse .stateFails s
  else
    match readPosition payload with
    | none => refuse .range s
    | some p =>
      if s.params.carLength ≤ p ∧ p ≤ s.line.lineEnd then accept (s.declarePosition p) else refuse .range s

end Sys2Proof.Machine
end

