-- ==== Sys2Proof/Machine/LineRequests.lean ====
section
/-! DEFINITION. Owners of the requests and orders on restrictions and the authority: CAB_RESTRICT and RESTRICT (R39 to
R42), CAB_LIFT (R45), LIFT (R46), CLEAR_OVERFLOW (R44), AUTHORITY (R49 to R51). -/

namespace Sys2Proof.Machine

/-! ## Insertions -/

/-- The fields an insertion carries (Table 12-6). -/
structure Insertion where
  id : Nat
  start : Nat
  stop : Nat
  limit : Nat
  deriving DecidableEq, Repr

/-- The fields of an insertion's payload. -/
def readInsertion : List Octet → Option Insertion
  | i :: a :: b :: c :: d :: e :: f :: g :: h :: _ =>
    some { id := i.toNat, start := num3 a b c, stop := num3 d e f, limit := num2 g h }
  | _ => none

/-- The span and limit an insertion leaves after steps 2 to 5 of R40; none where those steps refuse it. -/
def Insertion.clip (n : Insertion) (lineEnd : Nat) : Option Insertion :=
  if positionMax < n.start ∨ positionMax < n.stop then none
  else if n.stop ≤ n.start then none
  else if min n.stop lineEnd ≤ n.start then none
  else some { n with stop := min n.stop lineEnd, limit := min n.limit limitMax }

/-- The list with an entry in its place in id order, replacing one of the same id (R41). -/
def insertRestriction (r : Restriction) : List Restriction → List Restriction
  | [] => [r]
  | x :: rest =>
    if r.id < x.id then r :: x :: rest
    else if r.id = x.id then r :: rest
    else x :: insertRestriction r rest

/-- The most entries the restriction list holds (R37). -/
def listMax : Nat := 16

/-- The overflow record after a fold (R42). -/
def foldOverflow (o : Option Overflow) (n : Insertion) : Overflow :=
  match o with
  | none => { start := n.start, stop := n.stop, limit := n.limit, folded := 1 }
  | some o => { start := min o.start n.start, stop := max o.stop n.stop, limit := min o.limit n.limit,
                folded := min 255 (o.folded + 1) }

/-- The overflow record in an answer FULL (Table 12-3, kind 21). -/
def overflowBody (s : State) : List Octet :=
  match s.line.overflow with
  | some o => 1#8 :: oct3 o.start ++ oct3 o.stop ++ oct2 o.limit ++ [oct o.folded]
  | none => List.replicate 10 0#8

/-- A fold into the overflow record (R42). It is reported where it changes the record, which creates or widens it or raises
its count (R5, R47); one that leaves the record as it was changes nothing (DEDUCED, log 41). -/
def State.fold (n : Insertion) (s : State) : State :=
  if s.line.overflow = some (foldOverflow s.line.overflow n) then s
  else (s.withLine { s.line with overflow := some (foldOverflow s.line.overflow n) }).lineChanged

/-- A refusal FULL, with the fold where the entry describes a span (R42). -/
def refuseFull (n : Option Insertion) (s : State) : Reply :=
  let clipped := n.bind fun n => n.clip s.line.lineEnd
  { st := match clipped with
      | some m => s.fold m
      | none => s
    code := .full
    body := overflowBody }

/-- Id and list size, in an answer OK or CLAMPED (R41). -/
def insertedBody (id : Nat) (s : State) : List Octet := [oct id, oct s.line.restrictions.length]

/-- An insertion past its state conditions: the ranges, then the entry (R40, R41). -/
def insertEntry (o : Origin) (n : Insertion) (s : State) : Reply :=
  if n.id = 0 then refuse .range s
  else
    match n.clip s.line.lineEnd with
    | none => refuse .range s
    | some m =>
      let r : Restriction := { id := m.id, start := m.start, stop := m.stop, limit := m.limit, origin := o }
      { st := (s.withLine { s.line with restrictions := insertRestriction r s.line.restrictions }).lineChanged
        code := if m = n then .ok else .clamped
        body := insertedBody n.id }

/-- Whether the list is full for the id a payload carries (R39). -/
def State.listFull (s : State) (payload : List Octet) : Bool :=
  match payload with
  | i :: _ => decide (listMax ≤ s.line.restrictions.length) && (s.line.restriction i.toNat).isNone
  | [] => false

/-- CAB_RESTRICT and RESTRICT from an origin (R39 to R42). -/
def ownInsert (o : Origin) (payload : List Octet) (s : State) : Reply :=
  if s.line.profile ≠ .valid then refuse .stateFails s
  else if s.listFull payload then refuseFull (readInsertion payload) s
  else
    match readInsertion payload with
    | none => refuse .range s
    | some n => insertEntry o n s

/-- CAB_RESTRICT (R39). -/
def ownCabRestrict (c : Cab) (payload : List Octet) (s : State) : Reply := ownInsert (.cab c) payload s

/-- RESTRICT (R39). -/
def ownRestrict (payload : List Octet) (s : State) : Reply := ownInsert .valley payload s

/-! ## Lifts -/

/-- The entry of an id leaves the list (R45, R46). -/
def State.liftEntry (id : Nat) (s : State) : State :=
  (s.withLine { s.line with restrictions := s.line.restrictions.filter fun r => decide (r.id ≠ id) }).lineChanged

/-- The list size as answered (R45). -/
def listBody (s : State) : List Octet := [oct s.line.restrictions.length]

/-- The id in range a payload carries. -/
def readId : List Octet → Option Nat
  | i :: _ => if i.toNat = 0 then none else some i.toNat
  | [] => none

/-- CAB_LIFT (R45). -/
def ownCabLift (c : Cab) (payload : List Octet) (s : State) : Reply :=
  if s.line.profile ≠ .valid then refuse .stateFails s
  else
    match readId payload with
    | none => refuse .range s
    | some id =>
      match s.line.restriction id with
      | none => refuse .unknownId s
      | some r => if r.origin = .cab c then acceptWith listBody (s.liftEntry id) else refuse .origin s

/-- LIFT (R46). -/
def ownLift (payload : List Octet) (s : State) : Reply :=
  if s.line.profile ≠ .valid then refuse .stateFails s
  else
    match readId payload with
    | none => refuse .range s
    | some id =>
      match s.line.restriction id with
      | none => refuse .unknownId s
      | some _ => accept (s.liftEntry id)

/-- CLEAR_OVERFLOW: accepted, and reported, whether or not the record is present (R44, R47). -/
def ownClearOverflow (s : State) : Reply := accept ((s.withLine { s.line with overflow := none }).lineChanged)

/-! ## The authority -/

/-- The octets of an AUTHORITY payload: direction code, EOA, number, version (Table 12-6). -/
structure Grant where
  dirCode : Nat
  eoa : Nat
  number : Nat
  version : Nat
  deriving DecidableEq, Repr

/-- The fields of an AUTHORITY payload. -/
def readGrant : List Octet → Option Grant
  | d :: a :: b :: c :: n :: v :: w :: _ =>
    some { dirCode := d.toNat, eoa := num3 a b c, number := n.toNat, version := num2 v w }
  | _ => none

/-- Whether a number makes an order a duplicate (R49). -/
def LineStore.duplicate (l : LineStore) (number : Nat) : Bool :=
  match l.authority with
  | some a => !a.void && decide (a.number = number)
  | none => false

/-- Whether a direction code differs from the held authority's direction (R49). -/
def LineStore.turns (l : LineStore) (dirCode : Nat) : Bool :=
  match l.authority with
  | some a => decide (dirNum (some a.dir) ≠ dirCode)
  | none => false

/-- Whether confidence lets an authority be granted (R49). -/
def Confidence.grants : Confidence → Bool
  | .confirmed => true
  | .drifting => true
  | .lost => true
  | .unknown => false
  | .declared => false

/-- The line record takes an authority: the mark of supervision is cleared, EOA_PASSED joins where the front end has
passed the new EOA, the change is reported (R50, R51, R80). -/
def State.takeAuthority (a : Authority) (s : State) : State :=
  let s1 := (s.withLine { s.line with authority := some a }).withSup { s.sup with passedMark := false }
  let s2 := if s1.passedEoa a then s1.addCause .eoaPassed else s1
  s2.lineChanged

/-- A grant past the duplicate test and the confidence (R49, steps 4 to 6; R50). -/
def grantAuthority (g : Grant) (s : State) : Reply :=
  if g.version ≠ s.line.version then refuse .version s
  else if s.line.turns g.dirCode ∧ s.pos.standstill = false then refuse .stateFails s
  else
    match dirOf g.dirCode with
    | none => refuse .range s
    | some d =>
      if s.line.lineEnd < g.eoa then refuse .range s
      else accept (s.takeAuthority { dir := d, eoa := g.eoa, number := g.number, void := false })

/-- Whether the number a short payload does carry makes it a duplicate. -/
def LineStore.shortDuplicate (l : LineStore) (payload : List Octet) : Bool :=
  match payload[4]? with
  | some n => l.duplicate n.toNat
  | none => false

/-- Whether the direction a short payload does carry differs from the held authority's. -/
def LineStore.shortTurns (l : LineStore) (payload : List Octet) : Bool :=
  match payload[0]? with
  | some d => l.turns d.toNat
  | none => false

/-- A payload too short for an AUTHORITY: the conditions on the fields it does carry are judged, then RANGE (log 18). -/
def shortAuthority (payload : List Octet) (s : State) : Reply :=
  if s.line.shortDuplicate payload then accept s
  else if s.pos.confidence.grants = false then refuse .stateFails s
  else if s.line.shortTurns payload ∧ s.pos.standstill = false then refuse .stateFails s
  else refuse .range s

/-- AUTHORITY (R49, R50, R51). -/
def ownAuthority (payload : List Octet) (s : State) : Reply :=
  if s.line.profile ≠ .valid then refuse .stateFails s
  else
    match readGrant payload with
    | none => shortAuthority payload s
    | some g =>
      if s.line.duplicate g.number then accept s
      else if s.pos.confidence.grants = false then refuse .stateFails s
      else grantAuthority g s

end Sys2Proof.Machine
end

