-- ==== Sys2Proof/Machine/SetupRequests.lean ====
section
/-! DEFINITION. Owners of kind 24: SET_GATE (R134) and SET_PARAMETER (R59, R135). -/

namespace Sys2Proof.Machine

/-! ## SET_GATE -/

/-- A gate entry as answered (Table 12-3, kind 24). -/
def gateBody (i : Nat) (s : State) : List Octet :=
  match s.gates[i]? with
  | some g => [oct i, octBool g.present, oct g.least, octBool g.drive, oct g.origins.num, octBool g.locked]
  | none => [oct i, 0#8, 0#8, 0#8, 0#8, 0#8]

/-- Whether an index names a present entry that is locked (R134). -/
def State.gateLocked (s : State) (i : Nat) : Bool :=
  match s.gates[i]? with
  | some g => g.present && g.locked
  | none => false

/-- Whether an index names a present entry (R134). -/
def State.gatePresent (s : State) (i : Nat) : Bool :=
  match s.gates[i]? with
  | some g => g.present
  | none => false

/-- The table with the least rank and drive required of an entry replaced (R134). -/
def writeGate (l : List GateEntry) (i least : Nat) (drive : Bool) : List GateEntry :=
  match l[i]? with
  | some g => l.set i { g with least := least, drive := drive }
  | none => l

/-- SET_GATE past its state conditions: the ranges, then the write (R134). -/
def setGateEntry (i least drive : Nat) (s : State) : Reply :=
  if s.gatePresent i = false then refuse .range s
  else
    match boolOf drive with
    | none => refuse .range s
    | some d =>
      if 2 < least then refuse .range s
      else acceptWith (gateBody i) (s.withGates (writeGate s.gates i least d))

/-- SET_GATE (R134): the selector octet must read 0 (log 23). -/
def ownSetGate (payload : List Octet) (s : State) : Reply :=
  if s.mode.mode ≠ .config then refuse .stateFails s
  else
    match payload with
    | sel :: i :: rest =>
      if sel ≠ 0#8 then refuse .range s
      else if s.gateLocked i.toNat then refuse .stateFails s
      else
        match rest with
        | least :: drive :: _ => setGateEntry i.toNat least.toNat drive.toNat s
        | _ => refuse .range s
    | _ => refuse .range s

/-! ## SET_PARAMETER -/

/-- A value brought into a parameter's range (R135). -/
def clampParam (n v : Nat) : Nat :=
  match paramRanges[n]? with
  | some (lo, hi) => max lo (min hi v)
  | none => v

/-- The margins' order restored upward (R59). -/
def Params.orderMargins (p : Params) : Params :=
  let service := max p.serviceMargin p.warningMargin
  { p with serviceMargin := service, emergencyMargin := max p.emergencyMargin service }

/-- The contact thresholds' order restored upward (R135). -/
def Params.orderThresholds (p : Params) : Params :=
  let void := max p.void p.degrade
  { p with void := void, shadowVoid := max p.shadowVoid void }

/-- The order the owner of a parameter restores after a write of it (R59, R135). -/
def Params.reorder (n : Nat) (p : Params) : Params :=
  match n with
  | 3 => p.orderThresholds
  | 4 => p.orderThresholds
  | 5 => p.orderThresholds
  | 13 => p.orderMargins
  | 14 => p.orderMargins
  | 15 => p.orderMargins
  | _ => p

/-- A lowered maximum unconfirmed distance may move CONFIRMED to DRIFTING (R31). -/
def State.judgeDistance (s : State) : State :=
  if s.pos.confidence = .confirmed ∧ s.params.maxUnconfirmed < s.pos.distance then s.setConfidence .drifting else s

/-- The transfer timer after a write of AUTO_TRANSFER (R178). -/
def State.judgeTransferTimer (s : State) : State :=
  s.withMon { s.mon with
    timer := if s.params.autoTransfer = 0 then none else some (s.mon.timer.getD transferPeriod) }

/-- What follows a write of a parameter (R31, R33, R55, R60, R178): the car length moves the extent, with the evaluation
before the shadow test (DESIGN CHOICE, log 42), a contact threshold has the contact state judged (log 21), the parameters of
Table 4-2 cause an evaluation. -/
def State.paramWritten (n : Nat) (s : State) : State :=
  if n = 0 then s.evaluate.shadowTest
  else if n = 2 then s.judgeDistance
  else if 3 ≤ n ∧ n ≤ 5 then s.judgeContact
  else if 6 ≤ n ∧ n ≤ 15 then s.evaluate
  else if n = 18 then s.judgeTransferTimer
  else s

/-- The value a parameter holds, as answered (R135). -/
def paramBody (n : Nat) (s : State) : List Octet := oct2 (s.params.get n)

/-- SET_PARAMETER past its ranges (R59, R135). -/
def writeParam (n v : Nat) (s : State) : Reply :=
  let p := s.params.set n (clampParam n v)
  let q := p.reorder n
  { st := (s.withParams q).paramWritten n
    code := if clampParam n v = v ∧ q = p then .ok else .clamped
    body := paramBody n }

/-- SET_PARAMETER (R135). -/
def ownSetParameter (payload : List Octet) (s : State) : Reply :=
  if s.mode.mode ≠ .config then refuse .stateFails s
  else
    match payload with
    | _ :: n :: a :: b :: _ =>
      if 19 < n.toNat then refuse .range s
      else if n.toNat = 18 ∧ 1 < num2 a b then refuse .range s
      else writeParam n.toNat (num2 a b) s
    | _ => refuse .range s

end Sys2Proof.Machine
end

