-- ==== Sys2Proof/Machine/OrderOwners.lean ====
section
/-! DEFINITION. Owners of the orders the valley message handler decides: LINE (R169), STOP and STOP_RELEASE (R170), WAKE
and POLL (R171), and of DOORS_CLOSE (R113); and the VALLEY term (R85). -/

namespace Sys2Proof.Machine

/-- The VALLEY term follows the held service mark and the line state code (R85). -/
def State.valleyTerm (s : State) : State :=
  s.setTerms { s.brk.terms with
    valley := if s.handler.stopService ∨ s.lineCode.effective = .stop then 100 else 0 }

/-- The version a payload carries, 1 to 65,535. -/
def readVersion : List Octet → Option Nat
  | a :: b :: _ => if num2 a b = 0 then none else some (num2 a b)
  | _ => none

/-- LINE (R169). -/
def ownLine (payload : List Octet) (s : State) : Reply :=
  match readVersion payload with
  | none => refuse .range s
  | some v => accept ((s.withHandler { s.handler with lineVersion := some v }).judgeVersion)

/-- STOP with severity SERVICE: the severity octet must read 1 (R170). -/
def ownStopService (payload : List Octet) (s : State) : Reply :=
  match payload with
  | sev :: _ =>
    if sev = 1#8 then accept ((s.withHandler { s.handler with stopService := true }).valleyTerm) else refuse .range s
  | [] => refuse .range s

/-- STOP with severity EMERGENCY: the severity octet must read 2 (R170). -/
def ownStopEmergency (payload : List Octet) (s : State) : Reply :=
  match payload with
  | sev :: _ =>
    if sev = 2#8 then accept ((s.withHandler { s.handler with stopEmergency := true }).addCause .valleyStop)
    else refuse .range s
  | [] => refuse .range s

/-- STOP_RELEASE (R170). -/
def ownStopRelease (s : State) : Reply :=
  accept ((s.withHandler { s.handler with stopService := false, stopEmergency := false }).valleyTerm)

/-- DOORS_CLOSE: a DOOR_CLOSE naming ALL (R113). -/
def ownDoorsClose (s : State) : Reply := accept ((s.closeSide .a).closeSide .b)

/-- WAKE (R171, R194). -/
def ownWake (s : State) : Reply :=
  if s.mode.mode = .parked then accept (s.changeMode .waking) else refuse .stateFails s

/-- POLL: its number is the last accepted before the STATUS is composed (R171). -/
def ownPoll (order : Octet) (s : State) : Reply :=
  accept ((s.withHandler { s.handler with outcomes := { s.handler.outcomes with accepted := some order } }).offerStatus)

/-- The owner a gate index names among the valley kinds; a kind that the gate stops never reaches it (R131). -/
def valleyOwner (kind order : Octet) (payload : List Octet) (s : State) : Reply :=
  match kind.toNat with
  | 32 => ownLine payload s
  | 33 => ownAuthority payload s
  | 34 => ownRestrict payload s
  | 35 => ownLift payload s
  | 36 => if payload.head? = some 2#8 then ownStopEmergency payload s else ownStopService payload s
  | 37 => ownStopRelease s
  | 38 => ownDoorsClose s
  | 39 => ownClearOverflow s
  | 40 => ownWake s
  | 41 => ownPoll order s
  | _ => refuse .absent s

end Sys2Proof.Machine
end

