-- ==== Sys2Proof/Machine/Handler.lean ====
section
/-! DEFINITION. The valley message handler's receive side: the assembly (R164, R165), the address (R166), the outcome
record (R168), the discard notice (R167), and the window end a message moves (R193). -/

namespace Sys2Proof.Machine

/-- The end of a window after an event that moves it (R193). -/
def Window.moved (w : Window) : Window := { w with closeAt := min windowCap (max w.closeAt (w.elapsed + windowStay)) }

/-- An event that moves the end of an open window (R193). -/
def State.windowMoves (s : State) : State := s.withMode { s.mode with window := s.mode.window.map Window.moved }

/-- The order outcome record after an order (R168). -/
def Outcomes.note (o : Outcomes) (order : Octet) (code : ResultCode) : Outcomes :=
  if code.accepted then { o with accepted := some order }
  else { o with refused := some order, reason := some code, tally := min 255 (o.tally + 1) }

/-- An order is judged and its outcome recorded (R166, R168). -/
def State.takeOrder (kind order : Octet) (own : State → Reply) (s : State) : State :=
  let j := s.judge kind .valley own
  j.st.withHandler { j.st.handler with outcomes := j.st.handler.outcomes.note order j.code }

/-- Whether a car id addresses this car (R166). -/
def State.addressed (s : State) (car : Octet) : Bool := decide (car = 0#8) || decide (car = s.carIdOctet)

/-- A valid valley message: the window end moves; addressed to this car, it resets the contact timer and is judged
(R53, R166, R193). -/
def State.heed (kind : Octet) (m : ValleyMsg) (own : State → Reply) (s : State) : State :=
  let s1 := s.windowMoves
  if s1.addressed m.car then (s1.contactHeard).takeOrder kind m.order own else s1

/-- A valid message as the assembler finds it: car id, kind, order number, payload (Table 12-5). -/
def State.heedBody (body : List Octet) (s : State) : State :=
  match body with
  | car :: kind :: order :: payload =>
    s.heed kind { car := car, order := order, payload := payload } (valleyOwner kind order payload)
  | _ => s

/-- Replaces the assembly buffer. -/
def State.withBuffer (l : List Octet) (s : State) : State := s.withHandler { s.handler with buffer := l }

/-- The assembler over octets, from HUNTING; `n` bounds the octets examined (R164, R165). -/
def State.assemble : Nat → List Octet → State → State
  | 0, _, s => s
  | _ + 1, [], s => s
  | n + 1, o :: rest, s =>
    if o ≠ 0xC3#8 then State.assemble n rest s
    else
      match frameOf 40 1 (o :: rest) with
      | .partialMessage => s.withBuffer (o :: rest)
      | .bad => State.assemble n rest (s.countEvent .msgBad)
      | .valid body size => State.assemble n ((o :: rest).drop size) (s.heedBody body)

/-- Octets handed on by the framer; none are in HUNT (R156, R164; log 13). -/
def State.handOn (l : List Octet) (s : State) : State :=
  if s.rx.state = .hunt then s
  else
    let all := s.handler.buffer ++ l
    (s.withBuffer []).assemble (all.length + 1) all

/-- A discard notice (R167). -/
def State.discard (s : State) : State := s.withBuffer []

/-- A valley message as a command: with the assembler in HUNTING it is valid as it stands; else its octets are handed on
one by one (log 1). -/
def State.valleyCommand (m : ValleyMsg) (kind : Octet) (own : State → Reply) (s : State) : State :=
  if s.rx.state = .hunt then s
  else if s.handler.buffer = [] ∧ m.payload.length ≤ 38 then s.heed kind m own
  else s.handOn (valleyOctets kind m)

end Sys2Proof.Machine
end

