-- ==== Sys2Proof/Machine/RadioOps.lean ====
section
/-! DEFINITION. The shared operations of the radio framer: the sync pattern (R144), the line state code (R157, R158),
the receive states with all that follows each change (R146, R148, R149, R152, R159), and the owner of PARK, whose watch
begins with a search (R192, R193). -/

namespace Sys2Proof.Machine

/-- Whether an octet carries the sync pattern 011010 in its six most significant bits (R144). -/
def goodHeader (o : Octet) : Bool := decide (o.toNat / 4 = 26)

/-- The superframe marker of a header (R144). -/
def markerOf (o : Octet) : Bool := o.getLsbD 1

/-- The framer reports a change of the receive state (R146). -/
def State.setRxState (st : RxState) (s : State) : State :=
  if s.rx.state = st then s else (s.withRx { s.rx with state := st }).flag .radio

/-! ## The line state code -/

/-- The line state code takes a value and condition; a change of either goes to the cabs, the VALLEY term and supervision
(R158). -/
def State.setLineCode (c : LineCode) (s : State) : State :=
  let s1 := s.withLineCode c
  if s.lineCode.value = c.value ∧ s.lineCode.condition = c.condition then s1
  else ((s1.flag .lineCode).valleyTerm).evaluate

/-- A departure from CHECKED: the debounce record is emptied and a LIVE code is HELD (R157, R158). -/
def State.holdCode (s : State) : State :=
  let c := { s.lineCode with candidate := none, run := 0 }
  s.setLineCode
    (if c.condition = .live then { c with condition := .held, holdTimer := some s.params.degradeMs } else c)

/-- An entry into CHECKED: a HELD code is LIVE again (R158). -/
def State.resumeCode (s : State) : State :=
  if s.lineCode.condition = .held then s.setLineCode { s.lineCode with condition := .live, holdTimer := none } else s

/-- The debounce record after a code octet's value (R157). -/
def LineCode.debounced (c : LineCode) (v : Nat) : LineCode :=
  if c.candidate = some v then { c with run := min 3 (c.run + 1) } else { c with candidate := some v, run := 1 }

/-- Whether a debounced candidate is taken as the current code (R157). -/
def LineCode.takes (c : LineCode) : Bool :=
  decide (c.run = 3) && (decide (c.condition ≠ .live) || decide (c.value ≠ c.candidate))

/-- A code octet's value is taken (R157). -/
def State.takeCode (v : Nat) (s : State) : State :=
  let c := s.lineCode.debounced v
  s.setLineCode (if c.takes then { c with value := c.candidate, condition := .live, holdTimer := none } else c)

/-! ## Receive states -/

/-- The receive side with its alignment dropped: HUNT from a bit on, hunt and timers stopped, superframe state cleared
(R148, R159). -/
def RadioRx.hunting (r : RadioRx) (search : Nat) : RadioRx :=
  { r with align := none, search := search, frameNo := none, offTimer := none, fallTimer := none, offHunt := false,
           superCand := none, violated := false, violatedPrev := false, halfWhole := false, judged := 0, failed := 0 }

/-- Alignment is dropped: the discard notice, HUNT, and the line code's hold where CHECKED was left (R148, R154, R158,
R159). -/
def State.toHunt (search : Nat) (s : State) : State :=
  let s1 := (s.discard.withRx (s.rx.hunting search)).setRxState .hunt
  if s.rx.state = .checked then s1.holdCode else s1

/-- Superframe alignment is reached: CHECKED with f = 0 (R149). -/
def State.toChecked (s : State) : State :=
  let r := { s.rx with frameNo := some 0, offTimer := none, fallTimer := none, offHunt := false, superCand := none,
                       violated := false, violatedPrev := false, halfWhole := false, judged := 0, failed := 0 }
  ((s.withRx r).setRxState .checked).resumeCode

/-- The superframe candidate after a header that completes nothing (R149). -/
def candidateAfter (cand : Option Nat) (good marker : Bool) : Option Nat :=
  if !good then none
  else if marker then some 0
  else
    match cand with
    | some n => if n < 7 then some (n + 1) else none
    | none => none

/-- A header in FRAME and UNCHECKED moves the superframe candidate, or completes the acquisition (R149). -/
def State.acquire (header : Octet) (s : State) : State :=
  if goodHeader header ∧ markerOf header ∧ s.rx.superCand = some 7 then s.toChecked
  else s.withRx { s.rx with superCand := candidateAfter s.rx.superCand (goodHeader header) (markerOf header) }

/-- Superframe alignment is lost: FRAME with both timers afresh; the header that caused it moves the candidate (R152). -/
def State.superframeLoss (header : Octet) (s : State) : State :=
  let r := { s.rx with frameNo := none, superCand := none, violated := false, violatedPrev := false, halfWhole := false,
                       judged := 0, failed := 0, offTimer := some offlineTime, fallTimer := some fallbackTime }
  (((s.withRx r).setRxState .frame).holdCode).acquire header

/-- The sync pattern stands at both test positions of a candidate (R147). -/
def confirms (at192 at384 : Octet) : Bool := goodHeader at192 && goodHeader at384

/-- Modem power is switched off: HUNT without a LOSS (R159). -/
def State.powerOff (s : State) : State :=
  if s.mode.modemPower then
    let s1 := s.withMode { s.mode with modemPower := false }
    if s1.rx.state = .hunt then s1 else s1.toHunt 0
  else s

/-- The framer begins its search in HUNT, from the first bit of a watch window: an alignment it holds is dropped as at a
modem power event, without a LOSS (R159, R193; log 14). -/
def State.beginSearch (s : State) : State :=
  if s.rx.state = .hunt then s.withRx { s.rx with search := 0 } else s.toHunt 0

/-! ## PARK -/

/-- PARK (R192): the token becomes NONE and the mode PARKED, with all that follows either; the first window begins with
the framer's search (R193). -/
def ownPark (c : Cab) (s : State) : Reply :=
  if s.token.driving = some c ∧ s.pos.standstill ∧ s.doors.allClosed ∧ s.brk.causes.isEmpty then
    acceptWith (fun t => [oct t.mode.mode.num]) (s.tokenTo Token.nobody .parked).beginSearch
  else refuse .stateFails s

end Sys2Proof.Machine
end

