-- ==== Sys2Proof/Machine/ModeEvents.lean ====
section
/-! DEFINITION. The mode controller's events and the resets: PERIOD_TIMER_EXPIRY and WINDOW_CLOSE (R193),
CHECK_TIMER_EXPIRY (R195), VALVE_READBACK_CHANGE and READBACK_TIMER_EXPIRY (R196), STORE_VERIFICATION (R14),
POWER_ON_RESET and PIN_RESET (R198). -/

namespace Sys2Proof.Machine

/-! ## The parked watch -/

/-- PERIOD_TIMER_EXPIRY: a window opens, and the framer begins its search in HUNT (R193). -/
def execPeriodTimerExpiry (s : State) : Host.Outcome State Fault Refusal :=
  .next (match s.mode.periodTimer with
    | none => s
    | some _ =>
      (s.withMode { s.mode with
        periodTimer := some watchPeriod, window := some { elapsed := 0, closeAt := windowFirst },
        modemPower := true }).beginSearch)

/-- WINDOW_CLOSE: the discard notice, then modem power off (R193). -/
def execWindowClose (s : State) : Host.Outcome State Fault Refusal :=
  .next (match s.mode.window with
    | none => s
    | some _ => ((s.withMode { s.mode with window := none }).discard).powerOff)

/-! ## Waking -/

/-- The brake check: both spring brakes are APPLIED (R195). -/
def State.brakeCheck (s : State) : Bool := decide (s.brk.rack.state = .applied) && decide (s.brk.hold.state = .applied)

/-- The door unit's part of a failed door check: an unlocked leaf goes to FAULT, but from FAULT (R124, R195). -/
def State.faultUnlocked (i : LeafId) (s : State) : State :=
  let l := s.doors.leaf i
  if l.locked = false ∧ l.state ≠ .fault then s.enterLeaf i .fault l.reversals else s

/-- The part of every unlocked leaf. -/
def State.faultAllUnlocked (s : State) : State :=
  (((s.faultUnlocked .a1).faultUnlocked .a2).faultUnlocked .b1).faultUnlocked .b2

/-- The end of waking: both checks on the states held, READY and the key, then what the checks give, and the rack brake
by the cause set (R94, R195; log 19). -/
def State.endWaking (s : State) : State :=
  let brakes := s.brakeCheck
  let doors := s.doors.allClosed
  let s1 := s.enterMode .ready
  let s2 := if brakes ∧ doors then s1.flag .wake else s1
  let s3 := if brakes then s2 else s2.addCause .brakeFeedback
  let s4 := if doors then s3 else s3.faultAllUnlocked
  s4.releaseRack

/-- CHECK_TIMER_EXPIRY (R195). -/
def execCheckTimerExpiry (s : State) : Host.Outcome State Fault Refusal :=
  .next (match s.mode.checkTimer with
    | none => s
    | some _ => s.endWaking)

/-! ## Resets -/

/-- Whether the retained profile passes at a reset: VALID, and its store check computed afresh agrees (R15). -/
def LineStore.passes (l : LineStore) : Bool := decide (l.profile = .valid) && decide (l.freshCheck = l.storeCheck)

/-- The line store after a pin or internal reset whose retained profile passes (R15, R58). -/
def LineStore.retained (l : LineStore) : LineStore :=
  { l with loader := none, authority := none, verifyTimer := some verifyPeriod }

/-- A spring brake at a reset, its feedback as it reads (R107). -/
def SpringBrake.restart (b : SpringBrake) : SpringBrake := SpringBrake.atReset b.feedback

/-- A leaf at a reset, its switches as they read (R126). -/
def Leaf.restart (l : Leaf) : Leaf := Leaf.atReset l.locked l.openEnd l.edge

/-- The doors at a reset (R126). -/
def Doors.restart (d : Doors) : Doors :=
  { sideA := .locked, sideB := .locked, a1 := d.a1.restart, a2 := d.a2.restart, b1 := d.b1.restart, b2 := d.b2.restart }

/-- The position unit at a reset (Table 2-6); the phase is the sensors' reading. -/
def Position.restart (p : Position) (power : Bool) : Position :=
  { count := if power then 0 else p.count, phase := p.phase, dir := none, speed := 0, runStart := none,
    standstill := true, standTimer := none, confidence := if power then .unknown else .declared, correction := 0,
    distance := 0 }

/-- The supervision unit at a reset, its first evaluation made (R81, Table 4-8). -/
def Supervision.restart (warningMargin : Nat) (valid : Bool) : Supervision :=
  { travel := none, permitted := 0, warning := warningMargin, limiting := if valid then .noDirection else .noProfile,
    targets := [], state := .normal, passedMark := false, evalTimer := evaluationPeriod }

/-- The first-cause record of a reset (R107). -/
def FirstCause.restart (count : Nat) (mode : CarMode) : FirstCause :=
  { kind := .restart, count := count, speed := 0, mode := mode }

/-- The brake unit at a reset (Table 5-6). -/
def Brakes.restart (b : Brakes) (count : Nat) (mode : CarMode) : Brakes :=
  { rack := b.rack.restart, hold := b.hold.restart, terms := Terms.atReset, serviceOut := 100, tractionCut := true,
    vigTimer := none, holdTimer := none, long := true, causes := { restart := true },
    first := some (FirstCause.restart count mode),
    rollRunning := decide (mode = .ready) && decide (b.hold.restart.state ≠ .applied), rollCount := 0 }

/-- The reports at a reset: none, before the ALARM for RESTART (R180). -/
def Reports.atReset : Reports := { queue := [], backlog := [], number := 0, timer := none }

/-- The monitor at a reset (Table 9-7). -/
def Monitor.atReset (autoTransfer : Nat) : Monitor :=
  { live := Counters.zero, interval := 0, snapshot := Counters.zero, snapInterval := 0,
    timer := if autoTransfer = 1 then some transferPeriod else none }

/-- Every block at the values of its chapter, the modem powered and not yet keyed (R198). The queue of waiting commands is
the model's own and stays (log 30). -/
def State.blocksAt (k : ResetKind) (s : State) : State :=
  let power := decide (k = .powerOn)
  let pass := !power && s.line.passes
  let mode : CarMode := if pass then .ready else .config
  let params := if power then paramDefaults else s.params
  let pos := s.pos.restart power
  { params := params
    gates := if power then gateDefaults else s.gates
    token := Token.nobody
    refusal := none
    line := if pass then s.line.retained else LineStore.emptied
    pos := pos
    contact := { value := contactMax, state := .void, shadow := false }
    sup := Supervision.restart params.warningMargin pass
    brk := s.brk.restart pos.count mode
    valves := { s.valves with timer := none }
    doors := s.doors.restart
    upper := Port.atReset
    lower := Port.atReset
    flags := CabFlags.atReset
    rx := RadioRx.atReset
    lineCode := LineCode.atReset
    tx := { frameNo := none, half := [], prevCheck := none, alarm := false, lastFrame := [] }
    handler := Handler.atReset
    reports := Reports.atReset
    mon := Monitor.atReset params.autoTransfer
    mode := { mode := mode, periodTimer := none, window := none, checkTimer := none,
              resetCauses := s.mode.resetCauses.after k, modemPower := true, modemKey := false }
    pending := s.pending }

/-- A reset of a kind: the blocks at their values, the ALARM for RESTART, then the keying with its STATUS (R107, R180,
R198). -/
def State.restart (k : ResetKind) (s : State) : State := ((s.blocksAt k).offerAlarm .restart).keyOn

/-- A valve output readback takes a reading. -/
def ValveWatch.put (v : ValveWatch) (b : BrakeId) (energized : Bool) : ValveWatch :=
  match b with
  | .rack => { v with rackReadback := energized }
  | .hold => { v with holdReadback := energized }

/-- VALVE_READBACK_CHANGE: the comparison is made again (R196). -/
def execValveReadbackChange (b : BrakeId) (energized : Bool) (s : State) : Host.Outcome State Fault Refusal :=
  .next ((s.withValves (s.valves.put b energized)).syncReadback)

/-- READBACK_TIMER_EXPIRY: an INTERNAL_OUTPUT reset (R196). -/
def execReadbackTimerExpiry (s : State) : Host.Outcome State Fault Refusal :=
  .next (match s.valves.timer with
    | none => s
    | some _ => s.restart .internalOutput)

/-- STORE_VERIFICATION: the next is timed, or an INTERNAL_STORE reset is made (R14). -/
def execStoreVerification (s : State) : Host.Outcome State Fault Refusal :=
  .next (match s.line.verifyTimer with
    | none => s
    | some _ =>
      if s.line.freshCheck = s.line.storeCheck then s.withLine { s.line with verifyTimer := some verifyPeriod }
      else s.restart .internalStore)

/-- POWER_ON_RESET (R198). -/
def execPowerOnReset (s : State) : Host.Outcome State Fault Refusal := .next (s.restart .powerOn)

/-- PIN_RESET (R198). -/
def execPinReset (s : State) : Host.Outcome State Fault Refusal := .next (s.restart .pin)

end Sys2Proof.Machine
end

