-- ==== Sys2Proof/Machine/Port.lean ====
section
/-! DEFINITION. The cab ports: the receive buffer and the assembler (R181, R182), judging and answering (R183), the link
state (R184); and the port's own events FRAMING_FAULT, BAD_CAB_MESSAGE, ANSWER_SENT, SILENCE_TIMER_EXPIRY. -/

namespace Sys2Proof.Machine

/-- The owner a gate index names among the cab kinds; a kind that the gate stops never reaches it (R131). -/
def cabOwner (kind : Octet) (c : Cab) (payload : List Octet) (s : State) : Reply :=
  match kind.toNat with
  | 0 => ownCabState c payload s
  | 1 => ownReadStatus c s
  | 2 =>
    if payload[1]? = some 0xFF#8 ∧ payload[2]? = some 0xFF#8 then ownReadProfileEntryNext c payload s
    else ownReadProfileEntry c payload s
  | 3 => ownReadCounters s
  | 4 => ownTransferCounters s
  | 5 => ownReadResetCause s
  | 6 => ownOpenCab c s
  | 7 => ownCloseCab c s
  | 8 => ownLendDrive c s
  | 9 => ownReturnDrive c s
  | 10 => ownEmergencyAck s
  | 11 => ownHoldRelease s
  | 12 => ownHoldApply s
  | 13 => ownDoorRelease payload s
  | 14 => ownDoorClose payload s
  | 15 => if payload[1]? = some 0#8 then ownDoorIsolateOff payload s else ownDoorIsolateOn payload s
  | 16 => ownProfileBegin c s
  | 17 => ownProfileSegment c payload s
  | 18 => ownProfileMarker c payload s
  | 19 => ownProfileCommit c payload s
  | 20 => ownSetPosition payload s
  | 21 => ownCabRestrict c payload s
  | 22 => ownCabLift c payload s
  | 23 => ownPark c s
  | 24 => if payload[0]? = some 1#8 then ownSetParameter payload s else ownSetGate payload s
  | _ => refuse .absent s

/-! ## Answers -/

/-- The answer slots with an answer composed: it begins at once where none is being sent, else it waits (R183). -/
def Port.post (p : Port) (a : Answer) : Port :=
  match p.sending with
  | none => { p with sending := some a }
  | some _ => { p with waiting := some a }

/-- A message is judged and answered (R183). -/
def State.serve (kind : Octet) (m : CabMsg) (own : State → Reply) (s : State) : State :=
  let j := s.judge kind (.cab m.cab) own
  j.st.withPort m.cab ((j.st.port m.cab).post { kind := kind, tag := m.tag, code := j.code, payload := j.payload })

/-- A message is found valid: the link is ACTIVE and the silence timer restarts (R183, R184). -/
def State.heard (c : Cab) (s : State) : State :=
  s.withPort c { s.port c with link := .active, silence := some silenceTime }

/-- The error count rises by one, saturating at 255 (R181). -/
def State.errorUp (c : Cab) (s : State) : State :=
  s.withPort c { s.port c with errors := min 255 ((s.port c).errors + 1) }

/-! ## Assembly -/

/-- The receive buffer's size (R181). -/
def receiveMax : Nat := 128

/-- Octets placed at the tail of the receive buffer; each that finds it full counts an error (R181). -/
def State.stash (c : Cab) (l : List Octet) (s : State) : State :=
  l.foldl (fun t o =>
    let p := t.port c
    if p.receive.length < receiveMax then t.withPort c { p with receive := p.receive ++ [o] } else t.errorUp c) s

/-- Judges and answers the message an assembler's octets hold: start, length, kind, tag, payload, CRC (Table 12-2). -/
def State.serveBody (c : Cab) (body : List Octet) (s : State) : State :=
  match body with
  | kind :: tag :: payload => s.serve kind { cab := c, tag := tag, payload := payload } (cabOwner kind c payload)
  | _ => s

/-- Replaces the assembler's state and buffer. -/
def State.setAsm (c : Cab) (a : AsmState) (l : List Octet) (s : State) : State :=
  s.withPort c { s.port c with asm := a, buffer := l }

/-- The assembler over octets, from HUNTING; `n` bounds the octets examined (R182, R183). DESIGN CHOICE (log 39): where a
message found among the octets of a bad one is held in WAITING, the octets after it wait in the receive buffer. -/
def State.scan (c : Cab) : Nat → List Octet → State → State
  | 0, _, s => s
  | _ + 1, [], s => s
  | n + 1, o :: rest, s =>
    if o ≠ 0xA5#8 then State.scan c n rest s
    else
      match frameOf 60 0 (o :: rest) with
      | .partialMessage => s.setAsm c .assembling (o :: rest)
      | .bad => State.scan c n rest (s.errorUp c)
      | .valid body size =>
        let s1 := s.heard c
        let later := (o :: rest).drop size
        match (s1.port c).waiting with
        | none => State.scan c n later (s1.serveBody c body)
        | some _ => (s1.setAsm c .waiting ((o :: rest).take size)).stash c later

/-- Octets received at a port: in WAITING they go to the receive buffer, else the assembler takes them (R181, R182). -/
def State.feed (c : Cab) (l : List Octet) (s : State) : State :=
  match (s.port c).asm with
  | .waiting => s.stash c l
  | .hunting | .assembling =>
    let all := (s.port c).buffer ++ l
    (s.setAsm c .hunting []).scan c (all.length + 1) all

/-- A cab message as a command: with the assembler in HUNTING it is valid as it stands, judged at once where the waiting
slot is free and else held; otherwise its octets are received one by one (R183; log 1). -/
def State.cabCommand (m : CabMsg) (kind : Octet) (own : State → Reply) (s : State) : State :=
  let p := s.port m.cab
  if p.asm = .hunting ∧ m.payload.length ≤ 58 then
    match p.waiting with
    | none => (s.heard m.cab).serve kind m own
    | some _ => (s.heard m.cab).setAsm m.cab .waiting (cabOctets kind m)
  else s.feed m.cab (cabOctets kind m)

/-! ## The port's events -/

/-- BAD_CAB_MESSAGE: its octets are received (R182). -/
def execBadCabMessage (c : Cab) (octets : List Octet) (s : State) : Host.Outcome State Fault Refusal :=
  .next (s.feed c octets)

/-- FRAMING_FAULT: a lost character counts; one that passes is received (R181). -/
def execFramingFault (c : Cab) (ch : Option Octet) (s : State) : Host.Outcome State Fault Refusal :=
  .next (match ch with
    | none => s.errorUp c
    | some o => s.feed c [o])

/-- The message an assembler in WAITING holds. -/
def heldBody (buffer : List Octet) : List Octet := (buffer.drop 2).take (buffer.length - 4)

/-- The held message of an assembler in WAITING is judged now that the waiting slot is free, and the assembler goes on
with the receive buffer (R182, R183). -/
def State.takeHeld (c : Cab) (s : State) : State :=
  let p := s.port c
  match p.asm with
  | .waiting =>
    let s1 := (s.setAsm c .hunting []).serveBody c (heldBody p.buffer)
    let s2 := s1.withPort c { s1.port c with receive := [] }
    s2.feed c p.receive
  | .hunting | .assembling => s

/-- ANSWER_SENT: the answer sent has left in the octets of R200 (log 40), and the waiting answer begins at once (R183);
without an answer being sent nothing ends (log 29). -/
def execAnswerSent (c : Cab) (s : State) : Host.Outcome State Fault Refusal :=
  .next (match (s.port c).sending with
    | none => s
    | some a =>
      (s.withPort c { s.port c with sending := (s.port c).waiting, waiting := none, lastSent := a.octets }).takeHeld c)

/-- SILENCE_TIMER_EXPIRY: the link is LOST, the token and a load by this cab follow (R184). -/
def execSilenceTimerExpiry (c : Cab) (s : State) : Host.Outcome State Fault Refusal :=
  .next (match (s.port c).silence with
    | none => s
    | some _ => (s.withPort c { s.port c with link := .lost, silence := none }).cabLost c)

end Sys2Proof.Machine
end

