-- ==== Sys2Proof/Machine/Position.lean ====
section
/-! DEFINITION. The position unit's events and the thresholds of the contact timer: SENSOR_TRANSITION, MARKER_PULSE,
STANDSTILL_DECLARATION, EVALUATION_TIMER_EXPIRY, DEGRADE_THRESHOLD_REACHED, VOID_THRESHOLD_REACHED (Chapter 2, 3.6,
R60). -/

namespace Sys2Proof.Machine

/-! ## Tooth decoding (2.2) -/

/-- The phase two sensor readings give (Figure 2-1). -/
def phaseOf : Level → Level → Phase
  | .low, .low => .q0
  | .high, .low => .q1
  | .high, .high => .q2
  | .low, .high => .q3

/-- The class of a sensor transition (Table 2-3). -/
inductive Transition where
  | same
  | tooth (d : Dir)
  | step
  | fault
  deriving DecidableEq, Repr

/-- Classifies a transition by the phase before and the phase after (R19). -/
def transitionOf : Phase → Phase → Transition
  | .q0, .q0 => .same
  | .q1, .q1 => .same
  | .q2, .q2 => .same
  | .q3, .q3 => .same
  | .q3, .q0 => .tooth .up
  | .q0, .q3 => .tooth .down
  | .q0, .q2 => .fault
  | .q2, .q0 => .fault
  | .q1, .q3 => .fault
  | .q3, .q1 => .fault
  | .q0, .q1 => .step
  | .q1, .q0 => .step
  | .q1, .q2 => .step
  | .q2, .q1 => .step
  | .q2, .q3 => .step
  | .q3, .q2 => .step

/-- The tooth count after a tooth, within its clamp (R20, R22). -/
def countAfter (count : Nat) : Dir → Nat
  | .up => min positionMax (count + 1)
  | .down => count - 1

/-- The speed of an interval in microseconds (R25). -/
def speedOf (interval : Nat) : Nat := if interval = 0 then 2000 else min 2000 (10000000 / interval)

/-- The position unit takes a tooth at a time in microseconds (R20, R25, R26, R27, R31). -/
def Position.tooth (p : Position) (maxUnconfirmed : Nat) (d : Dir) (micros : Nat) : Position :=
  let held := if p.dir = some d then p.runStart else none
  let dist := min positionMax (p.distance + 1)
  { p with
    count := countAfter p.count d
    dir := some d
    speed := match held with
      | some t => speedOf (micros - t)
      | none => p.speed
    runStart := some micros
    standstill := false
    standTimer := some standstillTime
    distance := dist
    confidence := if p.confidence = .confirmed ∧ maxUnconfirmed < dist then .drifting else p.confidence }

/-- The LINE_END test of a tooth (R23). -/
def State.lineEndTest (d : Dir) (s : State) : State :=
  if s.line.profile = .valid ∧ s.pos.confidence ≠ .unknown then
    match d with
    | .up => if (s.line.lineEnd : Int) < s.upperEnd then s.addCause .lineEnd else s
    | .down => if s.lowerEnd < 0 then s.addCause .lineEnd else s
  else s

/-- Both sides are withdrawn where the standstill flag was set or confidence has left CONFIRMED (R114). -/
def State.toothDoors (before : Position) (s : State) : State :=
  if before.standstill ∨ (before.confidence = .confirmed ∧ s.pos.confidence ≠ .confirmed) then s.withdrawAll else s

/-- A tooth arrival, published in the order R24 names the blocks (log 6): the LINE_END test, supervision, the rollaway
and vigilance watches, the doors, the shadow test. -/
def State.toothArrival (d : Dir) (micros : Nat) (s : State) : State :=
  let s1 := (s.withPos (s.pos.tooth s.params.maxUnconfirmed d micros)).endLong
  ((((((s1.lineEndTest d).evaluate).rollTooth d).judgeVigilance).toothDoors s.pos).shadowTest)

/-- Confidence after a sensor fault or a marker mismatch (R21, R30). -/
def Confidence.doubted : Confidence → Confidence
  | .declared => .lost
  | .confirmed => .lost
  | .drifting => .lost
  | .lost => .lost
  | .unknown => .unknown

/-- A sensor fault (R21): the cause joins before supervision evaluates (log 8). -/
def State.sensorFault (s : State) : State :=
  let s1 := s.withPos { s.pos with runStart := none }
  let s2 := if s1.pos.standstill then s1 else s1.addCause .sensor
  s2.setConfidence s2.pos.confidence.doubted

/-- SENSOR_TRANSITION (R19 to R26). -/
def execSensorTransition (s1 s2 : Level) (micros : Nat) (s : State) : Host.Outcome State Fault Refusal :=
  let q := phaseOf s1 s2
  let t := s.withPos { s.pos with phase := q }
  .next (match transitionOf s.pos.phase q with
    | .same => s
    | .step => t
    | .tooth d => t.toothArrival d micros
    | .fault => t.sensorFault)

/-! ## Datum markers (2.4) -/

/-- The distance between a count and a marker, in teeth. -/
def markerGap (count m : Nat) : Nat := ((count : Int) - m).natAbs

/-- The nearest marker, the lower of two equally near (R28). -/
def nearestMarker (count : Nat) : List Nat → Option Nat
  | [] => none
  | m :: rest => some (rest.foldl (fun b x => if markerGap count x < markerGap count b then x else b) m)

/-- The match window of a confidence state; none in UNKNOWN (R28). -/
def Confidence.window (w : Nat) : Confidence → Option Nat
  | .confirmed => some w
  | .drifting => some w
  | .declared => some (4 * w)
  | .lost => some (4 * w)
  | .unknown => none

/-- A match (R29). A match at standstill that puts a steep segment under the car withdraws no side (DESIGN CHOICE,
log 37). Supervision evaluates first, and the shadow test is made after it (R54; DESIGN CHOICE, log 42). -/
def State.markerMatch (m : Nat) (s : State) : State :=
  let s1 := s.withPos { s.pos with
    correction := (m : Int) - s.pos.count, count := m, distance := 0, confidence := .confirmed }
  s1.evaluate.shadowTest

/-- A mismatch (R30); supervision evaluates though confidence was LOST already (R60). -/
def State.markerMismatch (s : State) : State :=
  if s.pos.confidence = .lost then s.evaluate else s.setConfidence .lost

/-- MARKER_PULSE (R28, R29, R30). -/
def execMarkerPulse (s : State) : Host.Outcome State Fault Refusal :=
  .next (match s.pos.confidence.window s.params.markerWindow with
    | none => s
    | some w =>
      if s.line.profile = .valid then
        match nearestMarker s.pos.count s.line.markerList with
        | some m => if markerGap s.pos.count m ≤ w then s.markerMatch m else s.markerMismatch
        | none => s.markerMismatch
      else s)

/-! ## Time -/

/-- STANDSTILL_DECLARATION: the standstill time expires with no tooth (R27). -/
def execStandstillDeclaration (s : State) : Host.Outcome State Fault Refusal :=
  .next (match s.pos.standTimer with
    | none => s
    | some _ =>
      let s1 := s.withPos { s.pos with standstill := true, standTimer := none, speed := 0, runStart := none }
      s1.evaluate.standstillBrakes)

/-- EVALUATION_TIMER_EXPIRY: an evaluation, and the timer starts again (R60). -/
def execEvaluationTimerExpiry (s : State) : Host.Outcome State Fault Refusal :=
  .next ((s.withSup { s.sup with evalTimer := evaluationPeriod }).evaluate)

/-- DEGRADE_THRESHOLD_REACHED: with the shadow test clear, LIVE ends (R55). -/
def execDegradeThresholdReached (s : State) : Host.Outcome State Fault Refusal :=
  .next (if s.contact.shadow = false ∧ s.contact.state = .live then
    (s.withContact { s.contact with value := max s.contact.value s.params.degradeMs }).judgeContact
  else s)

/-- VOID_THRESHOLD_REACHED: the void threshold that the shadow test gives is reached (R55, R57). -/
def execVoidThresholdReached (s : State) : Host.Outcome State Fault Refusal :=
  .next (if s.contact.state = .void then s
  else
    (s.withContact { s.contact with value := max s.contact.value (s.params.voidMs s.contact.shadow) }).judgeContact)

end Sys2Proof.Machine
end

