-- ==== Sys2Proof/Machine/RadioEvents.lean ====
section
/-! DEFINITION. The radio framer's receive events: CANDIDATE_TEST (R147), HEADER_RECEIVED (R146, R148, R149, R152),
OFFLINE_TIMER_EXPIRY and FALLBACK_TIMER_EXPIRY (R150), OFFLINE_CANDIDATE_TEST (R151), CHECK_OCTET_RECEIVED (R153, R154),
FAR_END_REPORT (R155), CODE_OCTET (R157), LINE_CODE_HOLD_EXPIRY (R158). An event out of its place changes nothing
(log 29). -/

namespace Sys2Proof.Machine

/-! ## Hunt -/

/-- A candidate is confirmed: FRAME at the header 384 bits on, which is read for acquisition (R147). -/
def State.confirm (pos : Nat) (header : Octet) (s : State) : State :=
  let r := { s.rx with align := some (pos + 384), badHeaders := 0, superCand := none, offTimer := some offlineTime,
                       fallTimer := some fallbackTime }
  (((s.withRx r).setRxState .frame).windowMoves).acquire header

/-- CANDIDATE_TEST (R147); positions already searched are not tested again (log 12). -/
def execCandidateTest (pos : Nat) (at192 at384 : Octet) (s : State) : Host.Outcome State Fault Refusal :=
  .next (if s.rx.state = .hunt ∧ s.mode.modemPower ∧ s.rx.search ≤ pos then
    if confirms at192 at384 then s.confirm pos at384 else s.withRx { s.rx with search := pos + 1 }
  else s)

/-- A slip to a confirmed offline candidate (R151). -/
def State.slip (pos : Nat) (header : Octet) (s : State) : State :=
  let s1 := (s.countEvent .slip).discard
  let r := { s1.rx with align := some (pos + 384), badHeaders := 0, superCand := none, offTimer := some offlineTime,
                        offHunt := false }
  ((s1.withRx r).windowMoves).acquire header

/-- Whether a bit position may be an offline candidate: the hunt runs, it has not been searched, and it is not the current
alignment (R144, R151). -/
def RadioRx.offline (r : RadioRx) (pos : Nat) : Bool :=
  r.offHunt && decide (r.offSearch ≤ pos) && (match r.align with
    | some a => decide (pos % 192 ≠ a % 192)
    | none => false)

/-- OFFLINE_CANDIDATE_TEST (R151). -/
def execOfflineCandidateTest (pos : Nat) (at192 at384 : Octet) (s : State) : Host.Outcome State Fault Refusal :=
  .next (if s.rx.offline pos then
    if confirms at192 at384 then s.slip pos at384 else s.withRx { s.rx with offSearch := pos + 1 }
  else s)

/-! ## Headers -/

/-- A bad header at bit `pos`: SYNC_ERR, the consecutive count, and at the third a frame loss (R146, R148). -/
def State.badHeader (pos : Nat) (s : State) : State :=
  let s1 := s.countEvent .syncErr
  let s2 := s1.withRx { s1.rx with badHeaders := s1.rx.badHeaders + 1 }
  if 3 ≤ s2.rx.badHeaders then (s2.countEvent .loss).toHunt (pos + 8)
  else s2

/-- The frame number and superframe state move to the next frame: the half before is whole at f = 4 and f = 0, and a
superframe begins at f = 0 (R145, R149, R152, R153). -/
def RadioRx.nextFrame (r : RadioRx) : RadioRx :=
  match r.frameNo with
  | none => r
  | some f =>
    let g := (f + 1) % 8
    let r1 := { r with frameNo := some g, halfWhole := r.halfWhole || decide (g = 0) || decide (g = 4) }
    if g = 0 then { r1 with violatedPrev := r.violated, violated := false } else r1

/-- A good header's marker is judged in CHECKED (R152). -/
def State.judgeMarker (header : Octet) (s : State) : State :=
  if markerOf header = decide (s.rx.frameNo = some 0) then s
  else if s.rx.violatedPrev then s.superframeLoss header
  else s.withRx { s.rx with violated := true }

/-- What a header does to the superframe: acquisition in FRAME and UNCHECKED, the frame number and the marker in CHECKED
(R149, R152). -/
def State.superframe (header : Octet) (s : State) : State :=
  match s.rx.state with
  | .hunt => s
  | .frame | .unchecked => s.acquire header
  | .checked =>
    let s1 := s.withRx s.rx.nextFrame
    if goodHeader header then s1.judgeMarker header else s1

/-- HEADER_RECEIVED: the next header at the current alignment (R146, R148, R149, R152); a good one moves the end of a
parked window (R193). -/
def execHeaderReceived (header : Octet) (s : State) : Host.Outcome State Fault Refusal :=
  .next (match s.rx.align with
    | none => s
    | some a =>
      let s1 := s.withRx { s.rx with align := some (a + 192) }
      if goodHeader header then
        ((s1.withRx { s1.rx with badHeaders := 0 }).windowMoves).superframe header
      else (s1.badHeader (a + 192)).superframe header)

/-! ## Acquisition timers -/

/-- OFFLINE_TIMER_EXPIRY: the offline hunt begins (R150). -/
def execOfflineTimerExpiry (s : State) : Host.Outcome State Fault Refusal :=
  .next (match s.rx.offTimer with
    | none => s
    | some _ => s.withRx { s.rx with offTimer := none, offHunt := true, offSearch := s.rx.align.getD 0 })

/-- FALLBACK_TIMER_EXPIRY: FRAME becomes UNCHECKED (R150). -/
def execFallbackTimerExpiry (s : State) : Host.Outcome State Fault Refusal :=
  .next (match s.rx.fallTimer with
    | none => s
    | some _ =>
      let s1 := s.withRx { s.rx with fallTimer := none }
      if s1.rx.state = .frame then s1.setRxState .unchecked else s1)

/-! ## The overhead octet -/

/-- Whether the frame number is `a` or `b` (Table 8-1). -/
def RadioRx.inFrame (r : RadioRx) (a b : Nat) : Bool := decide (r.frameNo = some a) || decide (r.frameNo = some b)

/-- A failed judgement: CHECK_FAIL and the far-end pending mark (R153, R155). -/
def State.halfFailed (s : State) : State :=
  let s1 := s.countEvent .checkFail
  s1.withRx { s1.rx with farPending := true }

/-- The window of judgements takes one; the eighth failure is an excessive check, the sixteenth judgement closes the
window (R154). -/
def State.judgeWindow (failed : Bool) (pos : Nat) (s : State) : State :=
  let j := s.rx.judged + 1
  let f := s.rx.failed + (if failed then 1 else 0)
  if 8 ≤ f then (s.countEvent .loss).toHunt (pos + 192)
  else if 16 ≤ j then s.withRx { s.rx with judged := 0, failed := 0 }
  else s.withRx { s.rx with judged := j, failed := f }

/-- CHECK_OCTET_RECEIVED: a whole half is judged at the check octet of the next frame 0 or 4 (R153, R154). -/
def execCheckOctetReceived (half : List Octet) (check : Octet) (s : State) : Host.Outcome State Fault Refusal :=
  .next (if s.rx.state = .checked ∧ s.rx.inFrame 0 4 ∧ s.rx.halfWhole then
    let s1 := s.withRx { s.rx with halfWhole := false }
    let pos := s.rx.align.getD 0
    if crc8 (halfForCheck half) = check then s1.judgeWindow false pos else s1.halfFailed.judgeWindow true pos
  else s)

/-- FAR_END_REPORT: FAR_FAIL where the most significant bit is 1 (R155). -/
def execFarEndReport (o : Octet) (s : State) : Host.Outcome State Fault Refusal :=
  .next (if s.rx.state = .checked ∧ s.rx.inFrame 1 5 ∧ o.getLsbD 7 then s.countEvent .farFail else s)

/-- CODE_OCTET: the four least significant bits go to the debounce (R157). -/
def execCodeOctet (o : Octet) (s : State) : Host.Outcome State Fault Refusal :=
  .next (if s.rx.state = .checked ∧ s.rx.inFrame 2 6 then s.takeCode (o.toNat % 16) else s)

/-- LINE_CODE_HOLD_EXPIRY: a HELD code is EXPIRED (R158). -/
def execLineCodeHoldExpiry (s : State) : Host.Outcome State Fault Refusal :=
  .next (match s.lineCode.holdTimer with
    | none => s
    | some _ => s.setLineCode { s.lineCode with condition := .expired, holdTimer := none })

end Sys2Proof.Machine
end

