-- ==== Sys2Proof/Machine/Transmit.lean ====
section
/-! DEFINITION. The transmit side and the report and transfer timers: TRANSMIT_FRAME (R160, R161), REPORT_SENT (R176),
REPORT_TIMER_EXPIRY (R172), TRANSFER_TIMER_EXPIRY (R178). -/

namespace Sys2Proof.Machine

/-- A transmitted header: the sync pattern, the marker at f = 0, the remote alarm in HUNT (R160). -/
def State.headerSent (s : State) (f : Nat) : Octet :=
  oct (104 + (if f = 0 then 2 else 0) + (if s.rx.state = .hunt then 1 else 0))

/-- A transmitted overhead octet (R161). -/
def State.overheadSent (s : State) (f : Nat) : Octet :=
  if f = 0 ∨ f = 4 then s.tx.prevCheck.getD 0#8
  else if (f = 1 ∨ f = 5) ∧ s.rx.farPending then 0x80#8
  else 0#8

/-- The octets of the half under way with a frame added, the half's own check octet counted as 00h (R153, R161). -/
def halfWith (half : List Octet) (f : Nat) (header : Octet) (channel : List Octet) (ovh : Octet) : List Octet :=
  (if f = 0 ∨ f = 4 then [] else half) ++ header :: channel ++ [if f = 0 ∨ f = 4 then 0#8 else ovh]

/-- The transmit side after a frame. -/
def RadioTx.after (t : RadioTx) (f : Nat) (alarm : Bool) (header : Octet) (channel : List Octet) (ovh : Octet) :
    RadioTx :=
  let half := halfWith t.half f header channel ovh
  { frameNo := some ((f + 1) % 8), half := half,
    prevCheck := if f = 3 ∨ f = 7 then some (crc8 half) else t.prevCheck,
    alarm := alarm, lastFrame := header :: channel ++ [ovh] }

/-- One frame is sent: the header, 22 channel octets from the handler, the overhead octet; a far-end 1 clears the mark
(R160, R161, R176). -/
def State.sendFrame (f : Nat) (s : State) : State :=
  let p := Reports.nextOctets s.carIdOctet 22 s.reports
  let h := s.headerSent f
  let o := s.overheadSent f
  let s1 := (s.withReports p.2).withTx (s.tx.after f (decide (s.rx.state = .hunt)) h p.1 o)
  if f = 1 ∨ f = 5 then s1.withRx { s1.rx with farPending := false } else s1

/-- TRANSMIT_FRAME; while the key is released the transmit side is silent (R160). -/
def execTransmitFrame (s : State) : Host.Outcome State Fault Refusal :=
  .next (match s.tx.frameNo with
    | none => s
    | some f => s.sendFrame f)

/-- REPORT_SENT: the report being sent leaves the queue (R176; log 22). -/
def execReportSent (s : State) : Host.Outcome State Fault Refusal :=
  .next (match s.reports.queue with
    | [] => s
    | x :: _ => if x.sending then s.withReports (s.reports.headLeaves s.carIdOctet) else s)

/-- REPORT_TIMER_EXPIRY: a STATUS is offered and the timer restarts (R172). -/
def execReportTimerExpiry (s : State) : Host.Outcome State Fault Refusal :=
  .next (match s.reports.timer with
    | none => s
    | some _ =>
      let s1 := s.offerStatus
      s1.withReports { s1.reports with timer := some reportPeriod })

/-- TRANSFER_TIMER_EXPIRY: a transfer while AUTO_TRANSFER is 1; while it is 0 the timer ends without one (R178;
log 15). -/
def execTransferTimerExpiry (s : State) : Host.Outcome State Fault Refusal :=
  .next (match s.mon.timer with
    | none => s
    | some _ => if s.params.autoTransfer = 1 then s.transfer else s.withMon { s.mon with timer := none })

end Sys2Proof.Machine
end

