-- ==== Sys2Proof/Machine/Clock.lean ====
section
/-! DEFINITION. Time: one millisecond passes when no command waits, and what falls due happens (0.6; DESIGN CHOICE, logs 2
and 25). -/

namespace Sys2Proof.Machine

/-- A running timer loses a millisecond. -/
def countDown (t : Option Nat) : Option Nat := t.map (· - 1)

/-- A spring brake's timer loses a millisecond. -/
def SpringBrake.pass (b : SpringBrake) : SpringBrake := { b with timer := countDown b.timer }

/-- A leaf's timer loses a millisecond. -/
def Leaf.pass (l : Leaf) : Leaf := { l with timer := countDown l.timer }

/-- A port's silence timer loses a millisecond. -/
def Port.pass (p : Port) : Port := { p with silence := countDown p.silence }

/-- The brake unit's timers lose a millisecond. -/
def Brakes.pass (b : Brakes) : Brakes :=
  { b with rack := b.rack.pass, hold := b.hold.pass, vigTimer := countDown b.vigTimer, holdTimer := countDown b.holdTimer }

/-- The door unit's timers lose a millisecond. -/
def Doors.pass (d : Doors) : Doors := { d with a1 := d.a1.pass, a2 := d.a2.pass, b1 := d.b1.pass, b2 := d.b2.pass }

/-- The framer's timers lose a millisecond. -/
def RadioRx.pass (r : RadioRx) : RadioRx := { r with offTimer := countDown r.offTimer, fallTimer := countDown r.fallTimer }

/-- The monitor's interval grows to at most 65,535 ms, its timer loses a millisecond (R177, R178). -/
def Monitor.pass (m : Monitor) : Monitor :=
  { m with interval := min 65535 (m.interval + 1), timer := countDown m.timer }

/-- The mode controller's timers lose a millisecond and an open window grows older (R193). -/
def ModeCtl.pass (m : ModeCtl) : ModeCtl :=
  { m with periodTimer := countDown m.periodTimer, checkTimer := countDown m.checkTimer,
           window := m.window.map fun w => { w with elapsed := w.elapsed + 1 } }

/-- Every timer of the part moves by one millisecond; the contact timer rises to at most 600,000 (R53). -/
def State.pass (s : State) : State :=
  { s with
    line := { s.line with verifyTimer := countDown s.line.verifyTimer }
    pos := { s.pos with standTimer := countDown s.pos.standTimer }
    contact := { s.contact with value := min contactMax (s.contact.value + 1) }
    sup := { s.sup with evalTimer := s.sup.evalTimer - 1 }
    brk := s.brk.pass
    valves := { s.valves with timer := countDown s.valves.timer }
    doors := s.doors.pass
    upper := s.upper.pass
    lower := s.lower.pass
    rx := s.rx.pass
    lineCode := { s.lineCode with holdTimer := countDown s.lineCode.holdTimer }
    reports := { s.reports with timer := countDown s.reports.timer }
    mon := s.mon.pass
    mode := s.mode.pass }

/-- An expiry with the test that says whether it is due. -/
structure Expiry where
  isDue : State → Bool
  act : State → Host.Outcome State Fault Refusal

/-- Whether a timer has run out. -/
def ranOut (t : Option Nat) : Bool := decide (t = some 0)

/-- Whether a leaf's timer has run out in the state it runs in. -/
def State.leafDue (s : State) (i : LeafId) (st : LeafState) : Bool :=
  decide ((s.doors.leaf i).state = st) && ranOut (s.doors.leaf i).timer

/-- The expiries of one leaf. -/
def leafExpiries (i : LeafId) : List Expiry :=
  [ { isDue := fun s => s.leafDue i .opening, act := execOpenLimitExpiry i },
    { isDue := fun s => s.leafDue i .closing, act := execCloseLimitExpiry i },
    { isDue := fun s => s.leafDue i .reversing, act := execReversalTimerExpiry i } ]

/-- The expiries of one spring brake. -/
def brakeExpiries (b : BrakeId) : List Expiry :=
  [ { isDue := fun s => decide ((s.brk.get b).state = .releasing) && ranOut (s.brk.get b).timer,
      act := execReleaseTimerExpiry b },
    { isDue := fun s => decide ((s.brk.get b).state = .applying) && ranOut (s.brk.get b).timer,
      act := execApplyTimerExpiry b } ]

/-- Whether the degrade threshold is reached with the shadow test clear (R55). -/
def State.degradeDue (s : State) : Bool :=
  decide (s.contact.state = .live) && !s.contact.shadow && decide (s.params.degradeMs ≤ s.contact.value)

/-- Whether the void threshold in force is reached (R55). -/
def State.voidDue (s : State) : Bool :=
  decide (s.contact.state ≠ .void) && decide (s.params.voidMs s.contact.shadow ≤ s.contact.value)

/-- Whether the window end is reached (R193). -/
def State.windowDue (s : State) : Bool :=
  match s.mode.window with
  | some w => decide (w.closeAt ≤ w.elapsed)
  | none => false

/-- Every expiry, in the order those due in one millisecond are taken (log 25). -/
def expiries : List Expiry :=
  [ { isDue := fun s => ranOut s.pos.standTimer, act := execStandstillDeclaration },
    { isDue := fun s => decide (s.sup.evalTimer = 0), act := execEvaluationTimerExpiry },
    { isDue := State.degradeDue, act := execDegradeThresholdReached },
    { isDue := State.voidDue, act := execVoidThresholdReached } ]
  ++ brakeExpiries .rack ++ brakeExpiries .hold
  ++ [ { isDue := fun s => ranOut s.brk.vigTimer, act := execVigilanceTimerExpiry },
       { isDue := fun s => ranOut s.brk.holdTimer, act := execHoldTimerExpiry } ]
  ++ leafExpiries .a1 ++ leafExpiries .a2 ++ leafExpiries .b1 ++ leafExpiries .b2
  ++ [ { isDue := fun s => ranOut s.upper.silence, act := execSilenceTimerExpiry .upper },
       { isDue := fun s => ranOut s.lower.silence, act := execSilenceTimerExpiry .lower },
       { isDue := fun s => ranOut s.rx.offTimer, act := execOfflineTimerExpiry },
       { isDue := fun s => ranOut s.rx.fallTimer, act := execFallbackTimerExpiry },
       { isDue := fun s => ranOut s.lineCode.holdTimer, act := execLineCodeHoldExpiry },
       { isDue := fun s => ranOut s.reports.timer, act := execReportTimerExpiry },
       { isDue := fun s => ranOut s.mon.timer, act := execTransferTimerExpiry },
       { isDue := fun s => ranOut s.mode.periodTimer, act := execPeriodTimerExpiry },
       { isDue := State.windowDue, act := execWindowClose },
       { isDue := fun s => ranOut s.mode.checkTimer, act := execCheckTimerExpiry },
       { isDue := fun s => ranOut s.valves.timer, act := execReadbackTimerExpiry },
       { isDue := fun s => ranOut s.line.verifyTimer, act := execStoreVerification } ]

/-- Takes each expiry of a list that is due when its turn comes. -/
def runExpiries : List Expiry → State → Host.Outcome State Fault Refusal
  | [], s => .next s
  | e :: rest, s =>
    if e.isDue s then
      match e.act s with
      | .next t => runExpiries rest t
      | .fault f => .fault f
      | .refused r => .refused r
    else runExpiries rest s

/-- One millisecond passes. -/
def tick (s : State) : Host.Outcome State Fault Refusal := runExpiries expiries s.pass

end Sys2Proof.Machine
end

