-- ==== Sys2Proof/Machine/CabRequests.lean ====
section
/-! DEFINITION. The meanings of the cab requests: a message of a kind reaches its port, its gate and its owner (R131,
R132, R183). -/

namespace Sys2Proof.Machine

/-- CAB_STATE, kind 0 (R185). -/
def execCabState (m : CabMsg) (s : State) : Host.Outcome State Fault Refusal :=
  .next (s.cabCommand m 0#8 (ownCabState m.cab m.payload))

/-- READ_STATUS, kind 1 (R189). -/
def execReadStatus (m : CabMsg) (s : State) : Host.Outcome State Fault Refusal :=
  .next (s.cabCommand m 1#8 (ownReadStatus m.cab))

/-- READ_PROFILE_ENTRY naming an index, kind 2 (R17). -/
def execReadProfileEntry (m : CabMsg) (s : State) : Host.Outcome State Fault Refusal :=
  .next (s.cabCommand m 2#8 (ownReadProfileEntry m.cab m.payload))

/-- READ_PROFILE_ENTRY asking for "next", kind 2 (R18). -/
def execReadProfileEntryNext (m : CabMsg) (s : State) : Host.Outcome State Fault Refusal :=
  .next (s.cabCommand m 2#8 (ownReadProfileEntryNext m.cab m.payload))

/-- READ_COUNTERS, kind 3 (R179). -/
def execReadCounters (m : CabMsg) (s : State) : Host.Outcome State Fault Refusal :=
  .next (s.cabCommand m 3#8 ownReadCounters)

/-- TRANSFER_COUNTERS, kind 4 (R179). -/
def execTransferCounters (m : CabMsg) (s : State) : Host.Outcome State Fault Refusal :=
  .next (s.cabCommand m 4#8 ownTransferCounters)

/-- READ_RESET_CAUSE, kind 5 (R197). -/
def execReadResetCause (m : CabMsg) (s : State) : Host.Outcome State Fault Refusal :=
  .next (s.cabCommand m 5#8 ownReadResetCause)

/-- OPEN_CAB, kind 6 (R137). -/
def execOpenCab (m : CabMsg) (s : State) : Host.Outcome State Fault Refusal :=
  .next (s.cabCommand m 6#8 (ownOpenCab m.cab))

/-- CLOSE_CAB, kind 7 (R138). -/
def execCloseCab (m : CabMsg) (s : State) : Host.Outcome State Fault Refusal :=
  .next (s.cabCommand m 7#8 (ownCloseCab m.cab))

/-- LEND_DRIVE, kind 8 (R139). -/
def execLendDrive (m : CabMsg) (s : State) : Host.Outcome State Fault Refusal :=
  .next (s.cabCommand m 8#8 (ownLendDrive m.cab))

/-- RETURN_DRIVE, kind 9 (R140). -/
def execReturnDrive (m : CabMsg) (s : State) : Host.Outcome State Fault Refusal :=
  .next (s.cabCommand m 9#8 (ownReturnDrive m.cab))

/-- EMERGENCY_ACK, kind 10 (R102). -/
def execEmergencyAck (m : CabMsg) (s : State) : Host.Outcome State Fault Refusal :=
  .next (s.cabCommand m 10#8 ownEmergencyAck)

/-- HOLD_RELEASE, kind 11 (R98). -/
def execHoldRelease (m : CabMsg) (s : State) : Host.Outcome State Fault Refusal :=
  .next (s.cabCommand m 11#8 ownHoldRelease)

/-- HOLD_APPLY, kind 12 (R97). -/
def execHoldApply (m : CabMsg) (s : State) : Host.Outcome State Fault Refusal :=
  .next (s.cabCommand m 12#8 ownHoldApply)

/-- DOOR_RELEASE, kind 13 (R111). -/
def execDoorRelease (m : CabMsg) (s : State) : Host.Outcome State Fault Refusal :=
  .next (s.cabCommand m 13#8 (ownDoorRelease m.payload))

/-- DOOR_CLOSE, kind 14 (R113). -/
def execDoorClose (m : CabMsg) (s : State) : Host.Outcome State Fault Refusal :=
  .next (s.cabCommand m 14#8 (ownDoorClose m.payload))

/-- DOOR_ISOLATE on, kind 15 (R123). -/
def execDoorIsolateOn (m : CabMsg) (s : State) : Host.Outcome State Fault Refusal :=
  .next (s.cabCommand m 15#8 (ownDoorIsolateOn m.payload))

/-- DOOR_ISOLATE off, kind 15 (R123). -/
def execDoorIsolateOff (m : CabMsg) (s : State) : Host.Outcome State Fault Refusal :=
  .next (s.cabCommand m 15#8 (ownDoorIsolateOff m.payload))

/-- PROFILE_BEGIN, kind 16 (R6). -/
def execProfileBegin (m : CabMsg) (s : State) : Host.Outcome State Fault Refusal :=
  .next (s.cabCommand m 16#8 (ownProfileBegin m.cab))

/-- PROFILE_SEGMENT, kind 17 (R7). -/
def execProfileSegment (m : CabMsg) (s : State) : Host.Outcome State Fault Refusal :=
  .next (s.cabCommand m 17#8 (ownProfileSegment m.cab m.payload))

/-- PROFILE_MARKER, kind 18 (R8). -/
def execProfileMarker (m : CabMsg) (s : State) : Host.Outcome State Fault Refusal :=
  .next (s.cabCommand m 18#8 (ownProfileMarker m.cab m.payload))

/-- PROFILE_COMMIT, kind 19 (R9). -/
def execProfileCommit (m : CabMsg) (s : State) : Host.Outcome State Fault Refusal :=
  .next (s.cabCommand m 19#8 (ownProfileCommit m.cab m.payload))

/-- SET_POSITION, kind 20 (R32). -/
def execSetPosition (m : CabMsg) (s : State) : Host.Outcome State Fault Refusal :=
  .next (s.cabCommand m 20#8 (ownSetPosition m.payload))

/-- CAB_RESTRICT, kind 21 (R39). -/
def execCabRestrict (m : CabMsg) (s : State) : Host.Outcome State Fault Refusal :=
  .next (s.cabCommand m 21#8 (ownCabRestrict m.cab m.payload))

/-- CAB_LIFT, kind 22 (R45). -/
def execCabLift (m : CabMsg) (s : State) : Host.Outcome State Fault Refusal :=
  .next (s.cabCommand m 22#8 (ownCabLift m.cab m.payload))

/-- PARK, kind 23 (R192). -/
def execPark (m : CabMsg) (s : State) : Host.Outcome State Fault Refusal :=
  .next (s.cabCommand m 23#8 (ownPark m.cab))

/-- SET_GATE, kind 24 (R134). -/
def execSetGate (m : CabMsg) (s : State) : Host.Outcome State Fault Refusal :=
  .next (s.cabCommand m 24#8 (ownSetGate m.payload))

/-- SET_PARAMETER, kind 24 (R135). -/
def execSetParameter (m : CabMsg) (s : State) : Host.Outcome State Fault Refusal :=
  .next (s.cabCommand m 24#8 (ownSetParameter m.payload))

/-- A request or order of a kind that no row of its origin names (R131): the gate answers. -/
def execAbsentKindRequest (m : AnyMsg) (s : State) : Host.Outcome State Fault Refusal :=
  .next (match m with
    | .cab kind m => s.cabCommand m kind (cabOwner kind m.cab m.payload)
    | .valley kind m => s.valleyCommand m kind (valleyOwner kind m.order m.payload))

end Sys2Proof.Machine
end

