-- ==== Sys2Proof/Machine/ValleyOrders.lean ====
section
/-! DEFINITION. The meanings of the valley orders: a message of a kind reaches the handler, its gate and its owner (R131,
R166, R168); a message for another car; a bad message (R165). -/

namespace Sys2Proof.Machine

/-- LINE, kind 32 (R169). -/
def execLine (m : ValleyMsg) (s : State) : Host.Outcome State Fault Refusal :=
  .next (s.valleyCommand m 32#8 (ownLine m.payload))

/-- AUTHORITY, kind 33 (R49). -/
def execAuthority (m : ValleyMsg) (s : State) : Host.Outcome State Fault Refusal :=
  .next (s.valleyCommand m 33#8 (ownAuthority m.payload))

/-- RESTRICT, kind 34 (R39). -/
def execRestrict (m : ValleyMsg) (s : State) : Host.Outcome State Fault Refusal :=
  .next (s.valleyCommand m 34#8 (ownRestrict m.payload))

/-- LIFT, kind 35 (R46). -/
def execLift (m : ValleyMsg) (s : State) : Host.Outcome State Fault Refusal :=
  .next (s.valleyCommand m 35#8 (ownLift m.payload))

/-- STOP with severity SERVICE, kind 36 (R170). -/
def execStopService (m : ValleyMsg) (s : State) : Host.Outcome State Fault Refusal :=
  .next (s.valleyCommand m 36#8 (ownStopService m.payload))

/-- STOP with severity EMERGENCY, kind 36 (R170). -/
def execStopEmergency (m : ValleyMsg) (s : State) : Host.Outcome State Fault Refusal :=
  .next (s.valleyCommand m 36#8 (ownStopEmergency m.payload))

/-- STOP_RELEASE, kind 37 (R170). -/
def execStopRelease (m : ValleyMsg) (s : State) : Host.Outcome State Fault Refusal :=
  .next (s.valleyCommand m 37#8 ownStopRelease)

/-- DOORS_CLOSE, kind 38 (R113). -/
def execDoorsClose (m : ValleyMsg) (s : State) : Host.Outcome State Fault Refusal :=
  .next (s.valleyCommand m 38#8 ownDoorsClose)

/-- CLEAR_OVERFLOW, kind 39 (R44). -/
def execClearOverflow (m : ValleyMsg) (s : State) : Host.Outcome State Fault Refusal :=
  .next (s.valleyCommand m 39#8 ownClearOverflow)

/-- WAKE, kind 40 (R171). -/
def execWake (m : ValleyMsg) (s : State) : Host.Outcome State Fault Refusal :=
  .next (s.valleyCommand m 40#8 ownWake)

/-- POLL, kind 41 (R171). -/
def execPoll (m : ValleyMsg) (s : State) : Host.Outcome State Fault Refusal :=
  .next (s.valleyCommand m 41#8 (ownPoll m.order))

/-- VALLEY_MESSAGE_OTHER_CAR: a valid message that is dropped (R166). -/
def execValleyMessageOtherCar (kind : Octet) (m : ValleyMsg) (s : State) : Host.Outcome State Fault Refusal :=
  .next (s.valleyCommand m kind (valleyOwner kind m.order m.payload))

/-- BAD_VALLEY_MESSAGE: its octets are handed on (R165). -/
def execBadValleyMessage (octets : List Octet) (s : State) : Host.Outcome State Fault Refusal := .next (s.handOn octets)

end Sys2Proof.Machine
end

