-- ==== Sys2Proof/Machine/Dispatch.lean ====
section
/-! DEFINITION. One command: each constructor's arm is one call of its meaning. -/

namespace Sys2Proof.Machine

/-- The effect of a command on everything but the queue. -/
def exec (i : Instr) (s : State) : Host.Outcome State Fault Refusal :=
  match i with
  | .cabState m => Sys2Proof.Machine.execCabState m s
  | .readStatus m => Sys2Proof.Machine.execReadStatus m s
  | .readProfileEntry m => Sys2Proof.Machine.execReadProfileEntry m s
  | .readProfileEntryNext m => Sys2Proof.Machine.execReadProfileEntryNext m s
  | .readCounters m => Sys2Proof.Machine.execReadCounters m s
  | .transferCounters m => Sys2Proof.Machine.execTransferCounters m s
  | .readResetCause m => Sys2Proof.Machine.execReadResetCause m s
  | .openCab m => Sys2Proof.Machine.execOpenCab m s
  | .closeCab m => Sys2Proof.Machine.execCloseCab m s
  | .lendDrive m => Sys2Proof.Machine.execLendDrive m s
  | .returnDrive m => Sys2Proof.Machine.execReturnDrive m s
  | .emergencyAck m => Sys2Proof.Machine.execEmergencyAck m s
  | .holdRelease m => Sys2Proof.Machine.execHoldRelease m s
  | .holdApply m => Sys2Proof.Machine.execHoldApply m s
  | .doorRelease m => Sys2Proof.Machine.execDoorRelease m s
  | .doorClose m => Sys2Proof.Machine.execDoorClose m s
  | .doorIsolateOn m => Sys2Proof.Machine.execDoorIsolateOn m s
  | .doorIsolateOff m => Sys2Proof.Machine.execDoorIsolateOff m s
  | .profileBegin m => Sys2Proof.Machine.execProfileBegin m s
  | .profileSegment m => Sys2Proof.Machine.execProfileSegment m s
  | .profileMarker m => Sys2Proof.Machine.execProfileMarker m s
  | .profileCommit m => Sys2Proof.Machine.execProfileCommit m s
  | .setPosition m => Sys2Proof.Machine.execSetPosition m s
  | .cabRestrict m => Sys2Proof.Machine.execCabRestrict m s
  | .cabLift m => Sys2Proof.Machine.execCabLift m s
  | .park m => Sys2Proof.Machine.execPark m s
  | .setGate m => Sys2Proof.Machine.execSetGate m s
  | .setParameter m => Sys2Proof.Machine.execSetParameter m s
  | .absentKindRequest m => Sys2Proof.Machine.execAbsentKindRequest m s
  | .badCabMessage c l => Sys2Proof.Machine.execBadCabMessage c l s
  | .framingFault c ch => Sys2Proof.Machine.execFramingFault c ch s
  | .answerSent c => Sys2Proof.Machine.execAnswerSent c s
  | .silenceTimerExpiry c => Sys2Proof.Machine.execSilenceTimerExpiry c s
  | .line m => Sys2Proof.Machine.execLine m s
  | .authority m => Sys2Proof.Machine.execAuthority m s
  | .restrict m => Sys2Proof.Machine.execRestrict m s
  | .lift m => Sys2Proof.Machine.execLift m s
  | .stopService m => Sys2Proof.Machine.execStopService m s
  | .stopEmergency m => Sys2Proof.Machine.execStopEmergency m s
  | .stopRelease m => Sys2Proof.Machine.execStopRelease m s
  | .doorsClose m => Sys2Proof.Machine.execDoorsClose m s
  | .clearOverflow m => Sys2Proof.Machine.execClearOverflow m s
  | .wake m => Sys2Proof.Machine.execWake m s
  | .poll m => Sys2Proof.Machine.execPoll m s
  | .valleyMessageOtherCar kind m => Sys2Proof.Machine.execValleyMessageOtherCar kind m s
  | .badValleyMessage l => Sys2Proof.Machine.execBadValleyMessage l s
  | .sensorTransition x y t => Sys2Proof.Machine.execSensorTransition x y t s
  | .markerPulse => Sys2Proof.Machine.execMarkerPulse s
  | .standstillDeclaration => Sys2Proof.Machine.execStandstillDeclaration s
  | .evaluationTimerExpiry => Sys2Proof.Machine.execEvaluationTimerExpiry s
  | .degradeThresholdReached => Sys2Proof.Machine.execDegradeThresholdReached s
  | .voidThresholdReached => Sys2Proof.Machine.execVoidThresholdReached s
  | .brakeFeedbackChange b r => Sys2Proof.Machine.execBrakeFeedbackChange b r s
  | .releaseTimerExpiry b => Sys2Proof.Machine.execReleaseTimerExpiry b s
  | .applyTimerExpiry b => Sys2Proof.Machine.execApplyTimerExpiry b s
  | .vigilanceTimerExpiry => Sys2Proof.Machine.execVigilanceTimerExpiry s
  | .holdTimerExpiry => Sys2Proof.Machine.execHoldTimerExpiry s
  | .lockedSwitchChange k v => Sys2Proof.Machine.execLockedSwitchChange k v s
  | .openEndSwitchChange k v => Sys2Proof.Machine.execOpenEndSwitchChange k v s
  | .obstruction k v => Sys2Proof.Machine.execObstruction k v s
  | .passengerPress k => Sys2Proof.Machine.execPassengerPress k s
  | .openLimitExpiry k => Sys2Proof.Machine.execOpenLimitExpiry k s
  | .closeLimitExpiry k => Sys2Proof.Machine.execCloseLimitExpiry k s
  | .reversalTimerExpiry k => Sys2Proof.Machine.execReversalTimerExpiry k s
  | .candidateTest pos at192 at384 => Sys2Proof.Machine.execCandidateTest pos at192 at384 s
  | .headerReceived header => Sys2Proof.Machine.execHeaderReceived header s
  | .offlineTimerExpiry => Sys2Proof.Machine.execOfflineTimerExpiry s
  | .offlineCandidateTest pos at192 at384 => Sys2Proof.Machine.execOfflineCandidateTest pos at192 at384 s
  | .fallbackTimerExpiry => Sys2Proof.Machine.execFallbackTimerExpiry s
  | .checkOctetReceived half check => Sys2Proof.Machine.execCheckOctetReceived half check s
  | .farEndReport octet => Sys2Proof.Machine.execFarEndReport octet s
  | .codeOctet octet => Sys2Proof.Machine.execCodeOctet octet s
  | .lineCodeHoldExpiry => Sys2Proof.Machine.execLineCodeHoldExpiry s
  | .transmitFrame => Sys2Proof.Machine.execTransmitFrame s
  | .reportSent => Sys2Proof.Machine.execReportSent s
  | .reportTimerExpiry => Sys2Proof.Machine.execReportTimerExpiry s
  | .transferTimerExpiry => Sys2Proof.Machine.execTransferTimerExpiry s
  | .periodTimerExpiry => Sys2Proof.Machine.execPeriodTimerExpiry s
  | .windowClose => Sys2Proof.Machine.execWindowClose s
  | .checkTimerExpiry => Sys2Proof.Machine.execCheckTimerExpiry s
  | .valveReadbackChange b e => Sys2Proof.Machine.execValveReadbackChange b e s
  | .readbackTimerExpiry => Sys2Proof.Machine.execReadbackTimerExpiry s
  | .storeVerification => Sys2Proof.Machine.execStoreVerification s
  | .powerOnReset => Sys2Proof.Machine.execPowerOnReset s
  | .pinReset => Sys2Proof.Machine.execPinReset s

end Sys2Proof.Machine
end

