-- ==== Sys2Proof/Safety.lean ====
section
/-! DEFINITION. The laws the spec states of the part at every moment, in the terms claims use: the outputs (R82, R88), the
cause set (R87, R103), the rack brake (R94), the holding brake (R95), the door sides (R110), the drive token (R127, R136),
the restriction list (R37), the margins and thresholds (R59, R135), the indexed tables (R1, R3). -/

namespace Sys2Proof.Machine

/-- R82, R88: the service output is the largest term, and traction is cut exactly while it is above 0 or a spring brake
is not RELEASED. -/
def OutputLaw (s : State) : Prop :=
  s.brk.serviceOut = s.brk.terms.top ∧
  (s.brk.tractionCut = true ↔
    (0 < s.brk.serviceOut ∨ s.brk.rack.state ≠ .released ∨ s.brk.hold.state ≠ .released))

/-- R87, R103: the EMERGENCY term is 100 while the set holds a cause and 0 while it is empty, and the first-cause record is
present exactly when the set is non-empty. -/
def CauseLaw (s : State) : Prop :=
  (s.brk.terms.emergency = if s.brk.causes.isEmpty then 0 else 100) ∧
  (s.brk.first.isSome = true ↔ s.brk.causes.isEmpty = false)

/-- R94: the rack brake valve is energized only while the cause set is empty and the car mode is READY or DRIVE. -/
def RackLaw (s : State) : Prop :=
  s.brk.rack.state.energized = true →
    s.brk.causes.isEmpty = true ∧ (s.mode.mode = .ready ∨ s.mode.mode = .drive)

/-- R95: the holding brake valve is energized only while the car mode is DRIVE, "all closed" holds and no side is
released. -/
def HoldLaw (s : State) : Prop :=
  s.brk.hold.state.energized = true →
    s.mode.mode = .drive ∧ s.doors.allClosed = true ∧ s.doors.sideReleased = false

/-- R110: a side is RELEASED only while the car is at standstill, the holding brake is APPLIED and confidence is
CONFIRMED. -/
def SideLaw (s : State) : Prop :=
  s.doors.sideReleased = true →
    s.pos.standstill = true ∧ s.brk.hold.state = .applied ∧ s.pos.confidence = .confirmed

/-- R136: the lend link is set exactly when the driving cab is a borrower, it names the other cab, and that cab alone is
marked lending. -/
def TokenLaw (s : State) : Prop :=
  match s.token.lendLink with
  | none => s.token.markUpper = false ∧ s.token.markLower = false
  | some l =>
    s.token.driving = some (otherCab l) ∧ s.token.markUpper = decide (l = .upper) ∧ s.token.markLower = decide (l = .lower)

/-- R136, R191: the car mode is DRIVE exactly while a cab drives. -/
def DriveLaw (s : State) : Prop := s.mode.mode = .drive ↔ s.token.driving ≠ none

/-- R127: a driving cab has its key ON and its link ACTIVE. -/
def EligibleLaw (s : State) : Prop := ∀ c, s.token.driving = some c → s.eligible c = true

/-- R37: the restriction list is in increasing order of id, of at most 16 entries. -/
def RestrictionLaw (s : State) : Prop :=
  s.line.restrictions.length ≤ 16 ∧ s.line.restrictions.Pairwise fun a b => a.id < b.id

/-- R59, R135: warning, service and emergency margin in order, and degrade, void and shadow void threshold. -/
def MarginLaw (s : State) : Prop :=
  s.params.warningMargin ≤ s.params.serviceMargin ∧ s.params.serviceMargin ≤ s.params.emergencyMargin ∧
  s.params.degrade ≤ s.params.void ∧ s.params.void ≤ s.params.shadowVoid

/-- R1, R3: the two indexed tables are in index order, within their sizes. -/
def TableLaw (s : State) : Prop :=
  s.line.segments.wf 256 = true ∧ s.line.markers.wf 128 = true

end Sys2Proof.Machine
end

