-- ==== Sys2Proof/WellFormed.lean ====
section
/-! DEFINITION. Which terms of `Instr` are commands a master or a wire can make: payload lengths (Tables 9-1, 12-2), the
selector octet that tells apart two rows of one kind, kinds and lengths of the rows that name none, and octets that truly
hold no valid message (R165, R182). -/

namespace Sys2Proof

/-- A cab message's payload is at most 58 octets (Table 12-2). -/
def CabMsg.wf (m : CabMsg) : Bool := decide (m.payload.length ≤ 58)

/-- A valley message's payload is at most 38 octets (Table 9-1). -/
def ValleyMsg.wf (m : ValleyMsg) : Bool := decide (m.payload.length ≤ 38)

/-- A READ_PROFILE_ENTRY payload asks for "next" with the index FFFFh (Table 12-3). -/
def asksNext (p : List Octet) : Bool := decide (p[1]? = some 0xFF#8) && decide (p[2]? = some 0xFF#8)

/-- The kinds of a cab's own rows: 0 to 24 (Table 7-3). -/
def cabRow (kind : Octet) : Bool := decide (kind.toNat ≤ 24)

/-- The kinds of the valley's own rows: 32 to 41 (Table 7-3). -/
def valleyRow (kind : Octet) : Bool := decide (32 ≤ kind.toNat) && decide (kind.toNat ≤ 41)

/-- Octets that begin a bad message of a framing (R165, R182). -/
def badFraming (start : Octet) (top extra : Nat) (l : List Octet) : Bool :=
  decide (l.head? = some start) && decide (Machine.frameOf top extra l = .bad)

/-- Whether a term is a command that can be sent. -/
def Instr.wf : Instr → Bool
  | .cabState m => m.wf
  | .readStatus m => m.wf
  | .readProfileEntry m => m.wf && !asksNext m.payload
  | .readProfileEntryNext m => m.wf && asksNext m.payload
  | .readCounters m => m.wf
  | .transferCounters m => m.wf
  | .readResetCause m => m.wf
  | .openCab m => m.wf
  | .closeCab m => m.wf
  | .lendDrive m => m.wf
  | .returnDrive m => m.wf
  | .emergencyAck m => m.wf
  | .holdRelease m => m.wf
  | .holdApply m => m.wf
  | .doorRelease m => m.wf
  | .doorClose m => m.wf
  | .doorIsolateOn m => m.wf && decide (m.payload[1]? ≠ some 0#8)
  | .doorIsolateOff m => m.wf && decide (m.payload[1]? = some 0#8)
  | .profileBegin m => m.wf
  | .profileSegment m => m.wf
  | .profileMarker m => m.wf
  | .profileCommit m => m.wf
  | .setPosition m => m.wf
  | .cabRestrict m => m.wf
  | .cabLift m => m.wf
  | .park m => m.wf
  | .setGate m => m.wf && decide (m.payload[0]? ≠ some 1#8)
  | .setParameter m => m.wf && decide (m.payload[0]? = some 1#8)
  | .absentKindRequest (.cab kind m) => m.wf && !cabRow kind
  | .absentKindRequest (.valley kind m) => m.wf && !valleyRow kind
  | .badCabMessage _ l => badFraming 0xA5#8 60 0 l
  | .framingFault _ _ => true
  | .answerSent _ => true
  | .silenceTimerExpiry _ => true
  | .line m => m.wf
  | .authority m => m.wf
  | .restrict m => m.wf
  | .lift m => m.wf
  | .stopService m => m.wf && decide (m.payload[0]? ≠ some 2#8)
  | .stopEmergency m => m.wf && decide (m.payload[0]? = some 2#8)
  | .stopRelease m => m.wf
  | .doorsClose m => m.wf
  | .clearOverflow m => m.wf
  | .wake m => m.wf
  | .poll m => m.wf
  | .valleyMessageOtherCar _ m => m.wf && decide (m.car ≠ 0#8)
  | .badValleyMessage l => badFraming 0xC3#8 40 1 l
  | .sensorTransition _ _ _ => true
  | .markerPulse => true
  | .standstillDeclaration => true
  | .evaluationTimerExpiry => true
  | .degradeThresholdReached => true
  | .voidThresholdReached => true
  | .brakeFeedbackChange _ _ => true
  | .releaseTimerExpiry _ => true
  | .applyTimerExpiry _ => true
  | .vigilanceTimerExpiry => true
  | .holdTimerExpiry => true
  | .lockedSwitchChange _ _ => true
  | .openEndSwitchChange _ _ => true
  | .obstruction _ _ => true
  | .passengerPress _ => true
  | .openLimitExpiry _ => true
  | .closeLimitExpiry _ => true
  | .reversalTimerExpiry _ => true
  | .candidateTest _ _ _ => true
  | .headerReceived _ => true
  | .offlineTimerExpiry => true
  | .offlineCandidateTest _ _ _ => true
  | .fallbackTimerExpiry => true
  | .checkOctetReceived half _ => decide (half.length = 96)
  | .farEndReport _ => true
  | .codeOctet _ => true
  | .lineCodeHoldExpiry => true
  | .transmitFrame => true
  | .reportSent => true
  | .reportTimerExpiry => true
  | .transferTimerExpiry => true
  | .periodTimerExpiry => true
  | .windowClose => true
  | .checkTimerExpiry => true
  | .valveReadbackChange _ _ => true
  | .readbackTimerExpiry => true
  | .storeVerification => true
  | .powerOnReset => true
  | .pinReset => true

end Sys2Proof
end

