-- ==== Sys2Proof/Claims.lean ====
section
/-! DEFINITION. The words the statements are made of: the command of a gate kind, a port and a handler free to take a message,
the answer a port gives, the outcome an order leaves, and the laws a step keeps together. -/

namespace Sys2Proof.Machine

/-! ## Requests -/

/-- The command a cab message of a kind is: the row of its kind, by its sub-selector where two rows share a kind (Table
12-3; log 23), and ABSENT_KIND_REQUEST beside the rows of its origin. -/
def cabRequest (kind : Octet) (m : CabMsg) : Instr :=
  match kind.toNat with
  | 0 => .cabState m
  | 1 => .readStatus m
  | 2 => if asksNext m.payload then .readProfileEntryNext m else .readProfileEntry m
  | 3 => .readCounters m
  | 4 => .transferCounters m
  | 5 => .readResetCause m
  | 6 => .openCab m
  | 7 => .closeCab m
  | 8 => .lendDrive m
  | 9 => .returnDrive m
  | 10 => .emergencyAck m
  | 11 => .holdRelease m
  | 12 => .holdApply m
  | 13 => .doorRelease m
  | 14 => .doorClose m
  | 15 => if m.payload[1]? = some 0#8 then .doorIsolateOff m else .doorIsolateOn m
  | 16 => .profileBegin m
  | 17 => .profileSegment m
  | 18 => .profileMarker m
  | 19 => .profileCommit m
  | 20 => .setPosition m
  | 21 => .cabRestrict m
  | 22 => .cabLift m
  | 23 => .park m
  | 24 => if m.payload[0]? = some 1#8 then .setParameter m else .setGate m
  | _ => .absentKindRequest (.cab kind m)

/-- The command a valley message of a kind is, by its severity where two rows share a kind. -/
def valleyOrder (kind : Octet) (m : ValleyMsg) : Instr :=
  match kind.toNat with
  | 32 => .line m
  | 33 => .authority m
  | 34 => .restrict m
  | 35 => .lift m
  | 36 => if m.payload.head? = some 2#8 then .stopEmergency m else .stopService m
  | 37 => .stopRelease m
  | 38 => .doorsClose m
  | 39 => .clearOverflow m
  | 40 => .wake m
  | 41 => .poll m
  | _ => .absentKindRequest (.valley kind m)

/-! ## A cab message that is judged at once -/

/-- The port's assembler is in HUNTING, its waiting answer slot is free, and the payload is one a message can carry (R182,
R183, Table 12-2). -/
def State.portFree (s : State) (m : CabMsg) : Bool :=
  decide ((s.port m.cab).asm = .hunting) && (s.port m.cab).waiting.isNone && decide (m.payload.length ≤ 58)

/-- The rank a cab's message is judged at: its port has just made the link ACTIVE (R127). -/
def State.rankHeard (s : State) (c : Cab) : Nat :=
  if s.token.driving = some c then 2 else if (s.port c).keyOn then 1 else 0

/-- A cab's message of a kind passes steps 1 to 4 of the check order (R131). -/
def State.cabPasses (s : State) (kind : Octet) (c : Cab) : Bool :=
  match s.gates[kind.toNat]? with
  | none => false
  | some g =>
    g.present && decide (g.origins ≠ .valley) && decide (g.least ≤ s.rankHeard c)
      && (!g.drive || decide (s.token.driving = some c))

/-- A cab message that is judged at once and passes its gate. -/
def State.admits (s : State) (kind : Octet) (m : CabMsg) : Bool := s.portFree m && s.cabPasses kind m.cab

/-- A port with an answer in a slot: the sending slot where that was free, else the waiting slot (R183). -/
def Port.withAnswer (p : Port) (a : Answer) : Port :=
  if p.sending = none then { p with sending := some a } else { p with waiting := some a }

/-- A port at the moment its message is found valid: the link ACTIVE, the silence timer at 600 ms (R183, R184). -/
def Port.heard (p : Port) : Port := { p with link := .active, silence := some 600 }

/-- The port of a message after it was answered with no other change (R183, R184, R200). -/
def State.answered (s : State) (kind : Octet) (m : CabMsg) (code : ResultCode) (payload : List Octet) : Port :=
  (s.port m.cab).heard.withAnswer { kind := kind, tag := m.tag, code := code, payload := payload }

/-- The message was answered, and the ports show no other change. -/
def Answers (s t : State) (kind : Octet) (m : CabMsg) (code : ResultCode) (payload : List Octet) : Prop :=
  t.port m.cab = s.answered kind m code payload ∧ t.port (otherCab m.cab) = s.port (otherCab m.cab)

/-- The state after an answer that changes nothing but the port. -/
def State.answer (s : State) (kind : Octet) (m : CabMsg) (code : ResultCode) (payload : List Octet) : State :=
  s.withPort m.cab (s.answered kind m code payload)

/-- The state after a refusal without payload: the answer, the refusal record, and nothing else (R133). -/
def State.refused (s : State) (kind : Octet) (m : CabMsg) (code : ResultCode) : State :=
  (s.withRefusal (some { code := code, index := kind.toNat, valley := false })).answer kind m code []

/-! ## An order that is judged at once -/

/-- A valid message for this car whose octets reach a handler in HUNTING (R164, R166). -/
def State.handlerFree (s : State) (m : ValleyMsg) : Bool :=
  decide (s.rx.state ≠ .hunt) && decide (s.handler.buffer = []) && decide (m.payload.length ≤ 38)
    && (decide (m.car = 0#8) || decide (m.car = oct s.params.carId))

/-- A valley message of a kind passes steps 1 to 4 of the check order at the valley's rank (R128, R131). -/
def State.valleyPasses (s : State) (kind : Octet) : Bool :=
  match s.gates[kind.toNat]? with
  | none => false
  | some g => g.present && decide (g.origins ≠ .cab) && decide (g.least ≤ s.valleyRank) && !g.drive

/-- An order that is judged at once and passes its gate. -/
def State.takes (s : State) (kind : Octet) (m : ValleyMsg) : Bool := s.handlerFree m && s.valleyPasses kind

/-- The order outcome record after an accepted order (R168). -/
def Outcomes.acceptedBy (o : Outcomes) (order : Octet) : Outcomes := { o with accepted := some order }

/-- The order outcome record after a refused order (R168). -/
def Outcomes.refusedBy (o : Outcomes) (order : Octet) (code : ResultCode) : Outcomes :=
  { o with refused := some order, reason := some code, tally := min 255 (o.tally + 1) }

/-- What every message heard from the valley leaves: the contact timer at 0, the contact state LIVE, and of the mode
controller nothing changed but the end of an open window (R53, R193). -/
def Heard (s t : State) : Prop :=
  t.contact.value = 0 ∧ t.contact.state = .live ∧
  t.mode = { s.mode with window := s.mode.window.map Window.moved }

/-! ## The validation of a commit (Table 1-4) -/

/-- The segment at an index passes its three checks: written; 0 at index 0, else above the start before it; below the line
end. -/
def LineStore.segmentPasses (l : LineStore) (lineEnd i : Nat) : Prop :=
  ∃ g, l.segments.get i = some g ∧ g.start < lineEnd ∧ (i = 0 → g.start = 0) ∧
    ∀ h, 0 < i → l.segments.get (i - 1) = some h → h.start < g.start

/-- The segment at an index fails with a reason, by its first check that fails. -/
def LineStore.segmentFails (l : LineStore) (lineEnd i : Nat) (reason : Octet) : Prop :=
  (reason = 0#8 ∧ l.segments.get i = none) ∨
  ∃ g, l.segments.get i = some g ∧
    ((reason = 1#8 ∧ i = 0 ∧ g.start ≠ 0) ∨
      (reason = 2#8 ∧ 0 < i ∧ ∃ h, l.segments.get (i - 1) = some h ∧ g.start ≤ h.start) ∨
      (reason = 3#8 ∧ (i = 0 → g.start = 0) ∧ (∀ h, 0 < i → l.segments.get (i - 1) = some h → h.start < g.start) ∧
        lineEnd ≤ g.start))

/-- The marker at an index passes its three checks: written; above the position before it; at most the line end. -/
def LineStore.markerPasses (l : LineStore) (lineEnd i : Nat) : Prop :=
  ∃ p, l.markers.get i = some p ∧ p ≤ lineEnd ∧ ∀ q, 0 < i → l.markers.get (i - 1) = some q → q < p

/-- The marker at an index fails with a reason, by its first check that fails. -/
def LineStore.markerFails (l : LineStore) (lineEnd i : Nat) (reason : Octet) : Prop :=
  (reason = 0#8 ∧ l.markers.get i = none) ∨
  ∃ p, l.markers.get i = some p ∧
    ((reason = 2#8 ∧ 0 < i ∧ ∃ q, l.markers.get (i - 1) = some q ∧ p ≤ q) ∨
      (reason = 3#8 ∧ (∀ q, 0 < i → l.markers.get (i - 1) = some q → q < p) ∧ lineEnd < p))

/-- The contact state of a timer value under a shadow test, as Table 3-4 and R55 give it: the thresholds are in seconds,
the value in ms. -/
def contactFor (p : Params) (value : Nat) (shadow : Bool) : ContactState :=
  if shadow = true then (if value < p.shadowVoid * 1000 then .live else .void)
  else if p.void * 1000 ≤ value then .void
  else if p.degrade * 1000 ≤ value then .degraded
  else .live

/-! ## The permitted speed and the targets (Chapter 4) -/

/-- A span of positions has a position in common with the car extent (R33, R38). -/
def State.meetsCar (s : State) (start stop : Nat) : Prop := (start : Int) ≤ s.upperEnd ∧ s.lowerEnd ≤ (stop : Int)

/-- The least limit, in a direction, of the segments under the car; 0 where there is none (R63). -/
def State.isStaticLimit (s : State) (d : Dir) (v : Nat) : Prop :=
  (s.extentSpans = [] → v = 0) ∧
  (∀ p ∈ s.extentSpans, v ≤ (match d with | .up => p.seg.limitUp | .down => p.seg.limitDown)) ∧
  (s.extentSpans ≠ [] → ∃ p ∈ s.extentSpans, v = (match d with | .up => p.seg.limitUp | .down => p.seg.limitDown))

/-- A term of Table 4-3 applies with a value, over a target list (R62 to R65). -/
def State.termApplies (s : State) (d : Dir) (targets : List Target) (l : Limiting) (v : Nat) : Prop :=
  match l with
  | .ceiling => v = s.params.carCeiling
  | .static => s.isStaticLimit d v
  | .restriction id => ∃ r ∈ s.line.restrictions, r.id = id ∧ v = r.limit ∧ s.meetsCar r.start r.stop
  | .overflow => ∃ o, s.line.overflow = some o ∧ v = o.limit ∧ s.meetsCar o.start o.stop
  | .unconfirmed => s.pos.confidence ≠ .confirmed ∧ v = s.params.unconfirmedCeiling
  | .radio => (s.contact.state = .degraded ∨ s.lineCode.effective = .caution) ∧ v = s.params.radioCeiling
  | .target k p vt => ∃ g ∈ targets, g.kind = k ∧ g.pos = p ∧ g.vt = vt ∧ v = g.curve
  | .noProfile => False
  | .noDirection => False

/-- The place of a term in the order R67 records equal terms by. -/
def Limiting.place : Limiting → Nat
  | .ceiling => 0
  | .static => 1
  | .restriction _ => 2
  | .overflow => 3
  | .unconfirmed => 4
  | .radio => 5
  | .target _ _ _ => 6
  | .noProfile => 7
  | .noDirection => 8

/-- A position is ahead of the front end (R68). -/
def State.isAhead (s : State) (d : Dir) (p : Int) : Prop :=
  match d with
  | .up => (s.pos.count : Int) < p
  | .down => p < (s.pos.count : Int) - s.params.carLength

/-- A position is ahead of the front end by a number of teeth within the look-ahead (R68). -/
def State.inLookAhead (s : State) (d : Dir) (p : Int) (teeth : Nat) : Prop :=
  s.isAhead d p ∧ teeth = (p - s.frontEnd d).natAbs ∧ teeth ≤ 10000

/-- The line and the authority give a target of a kind at a position, of a target speed, a number of teeth ahead (R68,
R69, R71). -/
def State.givesTarget (s : State) (d : Dir) (k : TargetKind) (p : Int) (vt teeth : Nat) : Prop :=
  match k with
  | .boundary => s.inLookAhead d p teeth ∧ ∃ (i : Nat) (e f : Nat × Segment),
      s.line.segments[i]? = some e ∧ s.line.segments[i + 1]? = some f ∧
      (match d with
        | .up => p = f.2.start ∧ vt = f.2.limitUp
        | .down => p = (f.2.start : Int) - 1 ∧ vt = e.2.limitDown)
  | .restriction => s.inLookAhead d p teeth ∧ ∃ r ∈ s.line.restrictions,
      p = (match d with | .up => r.start | .down => r.stop) ∧ vt = r.limit
  | .overflow => s.inLookAhead d p teeth ∧ ∃ o, s.line.overflow = some o ∧
      p = (match d with | .up => o.start | .down => o.stop) ∧ vt = o.limit
  | .eoa => vt = 0 ∧ (s.inLookAhead d p teeth ∨ (¬ s.isAhead d p ∧ teeth = 0)) ∧
      ∃ a, s.line.authority = some a ∧ a.void = false ∧ a.dir = d ∧ p = a.eoa
  | .noAuthority => vt = 0 ∧ teeth = 0 ∧ p = s.frontEnd d ∧
      ∀ a, s.line.authority = some a → a.void = true ∨ a.dir ≠ d
  | .lineEnd => vt = 0 ∧ (s.inLookAhead d p teeth ∨ (¬ s.isAhead d p ∧ teeth = 0)) ∧
      p = (match d with | .up => s.line.lineEnd | .down => 0)

/-- The place of a kind among targets at one distance (R70). -/
def TargetKind.place : TargetKind → Nat
  | .eoa => 0
  | .noAuthority => 0
  | .lineEnd => 1
  | .overflow => 2
  | .restriction => 3
  | .boundary => 4

/-- The part of a gradient that falls along travel, in parts per thousand (0.6). -/
def fallOf (d : Dir) (gradient : Int) : Int :=
  match d with
  | .up => -gradient
  | .down => gradient

/-- The front end of the car, in the direction of its authority, has passed the EOA (R48). -/
def State.eoaIsPassed (s : State) : Prop :=
  ∃ a, s.line.authority = some a ∧
    (match a.dir with
      | .up => a.eoa < s.pos.count
      | .down => (s.pos.count : Int) - s.params.carLength < a.eoa)

/-! ## The octets of the message channel (R176) -/

/-- The head of the report queue as it stands when its next octet is asked for: as it is while it is sent; else begun, under
the number it took before or the next report number. The number after it. -/
def Reports.headBegun (r : Reports) (x : Slot) : Slot × Nat :=
  if x.sending = true then (x, r.number)
  else
    match x.number with
    | some _ => ({ x with sending := true, given := 0 }, r.number)
    | none => ({ x with number := some ((r.number + 1) % 256), sending := true, given := 0 }, (r.number + 1) % 256)

/-- The next `n` channel octets, report by report, over at most `k` reports, and the reports after them: a report that does
not end gives `n` of its octets; one that ends gives the rest of its own, leaves the queue, a backlog entry takes the slot
freed, and the next report gives what is still asked for; an empty queue gives 00h. -/
def Reports.channelOctets (carId : Octet) : Nat → Nat → Reports → List Octet × Reports
  | 0, _, r => ([], r)
  | _ + 1, 0, r => ([], r)
  | k + 1, n + 1, r =>
    match r.queue with
    | [] => (List.replicate (n + 1) 0#8, r)
    | x :: rest =>
      let b := r.headBegun x
      let left := b.1.octets.drop b.1.given
      if n + 1 < left.length then
        (left.take (n + 1), { r with queue := { b.1 with given := b.1.given + (n + 1) } :: rest, number := b.2 })
      else
        let freed : List Slot := r.backlog.head?.toList.map fun a =>
          { report := .alarm a, carId := carId, number := none, sending := false, given := 0 }
        let p := Reports.channelOctets carId k (n + 1 - left.length)
          { r with queue := rest ++ freed, backlog := r.backlog.tail, number := b.2 }
        (left ++ p.1, p.2)

/-! ## Blocks left alone -/

/-- Parameters, gates and the queue stay. -/
def SameSetup (s t : State) : Prop := t.params = s.params ∧ t.gates = s.gates ∧ t.pending = s.pending

/-- The radio, both ways, stays. -/
def SameRadio (s t : State) : Prop := t.rx = s.rx ∧ t.lineCode = s.lineCode ∧ t.tx = s.tx

/-- The handler, its reports and the monitor stay. -/
def SameHandler (s t : State) : Prop := t.handler = s.handler ∧ t.reports = s.reports ∧ t.mon = s.mon

/-- The cab ports, their flags, the token and the refusal record stay. -/
def SameCabs (s t : State) : Prop :=
  t.upper = s.upper ∧ t.lower = s.lower ∧ t.flags = s.flags ∧ t.token = s.token ∧ t.refusal = s.refusal

/-- The car: line store, position, supervision, contact, brakes, valve watch, doors and mode stay. -/
def SameCar (s t : State) : Prop :=
  t.line = s.line ∧ t.pos = s.pos ∧ t.sup = s.sup ∧ t.contact = s.contact ∧ t.brk = s.brk ∧ t.valves = s.valves ∧
  t.doors = s.doors ∧ t.mode = s.mode

/-- Both cabs' flags hold a kind (R187). -/
def Flagged (t : State) (k : FlagKind) : Prop := t.flags.upper.has k = true ∧ t.flags.lower.has k = true

/-- What a close makes of a leaf whose levels await nothing: not locked and its edge clear (R113). -/
def closedBy (l : Leaf) : LeafState × Nat :=
  match l.state with
  | .closedUnlocked | .opening | .opened | .obstructed | .closing | .reversing => (.closing, 0)
  | x => (x, l.reversals)

/-! ## Laws kept by every step -/

/-- R83, R85, R87: DRIVER is the driving cab's lever, SUPERVISION follows the supervision state, VALLEY the held service
stop and the line code, CONTACT the contact state. -/
def TermLaw (s : State) : Prop :=
  (s.brk.terms.driver = match s.drivingControls with
    | some r => r.lever
    | none => 0) ∧
  (s.brk.terms.supervision = if s.sup.state = .intervene ∨ s.sup.state = .trip then 100 else 0) ∧
  (s.brk.terms.valley = if s.handler.stopService = true ∨ s.lineCode.effective = .stop then 100 else 0) ∧
  (s.brk.terms.contact = if s.contact.state = .void then 100 else 0)

/-- R5, R191: the car mode is CONFIG exactly while no profile is committed. -/
def ConfigLaw (s : State) : Prop := s.mode.mode = .config ↔ s.line.profile ≠ .valid

/-- R193, R194: the period timer and the window are kept in PARKED alone, the check timer in WAKING alone. -/
def ModeTimerLaw (s : State) : Prop :=
  ((s.mode.periodTimer.isSome = true ∨ s.mode.window.isSome = true) → s.mode.mode = .parked) ∧
  (s.mode.checkTimer.isSome = true → s.mode.mode = .waking)

/-- The laws of brakes, doors, token and mode, which hold together (R94, R95, R110, R127, R136, R191). -/
def CarLaw (s : State) : Prop :=
  RackLaw s ∧ HoldLaw s ∧ SideLaw s ∧ TokenLaw s ∧ DriveLaw s ∧ EligibleLaw s ∧ ConfigLaw s ∧ ModeTimerLaw s

/-- R22, R25, R3, R4: count, distance, speed, marker positions and line end stay in their ranges. -/
def RangeLaw (s : State) : Prop :=
  s.pos.count ≤ 99999 ∧ s.pos.distance ≤ 99999 ∧ s.pos.speed ≤ 2000 ∧ s.line.lineEnd ≤ 99999 ∧
  ∀ e ∈ s.line.markers, e.2 ≤ 99999

/-- R130, R135: the gate table has 48 entries, and every parameter is in its range. -/
def SetupLaw (s : State) : Prop :=
  s.gates.length = 48 ∧
  ∀ n, n < 20 → ∃ r, paramRanges[n]? = some r ∧ r.1 ≤ s.params.get n ∧ s.params.get n ≤ r.2

/-- The laws of the stored records, which hold together. -/
def StoreLaw (s : State) : Prop := TableLaw s ∧ RestrictionLaw s ∧ MarginLaw s ∧ RangeLaw s ∧ SetupLaw s

end Sys2Proof.Machine
end

