-- ==== Sys2Proof/Certificates/Slice0/Obligations.lean ====
section
/-! DEFINITION. The statements for the provers. Each docstring names the rules it rests on and the rows it speaks of. -/

open Sys2Proof Sys2Proof.Machine

/-! ## The queue and time -/

/-- A step takes the command at the front of the queue and is that command on the state with the queue's rest (the model's
form of taking commands, log 1). -/
def Obligations.StepTakesTheFrontCommand : Prop :=
  ∀ (c : Instr) (rest : List Instr) (s : State), s.pending = c :: rest → step s = exec c (s.withPending rest)

/-- With nothing waiting and nothing falling due, a step is one millisecond in which every running timer moves and nothing
else changes (the model's choice, log 2). -/
def Obligations.IdleStepMovesTheTimers : Prop :=
  ∀ s : State, s.pending = [] → (∀ e ∈ expiries, e.isDue s.pass = false) →
    ∃ t, step s = .next t ∧
      t.contact.value = min 600000 (s.contact.value + 1) ∧ t.sup.evalTimer = s.sup.evalTimer - 1 ∧
      t.mon.interval = min 65535 (s.mon.interval + 1) ∧
      t.pos = { s.pos with standTimer := s.pos.standTimer.map (· - 1) } ∧
      t.brk.terms = s.brk.terms ∧ t.brk.causes = s.brk.causes ∧ t.brk.rack.state = s.brk.rack.state ∧
      t.brk.hold.state = s.brk.hold.state ∧
      t.params = s.params ∧ t.gates = s.gates ∧ t.token = s.token ∧ t.refusal = s.refusal ∧ t.flags = s.flags ∧
      t.tx = s.tx ∧ t.handler = s.handler ∧ t.pending = []

/-- A command's effect is on everything but the queue of waiting commands (log 1). -/
def Obligations.CommandsLeaveTheQueue : Prop :=
  ∀ (c : Instr) (s t : State), exec c s = .next t → t.pending = s.pending

/-! ## Ports and gate -/

/-- R131, steps 1 to 4, for a message of every kind from either origin: the first failure is answered to a cab and goes
to the refusal record (R133) and nothing else changes; an order's goes to the refusal record and to the order outcome
record (R168). -/
def Obligations.RequestsAreJudgedByTheirGate : Prop :=
  ∀ (s : State) (kind : Octet) (code : ResultCode), s.gates.length = 48 →
    (∀ m : CabMsg, s.portFree m = true →
      (match s.gates[kind.toNat]? with
        | none => code = .absent
        | some g =>
          if g.present = false then code = .absent
          else if g.origins = .valley then code = .origin
          else if s.rankHeard m.cab < g.least then code = .rank
          else g.drive = true ∧ s.token.driving ≠ some m.cab ∧ code = .notDriving) →
      exec (cabRequest kind m) s = .next (s.refused kind m code)) ∧
    (∀ m : ValleyMsg, s.handlerFree m = true →
      (match s.gates[kind.toNat]? with
        | none => code = .absent
        | some g =>
          if g.present = false then code = .absent
          else if g.origins = .cab then code = .origin
          else if s.valleyRank < g.least then code = .rank
          else g.drive = true ∧ code = .notDriving) →
      ∃ t, exec (valleyOrder kind m) s = .next t ∧ Heard s t ∧
        t.refusal = some { code := code, index := kind.toNat, valley := true } ∧
        t.handler = { s.handler with outcomes := s.handler.outcomes.refusedBy m.order code } ∧
        SameSetup s t ∧ SameRadio s t ∧ t.mon = s.mon ∧ t.upper = s.upper ∧ t.lower = s.lower ∧ t.token = s.token ∧
        t.line = s.line ∧ t.pos = s.pos ∧ t.doors = s.doors)

/-- Kinds beside the rows of their origin are always stopped by the gate table of R130: absent above 47, in 25 to 31 and in
42 to 47, and of the other origin else. ABSENT_KIND_REQUEST from a cab and from the valley. -/
def Obligations.AbsentKindsAreRefused : Prop :=
  ∀ (s : State) (kind : Octet), s.gates.map (fun g => (g.present, g.origins)) = gateDefaults.map (fun g => (g.present, g.origins)) →
    (∀ m : CabMsg, s.portFree m = true → cabRow kind = false →
      exec (.absentKindRequest (.cab kind m)) s =
        .next (s.refused kind m (if 32 ≤ kind.toNat ∧ kind.toNat ≤ 41 then .origin else .absent))) ∧
    (∀ m : ValleyMsg, s.handlerFree m = true → valleyRow kind = false →
      ∃ t, exec (.absentKindRequest (.valley kind m)) s = .next t ∧ Heard s t ∧
        t.refusal = some { code := if kind.toNat ≤ 24 then .origin else .absent, index := kind.toNat, valley := true } ∧
        t.handler = { s.handler with
          outcomes := s.handler.outcomes.refusedBy m.order (if kind.toNat ≤ 24 then .origin else .absent) } ∧
        SameSetup s t ∧ SameRadio s t ∧ t.line = s.line ∧ t.pos = s.pos ∧ t.doors = s.doors ∧ t.token = s.token)

/-- R183: with the waiting slot taken, a valid message makes the link ACTIVE and is held in WAITING unjudged; when the
answer being sent ends, it has left in the octets of R200 (the field that keeps them is the model's own, log 40), the
waiting answer begins, and a held message is judged as if it came then. R181, R182: what a character and a bad message do
at a port. ANSWER_SENT, FRAMING_FAULT, BAD_CAB_MESSAGE. -/
def Obligations.PortsAnswerInTurnAndCountErrors : Prop :=
  ∀ (s : State) (kind : Octet) (m : CabMsg) (first second : Answer) (sent : List Octet),
    (m.payload.length ≤ 58 → (s.port m.cab).sending = some first →
      sent = 0xA5#8 :: (oct (3 + first.payload.length) :: first.kind :: first.tag :: oct first.code.num :: first.payload)
        ++ crcOctets (crc16
          (oct (3 + first.payload.length) :: first.kind :: first.tag :: oct first.code.num :: first.payload)) →
      ((s.port m.cab).asm = .hunting → (s.port m.cab).waiting = some second →
        exec (cabRequest kind m) s =
          .next (s.withPort m.cab { (s.port m.cab).heard with asm := .waiting, buffer := cabOctets kind m })) ∧
      ((s.port m.cab).asm ≠ .waiting →
        exec (.answerSent m.cab) s =
          .next (s.withPort m.cab { s.port m.cab with
            sending := (s.port m.cab).waiting, waiting := none, lastSent := sent })) ∧
      ((s.port m.cab).asm = .waiting → (s.port m.cab).buffer = cabOctets kind m → (s.port m.cab).receive = [] →
        (s.port m.cab).waiting = some second → (s.port m.cab).link = .active → (s.port m.cab).silence = some 600 →
        exec (.answerSent m.cab) s =
          exec (cabRequest kind m) (s.withPort m.cab { s.port m.cab with
            sending := some second, waiting := none, asm := .hunting, buffer := [], lastSent := sent }))) ∧
    (∀ c : Cab,
      exec (.framingFault c none) s =
        .next (s.withPort c { s.port c with errors := min 255 ((s.port c).errors + 1) }) ∧
      (∀ o : Octet, (s.port c).asm = .waiting →
        exec (.framingFault c (some o)) s =
          .next (s.withPort c
            (if (s.port c).receive.length < 128 then { s.port c with receive := (s.port c).receive ++ [o] }
             else { s.port c with errors := min 255 ((s.port c).errors + 1) }))) ∧
      (∀ octets : List Octet, (s.port c).asm = .hunting → (s.port c).buffer = [] →
        badFraming 0xA5#8 60 0 octets = true → 0xA5#8 ∉ octets.tail →
        exec (.badCabMessage c octets) s =
          .next (s.withPort c { s.port c with errors := min 255 ((s.port c).errors + 1) })))

/-- R184, R141, R142: at the expiry of a running silence timer the link is LOST and the record is kept; under a committed
profile the token goes by the cab's role, and a token that falls to NONE on a moving car adds DRIVE_LOST. R12: with no
driving cab a load that this cab began is abandoned, and nothing but the port changes where it began none.
SILENCE_TIMER_EXPIRY. The order of mode change and cause is the model's choice (log 7); that the command acts whatever
time the timer still shows is too (log 3). -/
def Obligations.SilenceLosesLinkAndToken : Prop :=
  ∀ (s : State) (c : Cab) (n : Nat), (s.port c).silence = some n → TokenLaw s → DriveLaw s →
    (s.line.profile = .valid →
      ∃ t, exec (.silenceTimerExpiry c) s = .next t ∧
        t.port c = { s.port c with link := .lost, silence := none } ∧ t.port (otherCab c) = s.port (otherCab c) ∧
        t.token =
          (if s.token.driving = some c then
            (match s.token.lendLink with
              | some l => if s.eligible l then Token.plain l else Token.nobody
              | none => Token.nobody)
           else if s.token.lendLink = some c then Token.plain (otherCab c)
           else s.token) ∧
        (t.token = s.token → t.mode = s.mode ∧ t.brk = s.brk ∧ t.flags = s.flags) ∧
        (t.token ≠ s.token → Flagged t .token ∧ (t.mode.mode = .drive ↔ t.token.driving ≠ none)) ∧
        (s.token.driving = some c ∧ t.token.driving = none →
          t.mode.mode = .ready ∧ (s.pos.standstill = false → t.brk.causes.driveLost = true)) ∧
        SameSetup s t ∧ t.refusal = s.refusal ∧ t.pos = s.pos ∧ t.handler = s.handler ∧ t.lineCode = s.lineCode ∧
        t.mon = s.mon ∧ t.line.segments = s.line.segments ∧ t.line.restrictions = s.line.restrictions) ∧
    (s.token.driving = none → s.line.profile = .loading → s.line.loader = some c →
      ∃ t, exec (.silenceTimerExpiry c) s = .next t ∧
        t.port c = { s.port c with link := .lost, silence := none } ∧ t.port (otherCab c) = s.port (otherCab c) ∧
        t.line = { s.line with
          profile := .empty, loader := none, segCount := 0, mkrCount := 0, lineEnd := 0, version := 0
          storeCheck := 0#16, segments := [], markers := [], verifyTimer := none, authority := t.line.authority } ∧
        Flagged t .lineRecord ∧ t.sup.permitted = 0 ∧ t.sup.limiting = .noProfile ∧ t.contact.shadow = false ∧
        SameSetup s t ∧ t.token = s.token ∧ t.mode = s.mode ∧ t.refusal = s.refusal ∧ t.pos = s.pos ∧
        t.doors = s.doors ∧ t.lineCode = s.lineCode ∧ t.mon = s.mon) ∧
    (s.token.driving = none → s.line.profile ≠ .loading ∨ s.line.loader ≠ some c →
      exec (.silenceTimerExpiry c) s = .next (s.withPort c { s.port c with link := .lost, silence := none }))

/-! ## Requests of the cab consoles -/

/-- R185: a CAB_STATE in range replaces the port's record and is answered OK with the indication record as it then is; its
button, lever, deadman and key go to their readers. A key gone from ON to OFF abandons a load by its cab (R12), a changed
selected direction resets the rollaway count (R104), a key ON wakes a PARKED car (R194). One with a field out of range or
too short (R199) leaves the record and is answered RANGE with the indication record. CAB_STATE. -/
def Obligations.CabStateReplacesTheRecord : Prop :=
  ∀ (s : State) (m : CabMsg), s.admits 0#8 m = true →
    (∀ (r : Controls) (sel : Octet) (rest : List Octet),
      m.payload = octBool r.key :: sel :: oct r.lever :: octBool r.deadman :: octBool r.button :: rest →
      selectorOf sel.toNat = some r.selector → r.lever ≤ 100 →
      ∃ t, exec (.cabState m) s = .next t ∧
        t.port m.cab = ({ s.port m.cab with controls := some r } : Port).heard.withAnswer
          { kind := 0#8, tag := m.tag, code := .ok, payload := t.indication m.cab } ∧
        t.port (otherCab m.cab) = s.port (otherCab m.cab) ∧
        (r.button = true → t.brk.causes.cabEmergency = true) ∧
        (t.token.driving = some m.cab → t.brk.terms.driver = r.lever) ∧
        (r.key = true → t.token = s.token) ∧
        (r.key = true → s.mode.mode = .parked → t.mode.mode = .waking) ∧
        (r.key = false → (s.port m.cab).keyOn = true → TokenLaw s → t.token.driving ≠ some m.cab) ∧
        (if r.key = false ∧ (s.port m.cab).keyOn = true ∧ s.line.profile = .loading ∧ s.line.loader = some m.cab then
          t.line = { s.line with
            profile := .empty, loader := none, segCount := 0, mkrCount := 0, lineEnd := 0, version := 0
            storeCheck := 0#16, segments := [], markers := [], verifyTimer := none, authority := t.line.authority } ∧
          Flagged t .lineRecord
         else t.line = { s.line with authority := t.line.authority }) ∧
        (t.selectedDir ≠ s.selectedDir → t.brk.rollCount = 0) ∧
        (t.brk.vigTimer.isSome = true →
          t.brk.terms.vigilance = 0 ∧ t.deadmanReleased = true ∧ t.pos.standstill = false) ∧
        SameSetup s t ∧ t.refusal = s.refusal ∧ t.pos = s.pos ∧ t.mon = s.mon) ∧
    ((m.payload.length < 5 ∨
        ∃ k sel lever dead button rest, m.payload = k :: sel :: lever :: dead :: button :: rest ∧
          (1 < k.toNat ∨ 2 < sel.toNat ∨ 100 < lever.toNat ∨ 1 < dead.toNat ∨ 1 < button.toNat)) →
      exec (.cabState m) s =
        .next ((s.withRefusal (some { code := .range, index := 0, valley := false })).answer 0#8 m .range
          (((s.withRefusal (some { code := .range, index := 0, valley := false })).withPort m.cab
            (s.port m.cab).heard).indication m.cab)))

/-- R189, R178, R179, R197: what the reads answer and empty; a transfer restarts the transfer timer, whatever
AUTO_TRANSFER holds. READ_STATUS, READ_COUNTERS, TRANSFER_COUNTERS, READ_RESET_CAUSE. -/
def Obligations.ReadsAnswerWhatIsHeld : Prop :=
  ∀ (s : State) (m : CabMsg),
    (s.admits 1#8 m = true →
      ∃ t, exec (.readStatus m) s = .next t ∧
        t.port m.cab = ({ s.port m.cab with errors := 0 } : Port).heard.withAnswer
          { kind := 1#8, tag := m.tag, code := .ok,
            payload := (s.withPort m.cab (s.port m.cab).heard).indication m.cab
              ++ [oct s.upper.errors, oct s.lower.errors] } ∧
        t.port (otherCab m.cab) = s.port (otherCab m.cab) ∧
        t.flags.get m.cab = {} ∧ t.flags.get (otherCab m.cab) = s.flags.get (otherCab m.cab) ∧
        t.attention m.cab = false ∧
        SameSetup s t ∧ SameRadio s t ∧ SameHandler s t ∧ SameCar s t ∧ t.token = s.token ∧ t.refusal = s.refusal) ∧
    (s.admits 3#8 m = true →
      exec (.readCounters m) s = .next (s.answer 3#8 m .ok s.mon.octets)) ∧
    (s.admits 4#8 m = true →
      exec (.transferCounters m) s =
        .next ((s.withMon { live := Counters.zero, interval := 0, snapshot := s.mon.live, snapInterval := s.mon.interval,
                            timer := some 1000 }).answer 4#8 m .ok
          (Monitor.octets { live := Counters.zero, interval := 0, snapshot := s.mon.live,
                            snapInterval := s.mon.interval, timer := none }))) ∧
    (s.admits 5#8 m = true →
      exec (.readResetCause m) s =
        .next ((s.withMode { s.mode with resetCauses := {} }).answer 5#8 m .ok [s.mode.resetCauses.octet])) ∧
    (s.portFree m = true → s.cabPasses 1#8 m.cab = false →
      ∃ code, exec (.readStatus m) s = .next (s.refused 1#8 m code)) ∧
    gateDefaults[1]? = some (gateCab 0 false false) ∧ gateDefaults[3]? = some (gateCab 0 false false) ∧
    gateDefaults[4]? = some (gateCab 0 false false) ∧
    s.statusPayload.drop 35 = oct2 s.mon.snapshot.checkFail.value

/-- R17, R18: an index below the table's read-back count is answered with its entry and leaves the cab's cursor there;
one at or beyond it is refused RANGE. READ_PROFILE_ENTRY, by index and by "next". The written mark in an entry of the
restriction list is the model's choice (log 33). -/
def Obligations.ReadBackAnswersTheEntry : Prop :=
  ∀ (s : State) (m : CabMsg) (code a b : Octet) (rest : List Octet) (tab : TableId) (i : Nat),
    s.admits 2#8 m = true → m.payload = code :: a :: b :: rest → tableOf code.toNat = some tab →
    (if asksNext m.payload then
      (match (s.port m.cab).cursor.index with
        | some k =>
          i = if (s.port m.cab).cursor.table = tab ∧ k + 1 < s.line.readCount tab then k + 1 else 0
        | none => i = 0)
     else i = num2 a b) →
    exec (if asksNext m.payload then .readProfileEntryNext m else .readProfileEntry m) s =
      (if i < s.line.readCount tab ∧ (asksNext m.payload = true ∨ i ≤ 255) then
        .next (s.withPort m.cab (({ s.port m.cab with cursor := { table := tab, index := some i } } : Port).heard.withAnswer
          { kind := 2#8, tag := m.tag, code := .ok, payload := readBackBody tab i s }))
       else .next (s.refused 2#8 m .range))

/-- R137: OPEN_CAB from an eligible cab at standstill in READY, with no driving cab. OPEN_CAB. -/
def Obligations.OpenCabTakesTheToken : Prop :=
  ∀ (s : State) (m : CabMsg), s.admits 6#8 m = true →
    (if (s.port m.cab).keyOn = true ∧ s.token.driving = none ∧ s.mode.mode = .ready ∧ s.pos.standstill = true ∧
        s.token.lending m.cab = false then
      ∃ t, exec (.openCab m) s = .next t ∧
        Answers s t 6#8 m .ok [oct (cabNum (some m.cab)), 0#8, 0#8] ∧
        t.token = Token.plain m.cab ∧ t.mode.mode = .drive ∧ Flagged t .token ∧ Flagged t .mode ∧
        (∀ b, (t.brk.get b).state.energized = true → (t.brk.get b).state = (s.brk.get b).state) ∧ t.doors = s.doors ∧
        (∀ r, (s.port m.cab).controls = some r → t.brk.terms.driver = r.lever) ∧
        SameSetup s t ∧ t.refusal = s.refusal ∧ t.pos = s.pos ∧ t.handler = s.handler ∧ t.lineCode = s.lineCode ∧
        t.mon = s.mon
     else exec (.openCab m) s = .next (s.refused 6#8 m .stateFails))

/-- R138, R139, R140: what CLOSE_CAB, LEND_DRIVE and RETURN_DRIVE make of the token, and where each is refused STATE or BUSY.
The mode is DRIVE while a cab drives. CLOSE_CAB, LEND_DRIVE, RETURN_DRIVE. -/
def Obligations.TokenPassesBetweenTheCabs : Prop :=
  ∀ (s : State) (m : CabMsg), TokenLaw s → DriveLaw s →
    (s.admits 7#8 m = true →
      if s.token.driving = some m.cab ∧ s.pos.standstill = true then
        ∃ t, exec (.closeCab m) s = .next t ∧ Answers s t 7#8 m .ok t.token.octets ∧
          t.token = (match s.token.lendLink with
            | some l => if s.eligible l then Token.plain l else Token.nobody
            | none => Token.nobody) ∧
          (t.mode.mode = .drive ↔ t.token.driving ≠ none) ∧
          (t.token.driving = none → t.mode.mode = .ready ∧ t.brk.hold.state.energized = false) ∧
          t.brk.causes.driveLost = s.brk.causes.driveLost ∧ Flagged t .token ∧
          SameSetup s t ∧ t.refusal = s.refusal ∧ t.pos = s.pos ∧ t.doors = s.doors ∧ t.handler = s.handler
      else exec (.closeCab m) s = .next (s.refused 7#8 m .stateFails)) ∧
    (s.admits 8#8 m = true →
      if s.token.driving = some m.cab ∧ s.token.lendLink ≠ none then
        exec (.lendDrive m) s = .next (s.refused 8#8 m .busy)
      else if s.token.driving = some m.cab ∧ s.pos.standstill = true ∧ s.brk.hold.state = .applied ∧
          s.eligible (otherCab m.cab) = true then
        ∃ t, exec (.lendDrive m) s = .next t ∧ Answers s t 8#8 m .ok t.token.octets ∧ t.token = Token.lent m.cab ∧
          t.mode.mode = .drive ∧ Flagged t .token ∧ t.brk.hold.state = .applied ∧
          SameSetup s t ∧ t.refusal = s.refusal ∧ t.pos = s.pos ∧ t.doors = s.doors ∧ t.handler = s.handler
      else exec (.lendDrive m) s = .next (s.refused 8#8 m .stateFails)) ∧
    (s.admits 9#8 m = true →
      if s.token.driving = some m.cab ∧ s.token.lendLink = some (otherCab m.cab) ∧ s.pos.standstill = true ∧
          s.eligible (otherCab m.cab) = true then
        ∃ t, exec (.returnDrive m) s = .next t ∧ Answers s t 9#8 m .ok t.token.octets ∧
          t.token = Token.plain (otherCab m.cab) ∧ t.mode.mode = .drive ∧ Flagged t .token ∧
          SameSetup s t ∧ t.refusal = s.refusal ∧ t.pos = s.pos ∧ t.doors = s.doors ∧ t.handler = s.handler
      else exec (.returnDrive m) s = .next (s.refused 9#8 m .stateFails))

/-- R192: PARK at standstill with all leaves closed and no cause takes the car to PARKED in one step, where a window of the
watch opens with the framer's search in HUNT (R193). That an alignment held is dropped there as at a modem power event,
and that the bits are numbered afresh, is the model's reading (logs 14, 12). PARK. -/
def Obligations.ParkTakesTheCarToParked : Prop :=
  ∀ (s : State) (m : CabMsg), s.admits 23#8 m = true → TokenLaw s → DriveLaw s →
    (if s.token.driving = some m.cab ∧ s.pos.standstill = true ∧ s.doors.allClosed = true ∧
        s.brk.causes.isEmpty = true then
      ∃ t, exec (.park m) s = .next t ∧ Answers s t 23#8 m .ok [3#8] ∧
        t.token = Token.nobody ∧ t.mode.mode = .parked ∧ Flagged t .token ∧ Flagged t .mode ∧
        t.brk.rack.state.energized = false ∧ t.brk.hold.state.energized = false ∧
        t.doors.sideReleased = false ∧
        (∀ i, (t.doors.leaf i).unlockOn t.mode.mode = false ∧ (t.doors.leaf i).driveOpenOn t.mode.mode = false ∧
          (t.doors.leaf i).driveCloseOn t.mode.mode = false) ∧ t.brk.rollCount = 0 ∧ t.brk.rollRunning = true ∧ t.brk.causes.driveLost = false ∧
        t.mode.modemKey = false ∧ t.mode.modemPower = true ∧ t.mode.periodTimer = some 10000 ∧
        t.mode.window = some { elapsed := 0, closeAt := 2000 } ∧ (s.mode.modemKey = true → t.tx.frameNo = none) ∧
        t.rx.state = .hunt ∧ t.rx.search = 0 ∧
        (s.rx.state = .hunt → t.rx = { s.rx with search := 0 } ∧ t.handler = s.handler ∧ t.lineCode = s.lineCode) ∧
        (s.rx.state ≠ .hunt → t.rx.align = none ∧ t.handler = { s.handler with buffer := [] } ∧ Flagged t .radio) ∧
        (s.rx.state = .checked → s.lineCode.condition = .live → t.lineCode.condition = .held ∧
          t.lineCode.value = s.lineCode.value ∧ t.lineCode.holdTimer = some (s.params.degrade * 1000)) ∧
        (s.rx.state ≠ .checked → t.lineCode = s.lineCode) ∧
        SameSetup s t ∧ t.refusal = s.refusal ∧ t.pos = s.pos ∧ t.mon = s.mon
     else exec (.park m) s = .next (s.refused 23#8 m .stateFails))

/-- R102, R101, R103: an acknowledgement at standstill removes every kind whose condition has ended; with an emptied set the
first-cause record goes and EMERGENCY is 0. Where it removes nothing, or the car moves, it is refused STATE with the cause
set. EMERGENCY_ACK. -/
def Obligations.AcknowledgementRemovesEndedCauses : Prop :=
  ∀ (s : State) (m : CabMsg) (holds : CauseKind → Prop), s.admits 10#8 m = true →
    (∀ k, holds k ↔
      ((k = .valleyStop ∧ s.handler.stopEmergency = true) ∨
       (k = .brakeFeedback ∧ (s.brk.rack.state = .fault ∨ s.brk.hold.state = .fault)) ∨
       (k = .cabEmergency ∧ (s.upper.buttonPressed = true ∨ s.lower.buttonPressed = true)))) →
    (s.pos.standstill = true → (∃ k, s.brk.causes.has k = true ∧ ¬ holds k) →
      ∃ t, exec (.emergencyAck m) s = .next t ∧ Answers s t 10#8 m .ok t.brk.causes.octets ∧
        (∀ k, t.brk.causes.has k = true ↔ s.brk.causes.has k = true ∧ holds k) ∧
        (t.brk.causes.isEmpty = true → t.brk.first = none ∧ t.brk.terms.emergency = 0 ∧
          ((s.mode.mode = .ready ∨ s.mode.mode = .drive) → s.brk.rack.state ≠ .fault →
            t.brk.rack.state.energized = true)) ∧
        (t.brk.causes.isEmpty = false → t.brk.first = s.brk.first ∧ t.brk.rack = s.brk.rack ∧
          t.brk.terms = s.brk.terms) ∧
        Flagged t .causes ∧
        SameSetup s t ∧ SameRadio s t ∧ SameHandler s t ∧ t.token = s.token ∧ t.refusal = s.refusal ∧ t.pos = s.pos ∧
        t.line = s.line ∧ t.sup = s.sup ∧ t.contact = s.contact ∧ t.mode = s.mode) ∧
    (s.pos.standstill = false ∨ (∀ k, s.brk.causes.has k = true → holds k) →
      exec (.emergencyAck m) s =
        .next ((s.withRefusal (some { code := .stateFails, index := 10, valley := false })).answer 10#8 m .stateFails
          s.brk.causes.octets))

/-- R97, R98: HOLD_RELEASE opens the holding brake where every condition holds and is refused STATE elsewhere; HOLD_APPLY is
accepted in every mode. Both answer the state after. HOLD_RELEASE, HOLD_APPLY. -/
def Obligations.HoldingBrakeObeysTheCab : Prop :=
  ∀ (s : State) (m : CabMsg),
    (s.admits 11#8 m = true → s.token.driving = some m.cab →
      if s.doors.allClosed = true ∧ s.doors.sideReleased = false ∧ s.brk.causes.isEmpty = true ∧
          s.brk.rack.state = .released ∧ (∃ r, (s.port m.cab).controls = some r ∧ r.selector ≠ .neutral) ∧
          s.brk.hold.state ≠ .fault then
        ∃ t, exec (.holdRelease m) s = .next t ∧ Answers s t 11#8 m .ok [oct t.brk.hold.state.num] ∧
          t.brk.hold.state = (match s.brk.hold.state with
            | .released => .released
            | .releasing => .releasing
            | _ => if s.brk.hold.feedback = .clear then .released else .releasing) ∧
          t.brk.rack = s.brk.rack ∧ t.brk.terms = s.brk.terms ∧ t.brk.causes = s.brk.causes ∧
          (t.brk.hold.state ≠ s.brk.hold.state → Flagged t .brakes) ∧
          SameSetup s t ∧ SameRadio s t ∧ SameHandler s t ∧ t.token = s.token ∧ t.refusal = s.refusal ∧
          t.pos = s.pos ∧ t.line = s.line ∧ t.sup = s.sup ∧ t.contact = s.contact ∧ t.doors = s.doors ∧
          t.mode = s.mode
      else exec (.holdRelease m) s = .next (s.refused 11#8 m .stateFails)) ∧
    (s.admits 12#8 m = true →
      ∃ t, exec (.holdApply m) s = .next t ∧ Answers s t 12#8 m .ok [oct t.brk.hold.state.num] ∧
        t.brk.hold.state = (match s.brk.hold.state with
          | .released => if s.brk.hold.feedback = .applied then .applied else .applying
          | .releasing => if s.brk.hold.feedback = .applied then .applied else .applying
          | x => x) ∧
        t.brk.rack = s.brk.rack ∧ t.brk.terms = s.brk.terms ∧ t.brk.causes = s.brk.causes ∧
        (t.brk.hold.state ≠ s.brk.hold.state → Flagged t .brakes) ∧
        SameSetup s t ∧ SameRadio s t ∧ SameHandler s t ∧ t.token = s.token ∧ t.refusal = s.refusal ∧
        t.pos = s.pos ∧ t.line = s.line ∧ t.sup = s.sup ∧ t.contact = s.contact ∧ t.doors = s.doors ∧ t.mode = s.mode)

/-- R111, R112: DOOR_RELEASE sets each named side RELEASED and unlocks its CLOSED_LOCKED leaves where every condition holds,
and is refused STATE elsewhere; a code that names no side is refused RANGE, without the profile state and the extent being
judged (the model's reading, log 16). DOOR_RELEASE. -/
def Obligations.DoorReleaseReleasesTheNamedSides : Prop :=
  ∀ (s : State) (m : CabMsg) (code : Octet) (rest : List Octet),
    s.admits 13#8 m = true → m.payload = code :: rest →
    if s.mode.mode ≠ .parked ∧ s.mode.mode ≠ .waking ∧ s.pos.standstill = true ∧ s.brk.hold.state = .applied ∧
        ((∃ p ∈ s.extentSpans, s.params.doorGradient < p.seg.gradient.natAbs) → s.brk.rack.state = .applied) ∧
        s.pos.confidence = .confirmed then
      match sidesOf code.toNat with
      | none => exec (.doorRelease m) s = .next (s.refused 13#8 m .range)
      | some sides =>
        if s.line.profile = .valid ∧ s.params.carLength ≤ s.pos.count ∧ s.pos.count ≤ s.line.lineEnd ∧
            (∀ d ∈ sides, ∀ p ∈ s.extentSpans, p.seg.side = .both ∨ p.seg.side = (match d with | .a => .a | .b => .b)) then
          ∃ t, exec (.doorRelease m) s = .next t ∧ Answers s t 13#8 m .ok t.doors.states ∧
            (∀ d, t.doors.side d = if d ∈ sides then .released else s.doors.side d) ∧
            (∀ i, if leafSide i ∈ sides ∧ s.doors.side (leafSide i) = .locked ∧
                (s.doors.leaf i).state = .closedLocked then
                (t.doors.leaf i).state = .closedUnlocked
              else t.doors.leaf i = s.doors.leaf i) ∧
            (t.doors ≠ s.doors → Flagged t .doors) ∧ t.brk = s.brk ∧ t.valves = s.valves ∧
            SameSetup s t ∧ SameRadio s t ∧ SameHandler s t ∧ t.token = s.token ∧ t.refusal = s.refusal ∧
            t.pos = s.pos ∧ t.line = s.line ∧ t.sup = s.sup ∧ t.contact = s.contact ∧ t.mode = s.mode
        else exec (.doorRelease m) s = .next (s.refused 13#8 m .stateFails)
    else exec (.doorRelease m) s = .next (s.refused 13#8 m .stateFails)

/-- R113: DOOR_CLOSE from a cab and DOORS_CLOSE from the valley lock the named sides and send every open leaf to
CLOSING with its count at 0; a leaf in FAULT with its switch LOCKED goes to CLOSED_LOCKED. Said of leaves whose locked
switch and edge do not act at the entry, and of leaves in FAULT. DOOR_CLOSE, DOORS_CLOSE. That a close acts on the
leaves of a side already LOCKED is the model's reading (log 17). -/
def Obligations.DoorCloseClosesTheNamedSides : Prop :=
  ∀ (s : State),
    (∀ (m : CabMsg) (code : Octet) (rest : List Octet) (sides : List SideId),
      s.admits 14#8 m = true → m.payload = code :: rest → sidesOf code.toNat = some sides →
      ∃ t, exec (.doorClose m) s = .next t ∧ Answers s t 14#8 m .ok t.doors.states ∧
        (∀ d, t.doors.side d = if d ∈ sides then .locked else s.doors.side d) ∧
        (∀ i, leafSide i ∈ sides →
          ((s.doors.leaf i).locked = false → (s.doors.leaf i).edge = false →
            ((t.doors.leaf i).state, (t.doors.leaf i).reversals) = closedBy (s.doors.leaf i) ∧
            ((t.doors.leaf i).state = .closing → (t.doors.leaf i).timer = some 8000)) ∧
          ((s.doors.leaf i).locked = true → (s.doors.leaf i).state = .fault →
            (t.doors.leaf i).state = .closedLocked)) ∧
        (∀ i, leafSide i ∉ sides → t.doors.leaf i = s.doors.leaf i) ∧
        SameSetup s t ∧ SameRadio s t ∧ SameHandler s t ∧ t.token = s.token ∧ t.refusal = s.refusal ∧
        t.pos = s.pos ∧ t.line = s.line ∧ t.sup = s.sup ∧ t.contact = s.contact ∧ t.mode = s.mode) ∧
    (∀ (m : CabMsg) (code : Octet) (rest : List Octet),
      s.admits 14#8 m = true → m.payload = code :: rest → 2 < code.toNat →
      exec (.doorClose m) s = .next (s.refused 14#8 m .range)) ∧
    (∀ m : ValleyMsg, s.takes 38#8 m = true →
      ∃ t, exec (.doorsClose m) s = .next t ∧ Heard s t ∧ t.doors.sideReleased = false ∧
        t.handler = { s.handler with outcomes := s.handler.outcomes.acceptedBy m.order } ∧
        (∀ i, ((s.doors.leaf i).locked = false → (s.doors.leaf i).edge = false →
            ((t.doors.leaf i).state, (t.doors.leaf i).reversals) = closedBy (s.doors.leaf i)) ∧
          ((s.doors.leaf i).locked = true → (s.doors.leaf i).state = .fault →
            (t.doors.leaf i).state = .closedLocked)) ∧
        SameSetup s t ∧ SameRadio s t ∧ t.token = s.token ∧ t.refusal = s.refusal ∧ t.upper = s.upper ∧
        t.lower = s.lower ∧ t.pos = s.pos ∧ t.line = s.line ∧ t.mon = s.mon)

/-- R123: DOOR_ISOLATE on takes a leaf whose switch reads LOCKED to ISOLATED and is refused STATE where it reads
UNLOCKED; off takes an ISOLATED leaf on to its place. A code for no leaf, or a setting that is neither, is refused
RANGE. DOOR_ISOLATE_ON, DOOR_ISOLATE_OFF. Which row a setting that is neither on nor off belongs to is the model's
choice (log 23). -/
def Obligations.IsolationFollowsTheLockedSwitch : Prop :=
  ∀ (s : State) (m : CabMsg) (code setting : Octet) (rest : List Octet),
    s.admits 15#8 m = true → m.payload = code :: setting :: rest →
    match leafOf code.toNat with
    | none =>
      exec (if setting = 0#8 then .doorIsolateOff m else .doorIsolateOn m) s = .next (s.refused 15#8 m .range)
    | some i =>
      if 1 < setting.toNat then exec (.doorIsolateOn m) s = .next (s.refused 15#8 m .range)
      else if setting = 1#8 then
        if (s.doors.leaf i).state = .isolated then exec (.doorIsolateOn m) s = .next (s.answer 15#8 m .ok [8#8])
        else if (s.doors.leaf i).locked = false then exec (.doorIsolateOn m) s = .next (s.refused 15#8 m .stateFails)
        else
          ∃ t, exec (.doorIsolateOn m) s = .next t ∧ Answers s t 15#8 m .ok [8#8] ∧
            t.doors = s.doors.putLeaf i { s.doors.leaf i with state := .isolated, timer := none, reversals := 0 } ∧
            Flagged t .doors ∧ t.brk = s.brk ∧ t.valves = s.valves ∧
            SameSetup s t ∧ SameRadio s t ∧ SameHandler s t ∧ t.token = s.token ∧ t.refusal = s.refusal ∧
            t.pos = s.pos ∧ t.line = s.line ∧ t.sup = s.sup ∧ t.contact = s.contact ∧ t.mode = s.mode
      else if (s.doors.leaf i).state = .isolated then
        ((s.doors.leaf i).locked = true →
          ∃ t, exec (.doorIsolateOff m) s = .next t ∧
            Answers s t 15#8 m .ok
              [if s.doors.side (leafSide i) = .released then 1#8 else 0#8] ∧
            (t.doors.leaf i).state =
              (if s.doors.side (leafSide i) = .released then .closedUnlocked else .closedLocked) ∧
            (∀ j, j ≠ i → t.doors.leaf j = s.doors.leaf j) ∧ Flagged t .doors ∧
            SameSetup s t ∧ SameRadio s t ∧ SameHandler s t ∧ t.token = s.token ∧ t.refusal = s.refusal ∧
            t.pos = s.pos ∧ t.line = s.line ∧ t.sup = s.sup ∧ t.contact = s.contact ∧ t.mode = s.mode)
      else exec (.doorIsolateOff m) s = .next (s.refused 15#8 m .stateFails)

/-! ## The line profile -/

/-- R6: an accepted PROFILE_BEGIN empties the line record, makes the requester the loader and the mode CONFIG; elsewhere it is
refused BUSY or STATE. PROFILE_BEGIN. -/
def Obligations.ProfileBeginEmptiesTheLineRecord : Prop :=
  ∀ (s : State) (m : CabMsg), s.admits 16#8 m = true →
    if s.line.profile = .loading ∧ s.line.loader ≠ some m.cab then
      exec (.profileBegin m) s = .next (s.refused 16#8 m .busy)
    else if s.pos.standstill = true ∧ s.token.driving = none ∧ (s.mode.mode = .ready ∨ s.mode.mode = .config) then
      ∃ t, exec (.profileBegin m) s = .next t ∧ Answers s t 16#8 m .ok [] ∧
        t.line = { profile := .loading, loader := some m.cab, segCount := 0, mkrCount := 0, lineEnd := 0, version := 0,
                   storeCheck := 0#16, segments := [], markers := [], verifyTimer := none, restrictions := [],
                   overflow := none, authority := none } ∧
        t.mode.mode = .config ∧ t.sup.permitted = 0 ∧ t.sup.limiting = .noProfile ∧ t.contact.shadow = false ∧
        (t.handler.versionInd = true ↔ ∃ v, s.handler.lineVersion = some v ∧ v ≠ 0) ∧ Flagged t .lineRecord ∧
        (s.mode.mode = .ready → Flagged t .mode ∧ t.brk.rack.state.energized = false ∧
          t.brk.hold.state.energized = false) ∧
        SameSetup s t ∧ t.refusal = s.refusal ∧ t.pos = s.pos ∧ t.token = s.token ∧ t.doors = s.doors ∧
        t.lineCode = s.lineCode ∧ t.mon = s.mon
    else exec (.profileBegin m) s = .next (s.refused 16#8 m .stateFails)

/-- R7, R8: in a load of its own a cab writes the carried entry at the carried index; an index or field out of range, or a
payload too short for the fields, is refused RANGE with the table as it was; BUSY in the other cab's load and STATE without
a load. PROFILE_SEGMENT, PROFILE_MARKER. -/
def Obligations.LoadingWritesOneEntry : Prop :=
  ∀ (s : State) (m : CabMsg),
    (s.line.profile = .loading → s.line.loader = some m.cab →
      (∀ (i : Nat) (g : Segment) (rest : List Octet), s.admits 17#8 m = true →
        i ≤ 255 → g.start ≤ 99999 → -480 ≤ g.gradient → g.gradient ≤ 480 → g.limitUp ≤ 1200 → g.limitDown ≤ 1200 →
        g.station ≤ 63 → m.payload = oct2 i ++ g.store ++ rest →
        ∃ t, exec (.profileSegment m) s = .next t ∧ Answers s t 17#8 m .ok [] ∧
          t.line = { s.line with segments := t.line.segments } ∧ t.line.segments.get i = some g ∧
          (∀ j, j ≠ i → t.line.segments.get j = s.line.segments.get j) ∧ Flagged t .lineRecord ∧
          SameSetup s t ∧ SameRadio s t ∧ SameHandler s t ∧ t.token = s.token ∧ t.refusal = s.refusal ∧
          t.pos = s.pos ∧ t.sup = s.sup ∧ t.contact = s.contact ∧ t.brk = s.brk ∧ t.doors = s.doors ∧
          t.mode = s.mode) ∧
      (∀ (i p : Nat) (rest : List Octet), s.admits 18#8 m = true → i ≤ 127 → p ≤ 99999 →
        m.payload = oct2 i ++ oct3 p ++ rest →
        ∃ t, exec (.profileMarker m) s = .next t ∧ Answers s t 18#8 m .ok [] ∧
          t.line = { s.line with markers := t.line.markers } ∧ t.line.markers.get i = some p ∧
          (∀ j, j ≠ i → t.line.markers.get j = s.line.markers.get j) ∧ Flagged t .lineRecord ∧
          SameSetup s t ∧ SameRadio s t ∧ SameHandler s t ∧ t.token = s.token ∧ t.refusal = s.refusal ∧
          t.pos = s.pos ∧ t.sup = s.sup ∧ t.contact = s.contact ∧ t.brk = s.brk ∧ t.doors = s.doors ∧
          t.mode = s.mode) ∧
      (s.admits 17#8 m = true →
        m.payload.length < 13 ∨
          (∃ i1 i2 p1 p2 p3 g1 g2 u1 u2 d1 d2 f st rest,
            m.payload = i1 :: i2 :: p1 :: p2 :: p3 :: g1 :: g2 :: u1 :: u2 :: d1 :: d2 :: f :: st :: rest ∧
            (255 < i1.toNat * 256 + i2.toNat ∨ 99999 < p1.toNat * 65536 + p2.toNat * 256 + p3.toNat ∨
              (g1.toNat < 128 ∧ 480 < g1.toNat * 256 + g2.toNat) ∨
              (128 ≤ g1.toNat ∧ g1.toNat * 256 + g2.toNat < 65536 - 480) ∨
              1200 < u1.toNat * 256 + u2.toNat ∨ 1200 < d1.toNat * 256 + d2.toNat ∨ 7 < f.toNat ∨ 63 < st.toNat)) →
        exec (.profileSegment m) s = .next (s.refused 17#8 m .range)) ∧
      (s.admits 18#8 m = true →
        m.payload.length < 5 ∨
          (∃ i1 i2 p1 p2 p3 rest, m.payload = i1 :: i2 :: p1 :: p2 :: p3 :: rest ∧
            (127 < i1.toNat * 256 + i2.toNat ∨ 99999 < p1.toNat * 65536 + p2.toNat * 256 + p3.toNat)) →
        exec (.profileMarker m) s = .next (s.refused 18#8 m .range))) ∧
    (s.line.profile ≠ .loading ∨ s.line.loader ≠ some m.cab →
      (s.admits 17#8 m = true →
        exec (.profileSegment m) s =
          .next (s.refused 17#8 m (if s.line.profile = .loading then .busy else .stateFails))) ∧
      (s.admits 18#8 m = true →
        exec (.profileMarker m) s =
          .next (s.refused 18#8 m (if s.line.profile = .loading then .busy else .stateFails))))

/-- R9, R11: a commit whose entries pass validation seals the profile: the carried fields are recorded, entries at or above
the counts are emptied, the store check is that of the entries left, the loader is cleared, the mode is READY.
PROFILE_COMMIT. -/
def Obligations.CommitSealsAValidLoad : Prop :=
  ∀ (s : State) (m : CabMsg) (k : Commit) (rest : List Octet),
    s.admits 19#8 m = true → s.line.profile = .loading → s.line.loader = some m.cab → s.mode.mode = .config →
    m.payload = oct2 k.segCount ++ oct2 k.mkrCount ++ oct3 k.lineEnd ++ oct2 k.version ++ rest →
    1 ≤ k.segCount → k.segCount ≤ 256 → k.mkrCount ≤ 128 → 100 ≤ k.lineEnd → k.lineEnd ≤ 99999 →
    1 ≤ k.version → k.version ≤ 65535 →
    (∀ i, i < k.segCount → s.line.segmentPasses k.lineEnd i) → (∀ i, i < k.mkrCount → s.line.markerPasses k.lineEnd i) →
    ∃ t, exec (.profileCommit m) s = .next t ∧
      Answers s t 19#8 m .ok (oct2 k.version ++ crcOctets t.line.storeCheck) ∧
      t.line.profile = .valid ∧ t.line.loader = none ∧ t.line.segCount = k.segCount ∧ t.line.mkrCount = k.mkrCount ∧
      t.line.lineEnd = k.lineEnd ∧ t.line.version = k.version ∧ t.line.verifyTimer = some 10000 ∧
      (∀ i, i < k.segCount → t.line.segments.get i = s.line.segments.get i) ∧
      (∀ e ∈ t.line.segments, e.1 < k.segCount) ∧
      (∀ i, i < k.mkrCount → t.line.markers.get i = s.line.markers.get i) ∧ (∀ e ∈ t.line.markers, e.1 < k.mkrCount) ∧
      t.line.storeCheck = crc16 ((t.line.segments.map fun e => e.2.store).flatten
        ++ (t.line.markers.map fun e => markerStore e.2).flatten) ∧
      t.mode.mode = .ready ∧ Flagged t .lineRecord ∧ Flagged t .mode ∧
      (t.handler.versionInd = true ↔ ∃ v, s.handler.lineVersion = some v ∧ v ≠ k.version) ∧
      SameSetup s t ∧ t.refusal = s.refusal ∧ t.pos = s.pos ∧ t.token = s.token ∧ t.mon = s.mon

/-- R9, R10: a commit out of place or out of range is refused with the load unchanged; one whose validation fails is
refused STATE with the detail of the first check of Table 1-4 that fails, the segment table before the marker list and
each in index order, and only the LINE_RECORD flags change. The index is any below its count; the reasons are 0 UNWRITTEN,
1 NOT_AT_ZERO, 2 NOT_INCREASING, 3 BEYOND_END. PROFILE_COMMIT. That a refusal by a condition carries no payload is the
model's reading (log 9). -/
def Obligations.FailedCommitKeepsTheLoad : Prop :=
  ∀ (s : State) (m : CabMsg) (k : Commit) (rest : List Octet),
    s.admits 19#8 m = true →
    m.payload = oct2 k.segCount ++ oct2 k.mkrCount ++ oct3 k.lineEnd ++ oct2 k.version ++ rest →
    k.segCount ≤ 65535 → k.mkrCount ≤ 65535 → k.lineEnd ≤ 16777215 → k.version ≤ 65535 →
    (s.line.profile ≠ .loading → exec (.profileCommit m) s = .next (s.refused 19#8 m .stateFails)) ∧
    (s.line.profile = .loading → s.line.loader ≠ some m.cab →
      exec (.profileCommit m) s = .next (s.refused 19#8 m .busy)) ∧
    (s.line.profile = .loading → s.line.loader = some m.cab →
      (k.segCount = 0 ∨ 256 < k.segCount ∨ 128 < k.mkrCount ∨ k.lineEnd < 100 ∨ 99999 < k.lineEnd ∨ k.version = 0 →
        exec (.profileCommit m) s = .next (s.refused 19#8 m .range)) ∧
      (1 ≤ k.segCount → k.segCount ≤ 256 → k.mkrCount ≤ 128 → 100 ≤ k.lineEnd → k.lineEnd ≤ 99999 → 1 ≤ k.version →
        ∀ (table reason : Octet) (i : Nat),
          ((table = 0#8 ∧ i < k.segCount ∧ (∀ j, j < i → s.line.segmentPasses k.lineEnd j) ∧
              s.line.segmentFails k.lineEnd i reason) ∨
            (table = 1#8 ∧ i < k.mkrCount ∧ (∀ j, j < k.segCount → s.line.segmentPasses k.lineEnd j) ∧
              (∀ j, j < i → s.line.markerPasses k.lineEnd j) ∧ s.line.markerFails k.lineEnd i reason)) →
          exec (.profileCommit m) s =
            .next (((s.flag .lineRecord).withRefusal (some { code := .stateFails, index := 19, valley := false })).answer
              19#8 m .stateFails (table :: oct2 i ++ [reason]))))

/-- R32, R52: SET_POSITION at standstill under a committed profile declares the carried position and removes the authority.
SET_POSITION. -/
def Obligations.SetPositionDeclaresTheCount : Prop :=
  ∀ (s : State) (m : CabMsg) (p : Nat) (rest : List Octet),
    s.admits 20#8 m = true → p ≤ 16777215 → m.payload = oct3 p ++ rest →
    if s.pos.standstill = false ∨ s.line.profile ≠ .valid then
      exec (.setPosition m) s = .next (s.refused 20#8 m .stateFails)
    else if p < s.params.carLength ∨ s.line.lineEnd < p then
      exec (.setPosition m) s = .next (s.refused 20#8 m .range)
    else
      ∃ t, exec (.setPosition m) s = .next t ∧ Answers s t 20#8 m .ok [] ∧
        t.pos = { s.pos with count := p, confidence := .declared, distance := 0, correction := 0 } ∧
        t.line = { s.line with authority := none } ∧ (s.line.authority.isSome = true → Flagged t .lineRecord) ∧
        (s.pos.confidence = .confirmed → t.doors.sideReleased = false) ∧ t.sup.targets = [] ∧
        t.sup.passedMark = false ∧
        SameSetup s t ∧ SameRadio s t ∧ t.token = s.token ∧ t.refusal = s.refusal ∧ t.handler = s.handler ∧
        t.mon = s.mon ∧ t.mode = s.mode

/-! ## Restrictions and the authority -/

/-- R40, R41: an insertion in range is stored clipped to the line and clamped, replacing the entry of its id or taking its
place in id order, answered OK or CLAMPED. R39, R40: without a committed profile it is refused STATE, and with an id, a
span or a place out of range it is refused RANGE, with the list and the overflow record as they were. CAB_RESTRICT,
RESTRICT. -/
def Obligations.InsertionStoresTheClippedEntry : Prop :=
  ∀ (s : State) (id start stop limit : Nat) (rest : List Octet),
    id ≤ 255 → start ≤ 16777215 → stop ≤ 16777215 → limit ≤ 65535 →
    (s.line.profile = .valid → RestrictionLaw s →
      (s.line.restrictions.length < 16 ∨ ∃ r ∈ s.line.restrictions, r.id = id) →
      1 ≤ id → start < stop → stop ≤ 99999 → start < s.line.lineEnd →
      (∀ m : CabMsg, s.admits 21#8 m = true → m.payload = oct id :: oct3 start ++ oct3 stop ++ oct2 limit ++ rest →
        ∃ t, exec (.cabRestrict m) s = .next t ∧
          Answers s t 21#8 m (if stop ≤ s.line.lineEnd ∧ limit ≤ 1200 then .ok else .clamped)
            [oct id, oct t.line.restrictions.length] ∧
          (∀ r, r ∈ t.line.restrictions ↔
            r = { id := id, start := start, stop := min stop s.line.lineEnd, limit := min limit 1200, origin := .cab m.cab } ∨
            (r ∈ s.line.restrictions ∧ r.id ≠ id)) ∧
          RestrictionLaw t ∧ t.line.overflow = s.line.overflow ∧ Flagged t .lineRecord ∧
          SameSetup s t ∧ SameRadio s t ∧ t.refusal = s.refusal ∧ t.token = s.token ∧ t.pos = s.pos ∧
          t.doors = s.doors ∧ t.handler = s.handler ∧ t.mon = s.mon ∧ t.mode = s.mode) ∧
      (∀ m : ValleyMsg, s.takes 34#8 m = true → m.payload = oct id :: oct3 start ++ oct3 stop ++ oct2 limit ++ rest →
        ∃ t, exec (.restrict m) s = .next t ∧ t.mode = { s.mode with window := s.mode.window.map Window.moved } ∧
          t.handler = { s.handler with outcomes := s.handler.outcomes.acceptedBy m.order } ∧
          (∀ r, r ∈ t.line.restrictions ↔
            r = { id := id, start := start, stop := min stop s.line.lineEnd, limit := min limit 1200, origin := .valley } ∨
            (r ∈ s.line.restrictions ∧ r.id ≠ id)) ∧
          RestrictionLaw t ∧ t.line.overflow = s.line.overflow ∧ Flagged t .lineRecord ∧
          SameSetup s t ∧ SameRadio s t ∧ t.refusal = s.refusal ∧ t.token = s.token ∧ t.pos = s.pos ∧
          t.doors = s.doors ∧ t.mon = s.mon ∧ t.upper = s.upper ∧ t.lower = s.lower)) ∧
    (∀ code, (s.line.profile ≠ .valid ∧ code = .stateFails) ∨
        (s.line.profile = .valid ∧ code = .range ∧
          (s.line.restrictions.length < 16 ∨ ∃ r ∈ s.line.restrictions, r.id = id) ∧
          (id = 0 ∨ 99999 < start ∨ 99999 < stop ∨ stop ≤ start ∨ s.line.lineEnd ≤ start)) →
      (∀ m : CabMsg, s.admits 21#8 m = true → m.payload = oct id :: oct3 start ++ oct3 stop ++ oct2 limit ++ rest →
        exec (.cabRestrict m) s = .next (s.refused 21#8 m code)) ∧
      (∀ m : ValleyMsg, s.takes 34#8 m = true → m.payload = oct id :: oct3 start ++ oct3 stop ++ oct2 limit ++ rest →
        ∃ t, exec (.restrict m) s = .next t ∧ Heard s t ∧
          t.handler = { s.handler with outcomes := s.handler.outcomes.refusedBy m.order code } ∧
          t.refusal = some { code := code, index := 34, valley := true } ∧ t.line = s.line ∧
          SameSetup s t ∧ SameRadio s t ∧ t.token = s.token ∧ t.pos = s.pos ∧ t.doors = s.doors ∧ t.mon = s.mon ∧
          t.upper = s.upper ∧ t.lower = s.lower))

/-- R42: an insertion refused FULL is folded into the overflow record, and the list stays; the id is not looked at. The
answer to a cab shows the record, and an order is recorded as refused. Where the entry describes no span nothing is folded,
and the answer is FULL all the same. R5, R47: a fold that changes the record sets the LINE_RECORD flags of both cabs; one
that leaves it as it was is not reported, and changes nothing but what the refusal does (deduced, log 41). CAB_RESTRICT,
RESTRICT. -/
def Obligations.FullInsertionFoldsIntoTheOverflow : Prop :=
  ∀ (s : State) (id start stop limit : Nat) (rest : List Octet),
    s.line.profile = .valid → 16 ≤ s.line.restrictions.length → (∀ r ∈ s.line.restrictions, r.id ≠ id) →
    id ≤ 255 → start ≤ 16777215 → stop ≤ 16777215 → limit ≤ 65535 →
    (start < stop → stop ≤ 99999 → start < s.line.lineEnd →
      ∀ o, o = (match s.line.overflow with
          | none => { start := start, stop := min stop s.line.lineEnd, limit := min limit 1200, folded := 1 }
          | some p => { start := min p.start start, stop := max p.stop (min stop s.line.lineEnd),
                        limit := min p.limit (min limit 1200), folded := min 255 (p.folded + 1) } : Overflow) →
      (∀ m : CabMsg, s.admits 21#8 m = true → m.payload = oct id :: oct3 start ++ oct3 stop ++ oct2 limit ++ rest →
        ∃ t, exec (.cabRestrict m) s = .next t ∧ t.line = { s.line with overflow := some o, authority := t.line.authority } ∧
          Answers s t 21#8 m .full (1#8 :: oct3 o.start ++ oct3 o.stop ++ oct2 o.limit ++ [oct o.folded]) ∧
          (s.line.overflow ≠ some o → Flagged t .lineRecord) ∧
          (s.line.overflow = some o →
            t = (s.withRefusal (some { code := .full, index := 21, valley := false })).answer 21#8 m .full
              (1#8 :: oct3 o.start ++ oct3 o.stop ++ oct2 o.limit ++ [oct o.folded])) ∧
          t.refusal = some { code := .full, index := 21, valley := false } ∧
          SameSetup s t ∧ SameRadio s t ∧ t.token = s.token ∧ t.pos = s.pos ∧ t.doors = s.doors ∧
          t.handler = s.handler ∧ t.mon = s.mon ∧ t.mode = s.mode) ∧
      (∀ m : ValleyMsg, s.takes 34#8 m = true → m.payload = oct id :: oct3 start ++ oct3 stop ++ oct2 limit ++ rest →
        ∃ t, exec (.restrict m) s = .next t ∧ t.line = { s.line with overflow := some o, authority := t.line.authority } ∧
          (s.line.overflow ≠ some o → Flagged t .lineRecord) ∧
          (s.line.overflow = some o → Heard s t ∧ t.line = s.line ∧
            t.flags.upper.lineRecord = s.flags.upper.lineRecord ∧
            t.flags.lower.lineRecord = s.flags.lower.lineRecord) ∧
          t.refusal = some { code := .full, index := 34, valley := true } ∧
          t.handler = { s.handler with outcomes := s.handler.outcomes.refusedBy m.order .full } ∧
          t.mode = { s.mode with window := s.mode.window.map Window.moved } ∧
          SameSetup s t ∧ SameRadio s t ∧ t.token = s.token ∧ t.pos = s.pos ∧ t.doors = s.doors ∧ t.mon = s.mon ∧
          t.upper = s.upper ∧ t.lower = s.lower)) ∧
    (stop ≤ start ∨ 99999 < start ∨ 99999 < stop ∨ s.line.lineEnd ≤ start →
      (∀ m : CabMsg, s.admits 21#8 m = true → m.payload = oct id :: oct3 start ++ oct3 stop ++ oct2 limit ++ rest →
        exec (.cabRestrict m) s =
          .next ((s.withRefusal (some { code := .full, index := 21, valley := false })).answer 21#8 m .full
            (match s.line.overflow with
              | some o => 1#8 :: oct3 o.start ++ oct3 o.stop ++ oct2 o.limit ++ [oct o.folded]
              | none => List.replicate 10 0#8))) ∧
      (∀ m : ValleyMsg, s.takes 34#8 m = true → m.payload = oct id :: oct3 start ++ oct3 stop ++ oct2 limit ++ rest →
        ∃ t, exec (.restrict m) s = .next t ∧ Heard s t ∧ t.line = s.line ∧
          t.refusal = some { code := .full, index := 34, valley := true } ∧
          t.handler = { s.handler with outcomes := s.handler.outcomes.refusedBy m.order .full } ∧
          SameSetup s t ∧ SameRadio s t ∧ t.token = s.token ∧ t.pos = s.pos ∧ t.doors = s.doors ∧ t.mon = s.mon ∧
          t.upper = s.upper ∧ t.lower = s.lower))

/-- R44, R45, R46: a lift removes the entry of its id, a cab's only of its own origin; CLEAR_OVERFLOW removes the overflow
record. CAB_LIFT, LIFT, CLEAR_OVERFLOW. -/
def Obligations.LiftsRemoveWhatTheyName : Prop :=
  ∀ (s : State) (id : Octet) (rest : List Octet),
    (∀ m : CabMsg, s.admits 22#8 m = true → m.payload = id :: rest →
      if s.line.profile ≠ .valid then exec (.cabLift m) s = .next (s.refused 22#8 m .stateFails)
      else if id = 0#8 then exec (.cabLift m) s = .next (s.refused 22#8 m .range)
      else
        match s.line.restriction id.toNat with
        | none => exec (.cabLift m) s = .next (s.refused 22#8 m .unknownId)
        | some r =>
          if r.origin ≠ .cab m.cab then exec (.cabLift m) s = .next (s.refused 22#8 m .origin)
          else
            ∃ t, exec (.cabLift m) s = .next t ∧ Answers s t 22#8 m .ok [oct t.line.restrictions.length] ∧
              (∀ x, x ∈ t.line.restrictions ↔ x ∈ s.line.restrictions ∧ x.id ≠ id.toNat) ∧
              t.line.overflow = s.line.overflow ∧ Flagged t .lineRecord ∧
              SameSetup s t ∧ SameRadio s t ∧ t.refusal = s.refusal ∧ t.token = s.token ∧ t.pos = s.pos ∧
              t.doors = s.doors ∧ t.handler = s.handler ∧ t.mon = s.mon ∧ t.mode = s.mode) ∧
    (∀ m : ValleyMsg, s.takes 35#8 m = true → m.payload = id :: rest →
      ∃ t code, exec (.lift m) s = .next t ∧
        code = (if s.line.profile ≠ .valid then .stateFails
          else if id = 0#8 then .range
          else if s.line.restriction id.toNat = none then .unknownId
          else ResultCode.ok) ∧
        t.handler = { s.handler with outcomes :=
          if code = .ok then s.handler.outcomes.acceptedBy m.order else s.handler.outcomes.refusedBy m.order code } ∧
        t.refusal = (if code = .ok then s.refusal else some { code := code, index := 35, valley := true }) ∧
        (code = .ok →
          (∀ x, x ∈ t.line.restrictions ↔ x ∈ s.line.restrictions ∧ x.id ≠ id.toNat) ∧ Flagged t .lineRecord) ∧
        (code ≠ .ok → t.line = s.line) ∧ t.line.overflow = s.line.overflow ∧
        SameSetup s t ∧ SameRadio s t ∧ t.token = s.token ∧ t.pos = s.pos ∧
        t.doors = s.doors ∧ t.mon = s.mon ∧ t.upper = s.upper ∧ t.lower = s.lower) ∧
    (∀ m : ValleyMsg, s.takes 39#8 m = true →
      ∃ t, exec (.clearOverflow m) s = .next t ∧ t.line.overflow = none ∧
        t.line.restrictions = s.line.restrictions ∧ Flagged t .lineRecord ∧
        t.handler = { s.handler with outcomes := s.handler.outcomes.acceptedBy m.order } ∧
        SameSetup s t ∧ SameRadio s t ∧ t.refusal = s.refusal ∧ t.token = s.token ∧ t.pos = s.pos ∧
        t.doors = s.doors ∧ t.mon = s.mon ∧ t.upper = s.upper ∧ t.lower = s.lower)

/-- R49, R50, R51: an AUTHORITY with a direction is judged in its order; accepted, it stands as carried with its void flag
clear (the void thresholds being above 0), and adds EOA_PASSED where the front end has passed the new EOA. AUTHORITY. -/
def Obligations.AuthorityIsJudgedInOrder : Prop :=
  ∀ (s : State) (m : ValleyMsg) (d : Dir) (eoa number version : Nat) (rest : List Octet),
    s.takes 33#8 m = true → eoa ≤ 16777215 → number ≤ 255 → version ≤ 65535 →
    m.payload = oct (dirNum (some d)) :: oct3 eoa ++ oct number :: oct2 version ++ rest →
    ∃ t code, exec (.authority m) s = .next t ∧
      code = (if s.line.profile ≠ .valid then .stateFails
        else if (∃ a, s.line.authority = some a ∧ a.void = false ∧ a.number = number) then .ok
        else if s.pos.confidence = .unknown ∨ s.pos.confidence = .declared then .stateFails
        else if version ≠ s.line.version then .version
        else if (∃ a, s.line.authority = some a ∧ a.dir ≠ d) ∧ s.pos.standstill = false then .stateFails
        else if s.line.lineEnd < eoa then .range
        else .ok) ∧
      t.handler = { s.handler with outcomes :=
        if code = .ok then s.handler.outcomes.acceptedBy m.order else s.handler.outcomes.refusedBy m.order code } ∧
      t.refusal = (if code = .ok then s.refusal else some { code := code, index := 33, valley := true }) ∧
      (code = .ok → (∃ a, s.line.authority = some a ∧ a.void = false ∧ a.number = number) ∨
        (Flagged t .lineRecord ∧
          (∃ a, t.line.authority = some a ∧ a.dir = d ∧ a.eoa = eoa ∧ a.number = number ∧
            (0 < s.params.void → 0 < s.params.shadowVoid → a.void = false)) ∧
          ((match d with
              | .up => eoa < s.pos.count
              | .down => (s.pos.count : Int) - s.params.carLength < eoa) →
            t.brk.causes.eoaPassed = true))) ∧
      (code ≠ .ok ∨ (∃ a, s.line.authority = some a ∧ a.void = false ∧ a.number = number) → t.line = s.line) ∧
      SameSetup s t ∧ SameRadio s t ∧ t.token = s.token ∧ t.pos = s.pos ∧ t.doors = s.doors ∧ t.mon = s.mon ∧
      t.upper = s.upper ∧ t.lower = s.lower ∧ t.mode = { s.mode with window := s.mode.window.map Window.moved }

/-! ## Gates and parameters -/

/-- R134: SET_GATE in CONFIG writes least rank and drive required of a present, unlocked entry and nothing else; elsewhere it
is refused STATE or RANGE. SET_GATE. -/
def Obligations.SetGateWritesOneUnlockedEntry : Prop :=
  ∀ (s : State) (m : CabMsg) (i least drive : Octet) (rest : List Octet),
    s.admits 24#8 m = true → m.payload = 0#8 :: i :: least :: drive :: rest →
    if s.mode.mode ≠ .config then exec (.setGate m) s = .next (s.refused 24#8 m .stateFails)
    else
      match s.gates[i.toNat]? with
      | none => exec (.setGate m) s = .next (s.refused 24#8 m .range)
      | some g =>
        if g.present = false then exec (.setGate m) s = .next (s.refused 24#8 m .range)
        else if g.locked = true then exec (.setGate m) s = .next (s.refused 24#8 m .stateFails)
        else if 1 < drive.toNat ∨ 2 < least.toNat then exec (.setGate m) s = .next (s.refused 24#8 m .range)
        else
          exec (.setGate m) s =
            .next ((s.withGates (s.gates.set i.toNat { g with least := least.toNat, drive := decide (drive = 1#8) })).answer
              24#8 m .ok [i, 1#8, least, drive, oct g.origins.num, 0#8])

/-- R135, R59: SET_PARAMETER in CONFIG writes the value brought into its range and restores the order of the margins and of
the contact thresholds upward; the answer carries the value held. AUTO_TRANSFER stops the transfer timer at 0 and starts
it at 1 where it does not run (R178). That a written threshold has the contact state judged at once is the model's reading
(log 21). SET_PARAMETER. -/
def Obligations.SetParameterClampsAndReorders : Prop :=
  ∀ (s : State) (m : CabMsg) (n : Octet) (v : Nat) (rest : List Octet),
    SetupLaw s → s.admits 24#8 m = true → v ≤ 65535 → m.payload = 1#8 :: n :: oct2 v ++ rest →
    if s.mode.mode ≠ .config then exec (.setParameter m) s = .next (s.refused 24#8 m .stateFails)
    else if 19 < n.toNat ∨ (n.toNat = 18 ∧ 1 < v) then exec (.setParameter m) s = .next (s.refused 24#8 m .range)
    else
      ∃ t lo hi, paramRanges[n.toNat]? = some (lo, hi) ∧ exec (.setParameter m) s = .next t ∧
        (∀ k, k < 20 → k ≠ n.toNat → ¬(3 ≤ n.toNat ∧ n.toNat ≤ 5 ∧ 4 ≤ k ∧ k ≤ 5) →
          ¬(13 ≤ n.toNat ∧ n.toNat ≤ 15 ∧ 14 ≤ k ∧ k ≤ 15) → t.params.get k = s.params.get k) ∧
        max lo (min hi v) ≤ t.params.get n.toNat ∧
        (n.toNat ≠ 4 → n.toNat ≠ 5 → n.toNat ≠ 14 → n.toNat ≠ 15 → t.params.get n.toNat = max lo (min hi v)) ∧
        (3 ≤ n.toNat → n.toNat ≤ 5 → t.params.degrade ≤ t.params.void ∧ t.params.void ≤ t.params.shadowVoid) ∧
        (13 ≤ n.toNat → n.toNat ≤ 15 → t.params.warningMargin ≤ t.params.serviceMargin ∧
          t.params.serviceMargin ≤ t.params.emergencyMargin) ∧
        Answers s t 24#8 m (if t.params = s.params.set n.toNat v then .ok else .clamped) (oct2 (t.params.get n.toNat)) ∧
        (n.toNat = 2 → s.pos.confidence = .confirmed → t.params.maxUnconfirmed < s.pos.distance →
          t.pos.confidence = .drifting) ∧
        (3 ≤ n.toNat → n.toNat ≤ 5 → t.contact.value = s.contact.value ∧ t.contact.shadow = s.contact.shadow ∧
          t.contact.state = (if s.contact.state = .void then .void
            else contactFor t.params s.contact.value s.contact.shadow) ∧
          (t.contact.state ≠ s.contact.state → Flagged t .radio)) ∧
        t.mon = (if n.toNat = 18 then
          { s.mon with timer := if v = 0 then none else match s.mon.timer with
              | some x => some x
              | none => some 1000 }
          else s.mon) ∧
        t.gates = s.gates ∧ t.pending = s.pending ∧ SameRadio s t ∧ t.refusal = s.refusal ∧ t.token = s.token ∧
        t.handler = s.handler ∧ t.mode = s.mode ∧ t.pos.count = s.pos.count

/-! ## Orders of the valley -/

/-- R53, R166, R169: a LINE for this car is heard, keeps its version as the last heard, and sets the VERSION indication by it;
version 0 is refused RANGE. LINE. -/
def Obligations.LineKeepsTheVersionHeard : Prop :=
  ∀ (s : State) (m : ValleyMsg) (v : Nat) (rest : List Octet),
    s.takes 32#8 m = true → v ≤ 65535 → m.payload = oct2 v ++ rest →
    ∃ t, exec (.line m) s = .next t ∧ Heard s t ∧
      (if v = 0 then
        t.handler = { s.handler with outcomes := s.handler.outcomes.refusedBy m.order .range } ∧
        t.refusal = some { code := .range, index := 32, valley := true }
       else
        t.handler = { s.handler with
          lineVersion := some v
          versionInd := decide (v ≠ if s.line.profile = .valid then s.line.version else 0)
          outcomes := s.handler.outcomes.acceptedBy m.order } ∧
        t.refusal = s.refusal ∧ (t.handler.versionInd ≠ s.handler.versionInd → Flagged t .lineRecord)) ∧
      SameSetup s t ∧ SameRadio s t ∧ t.token = s.token ∧ t.line = s.line ∧ t.pos = s.pos ∧ t.doors = s.doors ∧
      t.mon = s.mon ∧ t.upper = s.upper ∧ t.lower = s.lower

/-- R170, R85, R101: the two severities of STOP and STOP_RELEASE on the held stop record, the VALLEY term and
VALLEY_STOP; a severity that is neither is refused RANGE. STOP_SERVICE, STOP_EMERGENCY, STOP_RELEASE. Which row a
severity that is neither belongs to is the model's choice (log 23). -/
def Obligations.StopOrdersHoldTheCar : Prop :=
  ∀ (s : State) (m : ValleyMsg) (severity : Octet) (rest : List Octet),
    (s.takes 36#8 m = true → m.payload = severity :: rest →
      ∃ t, exec (if severity = 2#8 then .stopEmergency m else .stopService m) s = .next t ∧ Heard s t ∧
        (severity = 1#8 →
          t.handler = { s.handler with stopService := true, outcomes := s.handler.outcomes.acceptedBy m.order } ∧
          t.brk.terms.valley = 100 ∧ 100 ≤ t.brk.serviceOut ∧ t.brk.causes.valleyStop = s.brk.causes.valleyStop) ∧
        (severity = 2#8 →
          t.handler = { s.handler with stopEmergency := true, outcomes := s.handler.outcomes.acceptedBy m.order } ∧
          t.brk.causes.valleyStop = true ∧ t.brk.terms.valley = s.brk.terms.valley) ∧
        (severity ≠ 1#8 → severity ≠ 2#8 →
          t.handler = { s.handler with outcomes := s.handler.outcomes.refusedBy m.order .range } ∧
          t.refusal = some { code := .range, index := 36, valley := true }) ∧
        SameSetup s t ∧ SameRadio s t ∧ t.token = s.token ∧ t.line = s.line ∧ t.pos = s.pos ∧ t.doors = s.doors ∧
        t.mon = s.mon ∧ t.upper = s.upper ∧ t.lower = s.lower) ∧
    (s.takes 37#8 m = true →
      ∃ t, exec (.stopRelease m) s = .next t ∧ Heard s t ∧
        t.handler = { s.handler with
          stopService := false
          stopEmergency := false
          outcomes := s.handler.outcomes.acceptedBy m.order } ∧
        t.brk.terms.valley = (if s.lineCode.effective = .stop then 100 else 0) ∧
        t.brk.causes.valleyStop = s.brk.causes.valleyStop ∧
        SameSetup s t ∧ SameRadio s t ∧ t.refusal = s.refusal ∧ t.token = s.token ∧ t.line = s.line ∧
        t.pos = s.pos ∧ t.doors = s.doors ∧ t.mon = s.mon ∧ t.upper = s.upper ∧ t.lower = s.lower)

/-- R171, R172, R194: WAKE takes a PARKED car to WAKING with the check timer at 1,000 ms and is refused STATE in every other
mode; POLL is the last accepted order before it offers the STATUS, which is composed with the contact LIVE and placed by
R174, behind the ALARM of a cause that joins as contact returns. WAKE, POLL. That the report takes the car id where it is
placed is deduced (log 31). -/
def Obligations.WakeAndPollAnswerTheValley : Prop :=
  ∀ (s : State) (m : ValleyMsg),
    (s.takes 40#8 m = true → s.mode.mode = .parked →
      ∃ t, exec (.wake m) s = .next t ∧ t.mode.mode = .waking ∧ t.mode.checkTimer = some 1000 ∧
        t.mode.periodTimer = none ∧ t.mode.window = none ∧ t.mode.modemPower = true ∧ t.mode.modemKey = false ∧
        Flagged t .mode ∧ t.handler = { s.handler with outcomes := s.handler.outcomes.acceptedBy m.order } ∧
        t.brk.rack.state.energized = false ∧ t.brk.hold.state.energized = false ∧ t.doors.sideReleased = false ∧
        t.brk.rollRunning = false ∧
        SameSetup s t ∧ t.refusal = s.refusal ∧ t.token = s.token ∧ t.line = s.line ∧ t.pos = s.pos ∧
        t.lineCode = s.lineCode ∧ t.mon = s.mon ∧ t.upper = s.upper ∧ t.lower = s.lower) ∧
    (s.takes 40#8 m = true → s.mode.mode ≠ .parked →
      ∃ t, exec (.wake m) s = .next t ∧ Heard s t ∧
        t.handler = { s.handler with outcomes := s.handler.outcomes.refusedBy m.order .stateFails } ∧
        t.refusal = some { code := .stateFails, index := 40, valley := true } ∧
        SameSetup s t ∧ SameRadio s t ∧ t.token = s.token ∧ t.line = s.line ∧ t.pos = s.pos ∧ t.doors = s.doors) ∧
    (s.takes 41#8 m = true →
      ∃ t, exec (.poll m) s = .next t ∧ Heard s t ∧
        t.handler = { s.handler with outcomes := s.handler.outcomes.acceptedBy m.order } ∧
        (s.contact.state = .live → t.brk.causes = s.brk.causes) ∧
        (∀ x : Slot,
          x = { report := .status t.statusPayload, carId := oct s.params.carId, number := none, sending := false,
                given := 0 } →
          (t.brk.causes = s.brk.causes → ∀ l y r, s.reports.queue = l ++ y :: r → y.isWaitingStatus = true →
            (∀ z ∈ l ++ r, z.isWaitingStatus = false) →
            t.reports = { s.reports with queue := l ++ x :: r }) ∧
          (t.brk.causes = s.brk.causes → (∀ z ∈ s.reports.queue, z.isWaitingStatus = false) →
            t.reports = { s.reports with queue := if s.reports.queue.length < 4 then s.reports.queue ++ [x]
              else s.reports.queue }) ∧
          (s.reports.queue.length ≤ 1 → s.reports.backlog = [] → (∀ z ∈ s.reports.queue, z.isWaitingStatus = false) →
            t.reports.queue.getLast? = some x ∧ s.reports.queue <+: t.reports.queue)) ∧
        t.reports.timer = s.reports.timer ∧
        SameSetup s t ∧ SameRadio s t ∧ t.refusal = s.refusal ∧ t.token = s.token ∧ t.line = s.line ∧
        t.pos = s.pos ∧ t.doors = s.doors ∧ t.mon = s.mon ∧ t.upper = s.upper ∧ t.lower = s.lower)

/-- R166, R193: a valid message for another car moves an open window's end and does nothing else; R165: a bad message counts
MSG_BAD, and the contact timer is not touched. VALLEY_MESSAGE_OTHER_CAR, BAD_VALLEY_MESSAGE. -/
def Obligations.OtherAndBadMessagesGiveNoOrder : Prop :=
  ∀ (s : State),
    (∀ (kind : Octet) (m : ValleyMsg), s.rx.state ≠ .hunt → s.handler.buffer = [] → m.payload.length ≤ 38 →
      m.car ≠ 0#8 → m.car ≠ oct s.params.carId →
      exec (.valleyMessageOtherCar kind m) s =
        .next (s.withMode { s.mode with window := s.mode.window.map fun w =>
          { w with closeAt := min 6000 (max w.closeAt (w.elapsed + 1000)) } })) ∧
    (∀ octets : List Octet, s.rx.state ≠ .hunt → s.handler.buffer = [] → badFraming 0xC3#8 40 1 octets = true →
      0xC3#8 ∉ octets.tail →
      exec (.badValleyMessage octets) s =
        .next (s.withMon { s.mon with live := { s.mon.live with msgBad :=
          if s.mon.live.msgBad.value < 1023 then { s.mon.live.msgBad with value := s.mon.live.msgBad.value + 1 }
          else { s.mon.live.msgBad with overflowed := true } } }))

/-! ## Position and supervision -/

/-- R20, R22, R25, R26, R27, R31: what a tooth arrival makes of the position unit, whatever follows from it.
SENSOR_TRANSITION across the counted boundary. The order of what follows a tooth, and the time carried, are the
model's choice (logs 4, 6). -/
def Obligations.ToothArrivalCountsAndMeasures : Prop :=
  ∀ (s : State) (s1 s2 : Level) (micros : Nat) (d : Dir),
    (s.pos.phase, phaseOf s1 s2) = (match d with
      | .up => (Phase.q3, Phase.q0)
      | .down => (Phase.q0, Phase.q3)) →
    ∃ t, exec (.sensorTransition s1 s2 micros) s = .next t ∧
      t.pos.count = (match d with
        | .up => min 99999 (s.pos.count + 1)
        | .down => s.pos.count - 1) ∧
      t.pos.phase = phaseOf s1 s2 ∧ t.pos.dir = some d ∧ t.pos.standstill = false ∧ t.pos.standTimer = some 1500 ∧
      t.pos.runStart = some micros ∧ t.pos.distance = min 99999 (s.pos.distance + 1) ∧
      t.pos.correction = s.pos.correction ∧
      (∀ start, s.pos.runStart = some start → s.pos.dir = some d → start < micros →
        t.pos.speed = min 2000 (10000000 / (micros - start))) ∧
      ((s.pos.runStart = none ∨ s.pos.dir ≠ some d) → t.pos.speed = s.pos.speed) ∧
      t.pos.confidence = (if s.pos.confidence = .confirmed ∧ s.params.maxUnconfirmed < min 99999 (s.pos.distance + 1)
        then .drifting else s.pos.confidence) ∧
      t.brk.holdTimer = none ∧ t.brk.long = false ∧
      ((s.pos.standstill = true ∨ t.pos.confidence ≠ s.pos.confidence) → t.doors.sideReleased = false) ∧
      (s.line.profile = .valid → s.pos.confidence ≠ .unknown →
        (match d with
          | .up => s.line.lineEnd < t.pos.count
          | .down => t.pos.count < s.params.carLength) → t.brk.causes.lineEnd = true) ∧
      SameSetup s t ∧ t.token = s.token ∧ t.refusal = s.refusal ∧ t.handler = s.handler ∧ t.lineCode = s.lineCode ∧
      t.mon = s.mon ∧ t.upper = s.upper ∧ t.lower = s.lower ∧ t.line.segments = s.line.segments ∧
      t.line.restrictions = s.line.restrictions

/-- R19, R21: a transition between neighbouring phases that is not counted moves the phase alone; a jump of both sensors is a
sensor fault. SENSOR_TRANSITION. -/
def Obligations.UncountedStepsAndSensorFaults : Prop :=
  ∀ (s : State) (s1 s2 : Level) (micros : Nat),
    ((s.pos.phase, phaseOf s1 s2) ∈
        [(Phase.q0, Phase.q1), (.q1, .q0), (.q1, .q2), (.q2, .q1), (.q2, .q3), (.q3, .q2)] →
      exec (.sensorTransition s1 s2 micros) s = .next (s.withPos { s.pos with phase := phaseOf s1 s2 })) ∧
    ((s.pos.phase, phaseOf s1 s2) ∈ [(Phase.q0, Phase.q2), (.q2, .q0), (.q1, .q3), (.q3, .q1)] →
      ∃ t, exec (.sensorTransition s1 s2 micros) s = .next t ∧
        t.pos = { s.pos with
          phase := phaseOf s1 s2
          runStart := none
          confidence := if s.pos.confidence = .unknown then .unknown else .lost } ∧
        (s.pos.standstill = false → t.brk.causes.sensor = true) ∧
        (s.pos.standstill = true → t.brk.causes.sensor = s.brk.causes.sensor) ∧
        (s.pos.confidence = .confirmed → t.doors.sideReleased = false) ∧
        SameSetup s t ∧ SameRadio s t ∧ t.token = s.token ∧ t.refusal = s.refusal ∧ t.handler = s.handler ∧
        t.mon = s.mon ∧ t.upper = s.upper ∧ t.lower = s.lower ∧ t.mode = s.mode)

/-- R28, R29, R30: a marker pulse is judged against the nearest marker, the lower of two equally near, within the window of
the confidence state; it is a mismatch where the profile has no marker, and is ignored in UNKNOWN or without a committed
profile. MARKER_PULSE. -/
def Obligations.MarkerPulseMatchesOrLoses : Prop :=
  ∀ (s : State),
    (s.pos.confidence = .unknown ∨ s.line.profile ≠ .valid → exec .markerPulse s = .next s) ∧
    (s.line.profile = .valid → s.pos.confidence ≠ .unknown →
      (∀ near window : Nat,
        window = (if s.pos.confidence = .confirmed ∨ s.pos.confidence = .drifting then s.params.markerWindow
          else 4 * s.params.markerWindow) →
        (∃ e ∈ s.line.markers, e.2 = near) →
        (∀ e ∈ s.line.markers, ((s.pos.count : Int) - near).natAbs ≤ ((s.pos.count : Int) - e.2).natAbs ∧
          (((s.pos.count : Int) - near).natAbs = ((s.pos.count : Int) - e.2).natAbs → near ≤ e.2)) →
        (s.line.markers.map (·.2)).Pairwise (· < ·) →
        ∃ t, exec .markerPulse s = .next t ∧
          t.pos = (if ((s.pos.count : Int) - near).natAbs ≤ window then
              { s.pos with count := near, correction := (near : Int) - s.pos.count, distance := 0,
                           confidence := .confirmed }
            else { s.pos with confidence := .lost }) ∧
          SameSetup s t ∧ SameRadio s t ∧ t.token = s.token ∧ t.refusal = s.refusal ∧ t.handler = s.handler ∧
          t.mon = s.mon ∧ t.upper = s.upper ∧ t.lower = s.lower ∧ t.mode = s.mode) ∧
      (s.line.markers = [] →
        ∃ t, exec .markerPulse s = .next t ∧ t.pos = { s.pos with confidence := .lost } ∧
          (s.pos.confidence = .confirmed → t.doors.sideReleased = false) ∧
          SameSetup s t ∧ SameRadio s t ∧ t.token = s.token ∧ t.handler = s.handler ∧ t.upper = s.upper ∧
          t.lower = s.lower ∧ t.mode = s.mode))

/-- R27, R84, R86, R96: the standstill declaration, while the standstill time runs, whatever time it still shows (the
model's choice, log 3). STANDSTILL_DECLARATION. -/
def Obligations.StandstillIsDeclared : Prop :=
  ∀ (s : State) (n : Nat), s.pos.standTimer = some n →
    ∃ t, exec .standstillDeclaration s = .next t ∧
      t.pos = { s.pos with standstill := true, standTimer := none, speed := 0, runStart := none } ∧
      t.brk.terms.door = 0 ∧ t.brk.holdTimer = some s.params.holdDelay ∧ t.brk.long = false ∧ t.brk.vigTimer = none ∧
      (s.deadmanPressed = true → t.brk.terms.vigilance = 0) ∧
      (s.deadmanPressed = false → t.brk.terms.vigilance = s.brk.terms.vigilance) ∧
      t.sup.state ≠ .trip ∧ t.sup.travel = s.selectedDir ∧
      SameSetup s t ∧ SameRadio s t ∧ t.token = s.token ∧ t.refusal = s.refusal ∧ t.handler = s.handler ∧
      t.mon = s.mon ∧ t.upper = s.upper ∧ t.lower = s.lower ∧ t.mode = s.mode ∧ t.doors = s.doors

/-- R60, R62 to R67, R77 to R80: one evaluation restarts the timer; P is one of the applying terms of Table 4-3 and no
higher than any of them, the limiting term is the first that equals it; the warning speed and the state follow from P, the
speed and the margins, and the state drives the SUPERVISION term; a passing of the EOA found with the mark clear adds
EOA_PASSED, and the mark follows the test. Said where the direction of travel stays. EVALUATION_TIMER_EXPIRY; that the
command acts whatever time the timer still shows is the model's choice (log 3). -/
def Obligations.EvaluationJudgesTheSpeed : Prop :=
  ∀ s : State, s.sup.travel = s.travelNow →
    ∃ t, exec .evaluationTimerExpiry s = .next t ∧ t.sup.evalTimer = 50 ∧ t.sup.travel = s.travelNow ∧
      t.sup.warning = t.sup.permitted + s.params.warningMargin ∧
      (s.line.profile ≠ .valid → t.sup.permitted = 0 ∧ t.sup.limiting = .noProfile ∧ t.sup.targets = []) ∧
      (s.line.profile = .valid → s.travelNow = none →
        t.sup.permitted = 0 ∧ t.sup.limiting = .noDirection ∧ t.sup.targets = []) ∧
      (s.line.profile = .valid → ∀ d, s.travelNow = some d →
        s.termApplies d t.sup.targets t.sup.limiting t.sup.permitted ∧
        (∀ l v, s.termApplies d t.sup.targets l v → t.sup.permitted ≤ v ∧
          (v = t.sup.permitted → t.sup.limiting.place ≤ l.place)) ∧
        (∀ id other, RestrictionLaw s → t.sup.limiting = .restriction id →
          s.termApplies d t.sup.targets (.restriction other) t.sup.permitted → id ≤ other) ∧
        (∀ k p vt, t.sup.limiting = .target k p vt → ∃ l g r, t.sup.targets = l ++ g :: r ∧ g.kind = k ∧ g.pos = p ∧
          g.vt = vt ∧ g.curve = t.sup.permitted ∧ ∀ x ∈ l, t.sup.permitted < x.curve)) ∧
      t.sup.state =
        (if s.sup.state = .trip then (if s.pos.standstill = true then .normal else .trip)
         else if t.sup.permitted + s.params.emergencyMargin < s.pos.speed then .trip
         else if s.sup.state = .intervene then (if t.sup.permitted < s.pos.speed then .intervene else .normal)
         else if t.sup.permitted + s.params.serviceMargin < s.pos.speed then .intervene
         else if t.sup.permitted < s.pos.speed then .warning
         else .normal) ∧
      (t.sup.state ≠ s.sup.state → Flagged t .supervision ∧
        t.brk.terms.supervision = (if t.sup.state = .intervene ∨ t.sup.state = .trip then 100 else 0)) ∧
      (t.sup.state = .trip → s.sup.state ≠ .trip → t.brk.causes.overspeed = true) ∧
      (s.eoaIsPassed → t.sup.passedMark = true) ∧ (¬ s.eoaIsPassed → t.sup.passedMark = false) ∧
      (s.eoaIsPassed → s.sup.passedMark = false → t.brk.causes.eoaPassed = true ∧
        (s.brk.causes.isEmpty = true → t.brk.first =
          some { kind := .eoaPassed, count := s.pos.count, speed := s.pos.speed, mode := s.mode.mode })) ∧
      (¬ s.eoaIsPassed ∨ s.sup.passedMark = true → t.brk.causes.eoaPassed = s.brk.causes.eoaPassed) ∧
      SameSetup s t ∧ SameRadio s t ∧ t.token = s.token ∧ t.refusal = s.refusal ∧ t.handler = s.handler ∧
      t.mon = s.mon ∧ t.upper = s.upper ∧ t.lower = s.lower ∧ t.mode = s.mode ∧ t.doors = s.doors ∧
      t.pos = s.pos ∧ t.line = s.line ∧ t.contact = s.contact

/-- R68, R69, R70: an evaluation's target list holds exactly the targets that the line, the restrictions, the overflow
record and the authority give, nearest first, those at one distance by kind, restrictions at one entry point each once and
in the list's order; in UNKNOWN and DECLARED it is empty, and it never holds more than 274. Said where the direction of
travel stays. EVALUATION_TIMER_EXPIRY; that the command acts whatever time the timer still shows is deduced (log 3). -/
def Obligations.TargetListIsThatOfTheLine : Prop :=
  ∀ (s : State) (d : Dir), s.line.profile = .valid → s.travelNow = some d → s.sup.travel = some d →
    ∃ t, exec .evaluationTimerExpiry s = .next t ∧
      (s.pos.confidence = .unknown ∨ s.pos.confidence = .declared → t.sup.targets = []) ∧
      (s.pos.confidence ≠ .unknown → s.pos.confidence ≠ .declared →
        (∀ g ∈ t.sup.targets, ∃ teeth, g.distance = teeth * 10 ∧ s.givesTarget d g.kind g.pos g.vt teeth) ∧
        (∀ k p vt teeth, s.givesTarget d k p vt teeth →
          ∃ g ∈ t.sup.targets, g.kind = k ∧ g.pos = p ∧ g.vt = vt ∧ g.distance = teeth * 10) ∧
        t.sup.targets.Pairwise (fun g h => g.distance < h.distance ∨
          (g.distance = h.distance ∧ g.kind.place ≤ h.kind.place)) ∧
        (∀ p teeth, s.inLookAhead d p teeth →
          (t.sup.targets.filter fun g => decide (g.kind = .restriction) && decide (g.pos = p)).map (·.vt) =
            (s.line.restrictions.filter fun r => decide (p = match d with | .up => r.start | .down => r.stop)).map
              (·.limit)) ∧
        (RestrictionLaw s → s.line.segments.length ≤ 256 → t.sup.targets.length ≤ 274))

/-- R71 to R75: each target of an evaluation holds the largest falling gradient from the rear end to it, not below 0; the
gravity term is rounded up and taken from the deceleration cap; below the floor, and where nothing is left of the distance
after the reaction distance, rounded up, and the margin, the curve speed is the target speed; else it is the largest
integer whose square is within vt² + 2 a d, capped at 1,200. Said where the direction of travel stays.
EVALUATION_TIMER_EXPIRY; that the command acts whatever time the timer still shows is deduced (log 3). -/
def Obligations.CurvesAreRoundedToTheLowerSpeed : Prop :=
  ∀ (s : State) (d : Dir), s.line.profile = .valid → s.travelNow = some d → s.sup.travel = some d →
    ∃ t, exec .evaluationTimerExpiry s = .next t ∧
      ∀ g ∈ t.sup.targets,
        (∀ p ∈ s.line.overlapping (min (s.rearEnd d) g.pos) (max (s.rearEnd d) g.pos),
          fallOf d p.seg.gradient ≤ g.fMax) ∧
        (g.fMax = 0 ∨ ∃ p ∈ s.line.overlapping (min (s.rearEnd d) g.pos) (max (s.rearEnd d) g.pos),
          fallOf d p.seg.gradient = g.fMax) ∧
        (∀ grav : Nat, 981 * g.fMax ≤ 1000 * grav → 1000 * grav < 981 * g.fMax + 1000 →
          g.aEff = (s.params.aCap : Int) - grav) ∧
        (g.aEff < s.params.aFloor → g.curve = g.vt) ∧
        (∀ run : Nat, s.pos.speed * s.params.reaction ≤ 10 * run → 10 * run < s.pos.speed * s.params.reaction + 10 →
          (s.params.aFloor : Int) ≤ g.aEff →
          (g.distance ≤ run + s.params.targetMargin * 10 → g.curve = g.vt) ∧
          (∀ eff : Nat, g.distance = run + s.params.targetMargin * 10 + eff → 0 < eff →
            g.curve ≤ 1200 ∧ (g.curve : Int) * g.curve ≤ (g.vt : Int) * g.vt + 2 * g.aEff * eff ∧
            (g.curve = 1200 ∨
              (g.vt : Int) * g.vt + 2 * g.aEff * eff < ((g.curve : Int) + 1) * (g.curve + 1))))

/-- R54, R55, R56: at a tooth the shadow test becomes the flag of the segment at the front end, clear where there is none or
no committed profile; a change to clear brings the timer value down to the degrade threshold, and at either change the
contact state is judged afresh, but VOID stays. An accepted SET_POSITION makes the test for the selected direction and
keeps it where there is none. SENSOR_TRANSITION across the counted boundary, SET_POSITION. -/
def Obligations.ShadowTestFollowsTheFrontEnd : Prop :=
  ∀ (s : State),
    (∀ (s1 s2 : Level) (micros : Nat) (d : Dir) (b : Bool),
      (s.pos.phase, phaseOf s1 s2) = (match d with
        | .up => (Phase.q3, Phase.q0)
        | .down => (Phase.q0, Phase.q3)) →
      ∃ t, exec (.sensorTransition s1 s2 micros) s = .next t ∧
        (b = (decide (s.line.profile = .valid) && (match s.line.segmentAt (match d with
            | .up => (t.pos.count : Int)
            | .down => (t.pos.count : Int) - s.params.carLength) with
          | some g => g.shadow
          | none => false)) →
        t.contact.shadow = b ∧
        (b = s.contact.shadow → t.contact = s.contact ∧ t.line = s.line) ∧
        (b ≠ s.contact.shadow →
          t.contact.value = (if b = true then s.contact.value else min s.contact.value (s.params.degrade * 1000)) ∧
          t.contact.state = (if s.contact.state = .void then .void else contactFor s.params t.contact.value b) ∧
          (t.contact.state ≠ s.contact.state → Flagged t .radio) ∧
          (t.contact.state = .void → s.contact.state ≠ .void →
            t.line.authority = s.line.authority.map (fun a => { a with void := true }) ∧ t.brk.terms.contact = 100)))) ∧
    (∀ (m : CabMsg) (p : Nat) (rest : List Octet), s.admits 20#8 m = true → m.payload = oct3 p ++ rest →
      s.pos.standstill = true → s.line.profile = .valid → s.params.carLength ≤ p → p ≤ s.line.lineEnd →
      s.line.lineEnd ≤ 99999 →
      ∃ t, exec (.setPosition m) s = .next t ∧
        t.contact.shadow = (match s.selectedDir with
          | none => s.contact.shadow
          | some d => (match s.line.segmentAt (match d with
              | .up => (p : Int)
              | .down => (p : Int) - s.params.carLength) with
            | some g => g.shadow
            | none => false)))

/-- R104, R105, R194: a tooth under a rollaway watch moves the count: net movement without a selected direction and in
PARKED, else the teeth by which the car stands back from its furthest point. Past 3, in PARKED past 1, the count is reset
and ROLLAWAY added, which takes a PARKED car to READY with its modem keyed. The watch ends where the holding brake enters
APPLIED and starts at 0 where it leaves it. Said with both sides LOCKED. SENSOR_TRANSITION across the counted boundary,
BRAKE_FEEDBACK_CHANGE. -/
def Obligations.RollawayWatchCountsTeeth : Prop :=
  ∀ (s : State),
    (∀ (s1 s2 : Level) (micros : Nat) (d : Dir) (sel : Option Dir) (n : Int),
      (s.pos.phase, phaseOf s1 s2) = (match d with
        | .up => (Phase.q3, Phase.q0)
        | .down => (Phase.q0, Phase.q3)) →
      s.brk.rollRunning = true →
      (s.mode.mode = .parked ∨ ((s.mode.mode = .ready ∨ s.mode.mode = .drive) ∧ s.brk.hold.state ≠ .applied)) →
      s.doors.sideReleased = false →
      sel = (if s.mode.mode = .parked then none else s.selectedDir) →
      n = (match sel with
        | none => s.brk.rollCount + (match d with | .up => 1 | .down => -1)
        | some e => if d = e then max 0 (s.brk.rollCount - 1) else s.brk.rollCount + 1) →
      ∃ t, exec (.sensorTransition s1 s2 micros) s = .next t ∧
        (if (if s.mode.mode = .parked then 1 else 3) < n.natAbs then
          t.brk.rollCount = 0 ∧ t.brk.causes.rollaway = true ∧
          (s.mode.mode = .parked → t.mode.mode = .ready ∧ t.mode.modemPower = true ∧ t.mode.modemKey = true ∧
            t.mode.periodTimer = none ∧ t.mode.window = none ∧ Flagged t .mode ∧
            (s.brk.rack.state.energized = false → t.brk.rack.state.energized = false)) ∧
          (s.mode.mode ≠ .parked → t.mode = s.mode) ∧
          (s.brk.causes.rollaway = false → Flagged t .causes ∧ t.brk.terms.emergency = 100)
         else t.brk.rollCount = n ∧ t.brk.causes.rollaway = s.brk.causes.rollaway ∧ t.brk.rollRunning = true ∧
          t.mode = s.mode)) ∧
    (s.mode.mode = .ready ∨ s.mode.mode = .drive →
      (s.brk.hold.state = .applying → s.brk.hold.feedback = .clear → s.brk.rollRunning = true →
        ∃ t, exec (.brakeFeedbackChange .hold .applied) s = .next t ∧ t.brk.hold.state = .applied ∧
          t.brk.rollRunning = false ∧ t.brk.rollCount = 0) ∧
      (s.brk.hold.state = .applied → s.brk.hold.feedback = .applied → s.brk.rollRunning = false →
        ∃ t, exec (.brakeFeedbackChange .hold .clear) s = .next t ∧ t.brk.hold.state = .fault ∧
          t.brk.rollRunning = true ∧ t.brk.rollCount = 0))

/-- R55, R57, R85: the thresholds of the contact timer: the degrade threshold ends LIVE with the shadow test clear, in
DEGRADED or, where the void threshold is no higher, in VOID; on entering VOID the authority's void flag is set and CONTACT
is 100 %. That each command acts below its threshold and brings the contact timer up to it is the model's choice (log 3).
DEGRADE_THRESHOLD_REACHED, VOID_THRESHOLD_REACHED. -/
def Obligations.ContactThresholdsMoveTheContactState : Prop :=
  ∀ s : State,
    (s.contact.state = .live → s.contact.shadow = false →
      ∃ t, exec .degradeThresholdReached s = .next t ∧
        t.contact.value = max s.contact.value (s.params.degrade * 1000) ∧ t.contact.shadow = false ∧
        (t.contact.value < s.params.void * 1000 →
          t.contact.state = .degraded ∧ t.line = s.line ∧ t.brk.terms.contact = 0) ∧
        (s.params.void * 1000 ≤ t.contact.value →
          t.contact.state = .void ∧ t.brk.terms.contact = 100 ∧
          t.line.authority = s.line.authority.map (fun a => { a with void := true }) ∧
          (s.line.authority.isSome = true → Flagged t .lineRecord)) ∧
        Flagged t .radio ∧
        SameSetup s t ∧ SameRadio s t ∧ t.token = s.token ∧ t.pos = s.pos ∧ t.doors = s.doors ∧ t.mode = s.mode ∧
        t.handler = s.handler ∧ t.upper = s.upper ∧ t.lower = s.lower) ∧
    (s.contact.shadow = true ∨ s.contact.state ≠ .live → exec .degradeThresholdReached s = .next s) ∧
    (s.contact.state ≠ .void →
      ∃ t, exec .voidThresholdReached s = .next t ∧ t.contact.state = .void ∧ t.brk.terms.contact = 100 ∧
        Flagged t .radio ∧
        t.line.authority = s.line.authority.map (fun a => { a with void := true }) ∧
        (s.line.authority.isSome = true → Flagged t .lineRecord) ∧
        SameSetup s t ∧ SameRadio s t ∧ t.token = s.token ∧ t.pos = s.pos ∧ t.doors = s.doors ∧ t.mode = s.mode ∧
        t.handler = s.handler ∧ t.upper = s.upper ∧ t.lower = s.lower) ∧
    (s.contact.state = .void → exec .voidThresholdReached s = .next s)

/-! ## Brakes -/

/-- R89 to R92: a changed feedback, and the expiry of a release or apply timer, by the brake's state; every entry into FAULT
adds BRAKE_FEEDBACK, and a FAULT whose feedback reads APPLIED goes on to APPLIED. R84, R96: the vigilance timer's expiry
holds VIGILANCE at 100 %; the hold timer's makes the standstill long and, in DRIVE with a demand, applies the holding
brake. BRAKE_FEEDBACK_CHANGE, RELEASE_TIMER_EXPIRY, APPLY_TIMER_EXPIRY, VIGILANCE_TIMER_EXPIRY, HOLD_TIMER_EXPIRY. That an
expiry acts whatever time its timer still shows is the model's choice (log 3). -/
def Obligations.FeedbackAndTimersMoveTheBrakes : Prop :=
  ∀ (s : State) (b : BrakeId),
    (∀ r : Feedback, (s.brk.get b).feedback ≠ r →
      ∃ t, exec (.brakeFeedbackChange b r) s = .next t ∧ (t.brk.get b).feedback = r ∧
        (t.brk.get b).state = (match (s.brk.get b).state, r with
          | .applied, .clear => .fault
          | .released, .applied => .applied
          | .releasing, .clear => .released
          | .applying, .applied => .applied
          | .fault, .applied => .applied
          | x, _ => x) ∧
        ((s.brk.get b).state = .applied ∧ r = .clear ∨ (s.brk.get b).state = .released ∧ r = .applied →
          t.brk.causes.brakeFeedback = true ∧ t.brk.terms.emergency = (if s.brk.causes.brakeFeedback = true then
            s.brk.terms.emergency else 100)) ∧
        ((s.brk.get b).state = .applied → r = .clear → b = .hold → t.doors.sideReleased = false) ∧
        ((t.brk.get b).state ≠ (s.brk.get b).state → Flagged t .brakes) ∧
        SameSetup s t ∧ SameRadio s t ∧ t.token = s.token ∧ t.refusal = s.refusal ∧ t.handler = s.handler ∧
        t.mon = s.mon ∧ t.pos = s.pos ∧ t.line = s.line ∧ t.sup = s.sup ∧ t.contact = s.contact ∧ t.mode = s.mode ∧
        t.upper = s.upper ∧ t.lower = s.lower) ∧
    ((s.brk.get b).state = .releasing → (s.brk.get b).feedback = .applied →
      ∃ t, exec (.releaseTimerExpiry b) s = .next t ∧ (t.brk.get b).state = .applied ∧
        t.brk.causes.brakeFeedback = true ∧ Flagged t .brakes ∧
        SameSetup s t ∧ SameRadio s t ∧ t.token = s.token ∧ t.pos = s.pos ∧ t.line = s.line ∧ t.mode = s.mode ∧
        t.doors = s.doors ∧ t.upper = s.upper ∧ t.lower = s.lower) ∧
    ((s.brk.get b).state = .applying → (s.brk.get b).feedback = .clear →
      ∃ t, exec (.applyTimerExpiry b) s = .next t ∧ (t.brk.get b).state = .fault ∧
        t.brk.causes.brakeFeedback = true ∧ Flagged t .brakes ∧
        SameSetup s t ∧ SameRadio s t ∧ t.token = s.token ∧ t.pos = s.pos ∧ t.line = s.line ∧ t.mode = s.mode ∧
        t.doors = s.doors ∧ t.upper = s.upper ∧ t.lower = s.lower) ∧
    ((s.brk.get b).state ≠ .releasing → exec (.releaseTimerExpiry b) s = .next s) ∧
    ((s.brk.get b).state ≠ .applying → exec (.applyTimerExpiry b) s = .next s) ∧
    (∀ n : Nat,
      (s.brk.vigTimer = some n →
        ∃ t, exec .vigilanceTimerExpiry s = .next t ∧ t.brk.vigTimer = none ∧
          t.brk.terms = { s.brk.terms with vigilance := 100 } ∧ 100 ≤ t.brk.serviceOut ∧ t.brk.tractionCut = true ∧
          t.brk.causes = s.brk.causes ∧ t.brk.rack = s.brk.rack ∧
          SameSetup s t ∧ SameRadio s t ∧ SameHandler s t ∧ t.token = s.token ∧ t.refusal = s.refusal ∧
          t.pos = s.pos ∧ t.line = s.line ∧ t.sup = s.sup ∧ t.contact = s.contact ∧ t.doors = s.doors ∧
          t.mode = s.mode ∧ t.upper = s.upper ∧ t.lower = s.lower) ∧
      (s.brk.holdTimer = some n →
        ∃ t, exec .holdTimerExpiry s = .next t ∧ t.brk.holdTimer = none ∧ t.brk.long = true ∧
          (s.mode.mode = .drive → 0 < s.brk.serviceOut → t.brk.hold.state.energized = false) ∧
          (s.mode.mode ≠ .drive ∨ s.brk.serviceOut = 0 → t.brk.hold = s.brk.hold) ∧
          t.brk.terms = s.brk.terms ∧ t.brk.causes = s.brk.causes ∧ t.brk.rack = s.brk.rack ∧
          SameSetup s t ∧ SameRadio s t ∧ SameHandler s t ∧ t.token = s.token ∧ t.refusal = s.refusal ∧
          t.pos = s.pos ∧ t.line = s.line ∧ t.sup = s.sup ∧ t.contact = s.contact ∧ t.doors = s.doors ∧
          t.mode = s.mode ∧ t.upper = s.upper ∧ t.lower = s.lower))

/-! ## Doors -/

/-- R108, R116, R117, R118, R120, R122: a changed locked switch, open-end switch or edge by the leaf's state, where
the state it leads to awaits nothing that already reads. R115: a press opens an unlocked leaf of a RELEASED side and is
ignored elsewhere; each leaf timer acts in its own state and changes nothing in another. LOCKED_SWITCH_CHANGE,
OPEN_END_SWITCH_CHANGE, OBSTRUCTION, PASSENGER_PRESS, OPEN_LIMIT_EXPIRY, CLOSE_LIMIT_EXPIRY, REVERSAL_TIMER_EXPIRY. That a
locked switch is judged before the edge is the model's choice (log 20), and that an expiry acts whatever time its timer
still shows (log 3). -/
def Obligations.LeavesFollowTheirInputsAndTimers : Prop :=
  ∀ (s : State) (i : LeafId) (l : Leaf), s.doors.leaf i = l →
    (l.state = .closedLocked ∨ l.state = .isolated →
      ∃ t, exec (.lockedSwitchChange i false) s = .next t ∧
        t.doors = s.doors.putLeaf i { l with state := .fault, timer := none, locked := false } ∧
        t.brk.hold.state.energized = false ∧ Flagged t .doors ∧
        t.brk.terms = (if l.state = .closedLocked ∧ s.pos.standstill = false then
          { s.brk.terms with door := 100 } else s.brk.terms) ∧
        SameSetup s t ∧ SameRadio s t ∧ SameHandler s t ∧ t.token = s.token ∧ t.refusal = s.refusal ∧
        t.pos = s.pos ∧ t.line = s.line ∧ t.sup = s.sup ∧ t.contact = s.contact ∧ t.mode = s.mode ∧
        t.upper = s.upper ∧ t.lower = s.lower) ∧
    (l.state = .closing ∨ l.state = .obstructed →
      ∃ t, exec (.lockedSwitchChange i true) s = .next t ∧
        t.doors = s.doors.putLeaf i { l with
          state := if s.doors.side (leafSide i) = .released then .closedUnlocked else .closedLocked
          timer := none, locked := true } ∧ Flagged t .doors ∧
        SameSetup s t ∧ SameRadio s t ∧ SameHandler s t ∧ t.token = s.token ∧ t.pos = s.pos ∧ t.line = s.line ∧
        t.mode = s.mode ∧ t.upper = s.upper ∧ t.lower = s.lower) ∧
    (l.state = .fault → ∀ v, exec (.lockedSwitchChange i v) s =
      .next (s.withDoors (s.doors.putLeaf i { l with locked := v }))) ∧
    (l.state = .opening →
      ∃ t, exec (.openEndSwitchChange i true) s = .next t ∧
        t.doors = s.doors.putLeaf i { l with state := .opened, timer := none, openEnd := true } ∧ Flagged t .doors ∧
        SameSetup s t ∧ SameRadio s t ∧ SameHandler s t ∧ t.token = s.token ∧ t.pos = s.pos ∧ t.line = s.line ∧
        t.mode = s.mode ∧ t.upper = s.upper ∧ t.lower = s.lower) ∧
    (l.state = .reversing → l.locked = false → l.edge = false →
      ∃ t, exec (.openEndSwitchChange i true) s = .next t ∧
        t.doors = s.doors.putLeaf i { l with state := .closing, timer := some 8000, openEnd := true } ∧
        Flagged t .doors ∧
        SameSetup s t ∧ SameRadio s t ∧ SameHandler s t ∧ t.token = s.token ∧ t.pos = s.pos ∧ t.line = s.line ∧
        t.mode = s.mode ∧ t.upper = s.upper ∧ t.lower = s.lower) ∧
    (l.state = .closing → l.locked = false → l.openEnd = false → l.reversals < 3 →
      ∃ t, exec (.obstruction i true) s = .next t ∧
        t.doors = s.doors.putLeaf i { l with
          state := if l.reversals = 2 then .obstructed else .reversing
          timer := if l.reversals = 2 then none else some 1000
          reversals := l.reversals + 1, edge := true } ∧ Flagged t .doors ∧
        SameSetup s t ∧ SameRadio s t ∧ SameHandler s t ∧ t.token = s.token ∧ t.pos = s.pos ∧ t.line = s.line ∧
        t.mode = s.mode ∧ t.upper = s.upper ∧ t.lower = s.lower) ∧
    (l.state = .opening → l.openEnd = false →
      exec (.obstruction i true) s = .next (s.withDoors (s.doors.putLeaf i { l with edge := true }))) ∧
    (l.state = .opened ∨ l.state = .closedUnlocked ∨ l.state = .fault → ∀ v,
      exec (.obstruction i v) s = .next (s.withDoors (s.doors.putLeaf i { l with edge := v })) ∧
      exec (.openEndSwitchChange i v) s = .next (s.withDoors (s.doors.putLeaf i { l with openEnd := v }))) ∧
    (if s.doors.side (leafSide i) = .released ∧ (l.state = .closedUnlocked ∨ l.state = .obstructed) then
      ∃ t, exec (.passengerPress i) s = .next t ∧
        t.doors = s.doors.putLeaf i (if l.openEnd = true then { l with state := .opened, timer := none }
          else { l with state := .opening, timer := some 6000 }) ∧ Flagged t .doors ∧
        SameSetup s t ∧ SameRadio s t ∧ SameHandler s t ∧ t.token = s.token ∧ t.pos = s.pos ∧ t.line = s.line ∧
        t.mode = s.mode ∧ t.upper = s.upper ∧ t.lower = s.lower
     else exec (.passengerPress i) s = .next s) ∧
    (if l.state = .opening then
      ∃ t, exec (.openLimitExpiry i) s = .next t ∧
        t.doors = s.doors.putLeaf i { l with state := .fault, timer := none } ∧ Flagged t .doors ∧
        SameSetup s t ∧ SameRadio s t ∧ SameHandler s t ∧ t.token = s.token ∧ t.pos = s.pos ∧ t.line = s.line ∧
        t.mode = s.mode ∧ t.upper = s.upper ∧ t.lower = s.lower
     else exec (.openLimitExpiry i) s = .next s) ∧
    (if l.state = .closing then
      ∃ t, exec (.closeLimitExpiry i) s = .next t ∧
        t.doors = s.doors.putLeaf i { l with state := .fault, timer := none } ∧ Flagged t .doors ∧
        SameSetup s t ∧ SameRadio s t ∧ SameHandler s t ∧ t.token = s.token ∧ t.pos = s.pos ∧ t.line = s.line ∧
        t.mode = s.mode ∧ t.upper = s.upper ∧ t.lower = s.lower
     else exec (.closeLimitExpiry i) s = .next s) ∧
    (if l.state = .reversing then
      (l.locked = false → l.edge = false →
        ∃ t, exec (.reversalTimerExpiry i) s = .next t ∧
          t.doors = s.doors.putLeaf i { l with state := .closing, timer := some 8000 } ∧ Flagged t .doors ∧
          SameSetup s t ∧ SameRadio s t ∧ SameHandler s t ∧ t.token = s.token ∧ t.pos = s.pos ∧ t.line = s.line ∧
          t.mode = s.mode ∧ t.upper = s.upper ∧ t.lower = s.lower)
     else exec (.reversalTimerExpiry i) s = .next s)

/-! ## The radio framer -/

/-- R147, R150, R151: a candidate whose pattern stands at both tests is taken: in HUNT the receive state becomes
FRAME; in the offline hunt it is a slip. One that fails is dropped and the search goes on after it. The offline timer
begins the offline hunt; the fallback timer takes FRAME to UNCHECKED, where the valley's rank is 1. CANDIDATE_TEST,
OFFLINE_CANDIDATE_TEST, OFFLINE_TIMER_EXPIRY, FALLBACK_TIMER_EXPIRY. The bit numbers, and where the offline search
begins, are the model's choice (log 12); that an expiry acts whatever time its timer still shows is too (log 3). -/
def Obligations.AlignmentIsSoughtAndFound : Prop :=
  ∀ (s : State) (pos : Nat) (at192 at384 : Octet),
    (s.rx.state = .hunt → s.mode.modemPower = true → s.rx.search ≤ pos →
      if at192.toNat / 4 = 26 ∧ at384.toNat / 4 = 26 then
        ∃ t, exec (.candidateTest pos at192 at384) s = .next t ∧
          t.rx = { s.rx with
            state := .frame, align := some (pos + 384), badHeaders := 0, offTimer := some 480, fallTimer := some 4000
            superCand := if at384.getLsbD 1 = true then some 0 else none } ∧
          Flagged t .radio ∧ t.mode = { s.mode with window := s.mode.window.map Window.moved } ∧
          SameSetup s t ∧ SameHandler s t ∧ t.lineCode = s.lineCode ∧ t.tx = s.tx ∧ t.token = s.token ∧
          t.refusal = s.refusal ∧ t.upper = s.upper ∧ t.lower = s.lower ∧ t.line = s.line ∧ t.pos = s.pos ∧
          t.sup = s.sup ∧ t.contact = s.contact ∧ t.brk = s.brk ∧ t.doors = s.doors
      else
        exec (.candidateTest pos at192 at384) s = .next (s.withRx { s.rx with search := pos + 1 })) ∧
    (∀ a, s.rx.state = .frame ∨ s.rx.state = .unchecked → s.rx.offHunt = true → s.rx.offSearch ≤ pos →
      s.rx.align = some a → pos % 192 ≠ a % 192 →
      if at192.toNat / 4 = 26 ∧ at384.toNat / 4 = 26 then
        ∃ t, exec (.offlineCandidateTest pos at192 at384) s = .next t ∧
          t.rx = { s.rx with
            align := some (pos + 384), badHeaders := 0, offTimer := some 480, offHunt := false
            superCand := if at384.getLsbD 1 = true then some 0 else none } ∧
          t.mon = { s.mon with live := { s.mon.live with slip :=
            if s.mon.live.slip.value < 255 then { s.mon.live.slip with value := s.mon.live.slip.value + 1 }
            else { s.mon.live.slip with overflowed := true } } } ∧
          t.handler = { s.handler with buffer := [] } ∧
          SameSetup s t ∧ t.reports = s.reports ∧ t.flags = s.flags ∧ t.lineCode = s.lineCode ∧ t.tx = s.tx ∧
          t.token = s.token ∧ t.refusal = s.refusal ∧ t.upper = s.upper ∧ t.lower = s.lower ∧ t.line = s.line ∧
          t.pos = s.pos ∧ t.sup = s.sup ∧ t.contact = s.contact ∧ t.brk = s.brk ∧ t.doors = s.doors
      else
        exec (.offlineCandidateTest pos at192 at384) s = .next (s.withRx { s.rx with offSearch := pos + 1 })) ∧
    (∀ n a, s.rx.offTimer = some n → s.rx.align = some a →
      exec .offlineTimerExpiry s =
        .next (s.withRx { s.rx with offTimer := none, offHunt := true, offSearch := a })) ∧
    (∀ n, s.rx.fallTimer = some n →
      if s.rx.state = .frame then
        ∃ t, exec .fallbackTimerExpiry s = .next t ∧
          t = (s.withRx { s.rx with fallTimer := none, state := .unchecked }).withFlags t.flags ∧ Flagged t .radio ∧
          t.valleyRank = 1
      else exec .fallbackTimerExpiry s = .next (s.withRx { s.rx with fallTimer := none }))

/-- R146, R148: a bad header counts SYNC_ERR, and the third in a row is a frame loss: LOSS, HUNT, the alignment
dropped, the handler's message discarded, a LIVE code HELD. HEADER_RECEIVED. The bit numbers are the model's choice
(log 12). -/
def Obligations.ThirdBadHeaderIsAFrameLoss : Prop :=
  ∀ (s : State) (h : Octet) (a : Nat), h.toNat / 4 ≠ 26 → s.rx.align = some a → s.rx.state ≠ .hunt →
    ∃ t, exec (.headerReceived h) s = .next t ∧
      t.mon.live.syncErr = (if s.mon.live.syncErr.value < 65535 then
        { s.mon.live.syncErr with value := s.mon.live.syncErr.value + 1 }
        else { s.mon.live.syncErr with overflowed := true }) ∧
      (s.rx.badHeaders < 2 →
        t.rx.state = s.rx.state ∧ t.rx.align = some (a + 192) ∧ t.rx.badHeaders = s.rx.badHeaders + 1 ∧
        t.rx.superCand = (if s.rx.state = .checked then s.rx.superCand else none) ∧
        t.rx.frameNo = (if s.rx.state = .checked then s.rx.frameNo.map (fun f => (f + 1) % 8) else s.rx.frameNo) ∧
        t.handler = s.handler ∧ t.lineCode = s.lineCode ∧ t.flags = s.flags) ∧
      (2 ≤ s.rx.badHeaders →
        t.rx.state = .hunt ∧ t.rx.align = none ∧ t.rx.frameNo = none ∧ t.rx.superCand = none ∧ t.rx.offTimer = none ∧
        t.rx.fallTimer = none ∧ t.rx.offHunt = false ∧ t.rx.search = a + 200 ∧ t.rx.judged = 0 ∧ t.rx.failed = 0 ∧
        t.mon.live.loss = (if s.mon.live.loss.value < 255 then
          { s.mon.live.loss with value := s.mon.live.loss.value + 1 }
          else { s.mon.live.loss with overflowed := true }) ∧
        t.handler = { s.handler with buffer := [] } ∧ Flagged t .radio ∧
        (s.rx.state = .checked → s.lineCode.condition = .live → t.lineCode.condition = .held ∧
          t.lineCode.value = s.lineCode.value ∧ t.lineCode.holdTimer = some (s.params.degrade * 1000))) ∧
      SameSetup s t ∧ t.tx = s.tx ∧ t.token = s.token ∧ t.refusal = s.refusal ∧ t.upper = s.upper ∧
      t.lower = s.lower ∧ t.pos = s.pos ∧ t.doors = s.doors ∧ t.mode = s.mode

/-- R149, R152: good headers move the superframe candidate, complete the acquisition, and are judged for the marker in
CHECKED. HEADER_RECEIVED. The bit numbers are the model's choice (log 12). -/
def Obligations.GoodHeadersSeekAndKeepTheSuperframe : Prop :=
  ∀ (s : State) (h : Octet) (a : Nat), h.toNat / 4 = 26 → s.rx.align = some a →
    ∃ t, exec (.headerReceived h) s = .next t ∧ t.rx.align = some (a + 192) ∧ t.rx.badHeaders = 0 ∧
      t.mon = s.mon ∧ t.handler = s.handler ∧ t.mode = { s.mode with window := s.mode.window.map Window.moved } ∧
      (s.rx.state = .frame ∨ s.rx.state = .unchecked →
        (h.getLsbD 1 = true → s.rx.superCand = some 7 →
          t.rx.state = .checked ∧ t.rx.frameNo = some 0 ∧ t.rx.offTimer = none ∧ t.rx.fallTimer = none ∧
          t.rx.offHunt = false ∧ t.rx.judged = 0 ∧ t.rx.failed = 0 ∧ t.rx.halfWhole = false ∧ t.valleyRank = 3 ∧
          Flagged t .radio ∧ (s.lineCode.condition = .held → t.lineCode.condition = .live)) ∧
        (h.getLsbD 1 = true → s.rx.superCand ≠ some 7 →
          t.rx.state = s.rx.state ∧ t.rx.superCand = some 0 ∧ t.lineCode = s.lineCode) ∧
        (h.getLsbD 1 = false →
          t.rx.state = s.rx.state ∧ t.lineCode = s.lineCode ∧
          t.rx.superCand = (match s.rx.superCand with
            | some n => if n < 7 then some (n + 1) else none
            | none => none))) ∧
      (∀ f, s.rx.state = .checked → s.rx.frameNo = some f →
        (h.getLsbD 1 = decide ((f + 1) % 8 = 0) →
          t.rx.state = .checked ∧ t.rx.frameNo = some ((f + 1) % 8) ∧ t.lineCode = s.lineCode) ∧
        (h.getLsbD 1 ≠ decide ((f + 1) % 8 = 0) →
          if (if (f + 1) % 8 = 0 then s.rx.violated else s.rx.violatedPrev) = true then
            t.rx.state = .frame ∧ t.rx.frameNo = none ∧ t.rx.offTimer = some 480 ∧ t.rx.fallTimer = some 4000 ∧
            t.rx.superCand = (if h.getLsbD 1 = true then some 0 else none) ∧ Flagged t .radio ∧
            (s.lineCode.condition = .live → t.lineCode.condition = .held)
          else t.rx.state = .checked ∧ t.rx.frameNo = some ((f + 1) % 8) ∧ t.rx.violated = true ∧
            t.lineCode = s.lineCode)) ∧
      SameSetup s t ∧ t.tx = s.tx ∧ t.token = s.token ∧ t.refusal = s.refusal ∧ t.upper = s.upper ∧
      t.lower = s.lower ∧ t.pos = s.pos ∧ t.doors = s.doors

/-- R153, R154, R155: a whole half is judged by its check octet; a failure counts CHECK_FAIL and sets the far-end
pending mark, the eighth in a window of sixteen is a loss; a far-end bit counts FAR_FAIL. CHECK_OCTET_RECEIVED,
FAR_END_REPORT. That the command carries the half's octets is the model's choice (log 28). -/
def Obligations.HalvesAreJudgedByTheirCheck : Prop :=
  ∀ (s : State) (half : List Octet) (check : Octet), s.rx.state = .checked →
    (s.rx.frameNo = some 0 ∨ s.rx.frameNo = some 4 → s.rx.halfWhole = true → s.rx.judged < 16 → s.rx.failed < 8 →
      ∃ t, exec (.checkOctetReceived half check) s = .next t ∧
        (crc8 (half.set 23 0#8) = check →
          t = s.withRx { s.rx with
            halfWhole := false
            judged := if s.rx.judged = 15 then 0 else s.rx.judged + 1
            failed := if s.rx.judged = 15 then 0 else s.rx.failed }) ∧
        (crc8 (half.set 23 0#8) ≠ check →
          t.mon.live.checkFail = (if s.mon.live.checkFail.value < 1023 then
            { s.mon.live.checkFail with value := s.mon.live.checkFail.value + 1 }
            else { s.mon.live.checkFail with overflowed := true }) ∧
          t.rx.farPending = true ∧
          (if s.rx.failed = 7 then
            t.rx.state = .hunt ∧ t.rx.align = none ∧ t.mon.live.loss = (if s.mon.live.loss.value < 255 then
              { s.mon.live.loss with value := s.mon.live.loss.value + 1 }
              else { s.mon.live.loss with overflowed := true }) ∧
            t.handler = { s.handler with buffer := [] } ∧ t.valleyRank = 0 ∧ Flagged t .radio
           else t.rx = { s.rx with
             halfWhole := false, farPending := true
             judged := if s.rx.judged = 15 then 0 else s.rx.judged + 1
             failed := if s.rx.judged = 15 then 0 else s.rx.failed + 1 } ∧ t.mon.live.loss = s.mon.live.loss)) ∧
        SameSetup s t ∧ t.tx = s.tx ∧ t.token = s.token ∧ t.refusal = s.refusal ∧ t.upper = s.upper ∧
        t.lower = s.lower ∧ t.pos = s.pos ∧ t.doors = s.doors ∧ t.mode = s.mode) ∧
    (s.rx.frameNo = some 1 ∨ s.rx.frameNo = some 5 →
      exec (.farEndReport check) s = .next (if check.getLsbD 7 = true then
        s.withMon { s.mon with live := { s.mon.live with farFail :=
          if s.mon.live.farFail.value < 1023 then { s.mon.live.farFail with value := s.mon.live.farFail.value + 1 }
          else { s.mon.live.farFail with overflowed := true } } }
        else s))

/-- R157, R158, R85: a code octet's value is debounced over three; taken, it is LIVE and drives the VALLEY term and the
LINECODE flags; the hold timer's expiry makes a HELD code EXPIRED, whatever time the timer still shows (the model's
choice, log 3). CODE_OCTET, LINE_CODE_HOLD_EXPIRY. -/
def Obligations.LineCodeIsDebouncedAndHeld : Prop :=
  ∀ (s : State),
    (∀ (o : Octet), s.rx.state = .checked → s.rx.frameNo = some 2 ∨ s.rx.frameNo = some 6 →
      ∃ t run, exec (.codeOctet o) s = .next t ∧
        run = (if s.lineCode.candidate = some (o.toNat % 16) then min 3 (s.lineCode.run + 1) else 1) ∧
        t.lineCode.candidate = some (o.toNat % 16) ∧ t.lineCode.run = run ∧
        (run = 3 → t.lineCode.value = some (o.toNat % 16) ∧ t.lineCode.condition = .live) ∧
        (run ≠ 3 → t.lineCode.value = s.lineCode.value ∧ t.lineCode.condition = s.lineCode.condition ∧
          t.flags = s.flags ∧ t.brk = s.brk ∧ t.sup = s.sup) ∧
        ((t.lineCode.value, t.lineCode.condition) ≠ (s.lineCode.value, s.lineCode.condition) →
          Flagged t .lineCode ∧
          t.brk.terms.valley = (if s.handler.stopService = true ∨ o.toNat % 16 = 5 then 100 else 0)) ∧
        SameSetup s t ∧ t.rx = s.rx ∧ t.tx = s.tx ∧ t.handler = s.handler ∧ t.mon = s.mon ∧ t.token = s.token ∧
        t.refusal = s.refusal ∧ t.upper = s.upper ∧ t.lower = s.lower ∧ t.pos = s.pos ∧ t.doors = s.doors ∧
        t.mode = s.mode) ∧
    (∀ n, s.lineCode.holdTimer = some n → s.lineCode.condition = .held →
      ∃ t, exec .lineCodeHoldExpiry s = .next t ∧
        t.lineCode = { s.lineCode with condition := .expired, holdTimer := none } ∧ t.lineCode.effective = .caution ∧
        Flagged t .lineCode ∧ t.brk.terms.valley = (if s.handler.stopService = true then 100 else 0) ∧
        SameSetup s t ∧ t.rx = s.rx ∧ t.tx = s.tx ∧ t.handler = s.handler ∧ t.mon = s.mon ∧ t.token = s.token ∧
        t.refusal = s.refusal ∧ t.upper = s.upper ∧ t.lower = s.lower ∧ t.pos = s.pos ∧ t.doors = s.doors ∧
        t.mode = s.mode)

/-! ## The transmit side and the reports -/

/-- R160, R161, R176: while keyed a frame is sent: header with marker and remote alarm, 22 octets of the handler, the
overhead octet of its place; unkeyed the transmit side is silent. The channel octets are those of the reports in their
order: a report that ends inside a frame leaves the queue and the next begins at the very next octet, and an ALARM that
was cut short goes again whole under the number it took. TRANSMIT_FRAME. That a frame goes out whole in one step is the
model's choice (log 22), and that a report keeps the car id of where it was placed, a backlog ALARM that of where it takes
the slot freed, is deduced (log 31). -/
def Obligations.FramesCarryHeaderReportAndOverhead : Prop :=
  ∀ (s : State),
    (s.tx.frameNo = none → exec .transmitFrame s = .next s) ∧
    (∀ f, s.tx.frameNo = some f → f < 8 →
      ∃ t header channel overhead, exec .transmitFrame s = .next t ∧
        header = oct (104 + (if f = 0 then 2 else 0) + (if s.rx.state = .hunt then 1 else 0)) ∧
        overhead = (if f = 0 ∨ f = 4 then s.tx.prevCheck.getD 0#8
          else if (f = 1 ∨ f = 5) ∧ s.rx.farPending = true then 0x80#8 else 0#8) ∧
        channel.length = 22 ∧
        (s.reports.queue = [] → channel = List.replicate 22 0#8 ∧ t.reports = s.reports) ∧
        (∀ x rest, s.reports.queue = x :: rest → x.sending = true → x.given + 22 < x.octets.length →
          channel = (x.octets.drop x.given).take 22 ∧
          t.reports = { s.reports with queue := { x with given := x.given + 22 } :: rest }) ∧
        (∀ x rest y, s.reports.queue = x :: rest → x.sending = false → x.number = none →
          y = ({ x with number := some ((s.reports.number + 1) % 256), sending := true, given := 22 } : Slot) →
          22 < y.octets.length →
          channel = y.octets.take 22 ∧
          t.reports = { s.reports with queue := y :: rest, number := (s.reports.number + 1) % 256 }) ∧
        ((∀ x ∈ s.reports.queue, x.sending = true → x.given < x.octets.length) →
          (channel, t.reports) = Reports.channelOctets (oct s.params.carId) 22 22 s.reports) ∧
        (∀ x y k, s.reports.queue = [x] → s.reports.backlog = [] → x.sending = false → x.number = some k →
          y = ({ x with sending := true, given := 0 } : Slot) → y.octets.length ≤ 22 →
          channel = y.octets ++ List.replicate (22 - y.octets.length) 0#8 ∧
          t.reports = { s.reports with queue := [] }) ∧
        t.tx.lastFrame = header :: channel ++ [overhead] ∧ t.tx.frameNo = some ((f + 1) % 8) ∧
        t.tx.alarm = decide (s.rx.state = .hunt) ∧
        t.tx.half = (if f = 0 ∨ f = 4 then header :: channel ++ [0#8] else s.tx.half ++ header :: channel ++ [overhead]) ∧
        t.tx.prevCheck = (if f = 3 ∨ f = 7 then some (crc8 t.tx.half) else s.tx.prevCheck) ∧
        t.rx = { s.rx with farPending := if f = 1 ∨ f = 5 then false else s.rx.farPending } ∧
        SameSetup s t ∧ SameCabs s t ∧ SameCar s t ∧ t.handler = s.handler ∧ t.lineCode = s.lineCode ∧ t.mon = s.mon)

/-- R172, R174, R175, R176, R178: a sent report leaves the queue and a backlog entry takes the freed slot; the report
timer offers a STATUS and restarts; the transfer timer makes a transfer and restarts. REPORT_SENT, REPORT_TIMER_EXPIRY,
TRANSFER_TIMER_EXPIRY. The model's choices are an expiry of the transfer timer while AUTO_TRANSFER is 0 (log 15), the car
id's moment (log 31), and that an expiry acts whatever time its timer still shows (log 3). -/
def Obligations.ReportAndTransferTimersAct : Prop :=
  ∀ (s : State) (n : Nat),
    (∀ x rest, s.reports.queue = x :: rest → x.sending = true →
      exec .reportSent s = .next (s.withReports { s.reports with
        queue := rest ++ (s.reports.backlog.head?.toList.map fun a =>
          { report := .alarm a, carId := oct s.params.carId, number := none, sending := false, given := 0 })
        backlog := s.reports.backlog.tail })) ∧
    (s.reports.timer = some n →
      (s.reports.queue.length < 4 → (∀ x ∈ s.reports.queue, x.isWaitingStatus = false) →
        exec .reportTimerExpiry s = .next (s.withReports { s.reports with
          queue := s.reports.queue ++ [{ report := .status s.statusPayload, carId := oct s.params.carId, number := none,
                                         sending := false, given := 0 }]
          timer := some 500 })) ∧
      (4 ≤ s.reports.queue.length → (∀ x ∈ s.reports.queue, x.isWaitingStatus = false) →
        exec .reportTimerExpiry s = .next (s.withReports { s.reports with timer := some 500 })) ∧
      (∀ l x r, s.reports.queue = l ++ x :: r → x.isWaitingStatus = true →
        (∀ y ∈ l ++ r, y.isWaitingStatus = false) →
        exec .reportTimerExpiry s = .next (s.withReports { s.reports with
          queue := l ++ { report := .status s.statusPayload, carId := oct s.params.carId, number := none,
                          sending := false, given := 0 } :: r
          timer := some 500 }))) ∧
    (s.mon.timer = some n →
      exec .transferTimerExpiry s =
        .next (s.withMon (if s.params.autoTransfer = 1 then
          { live := Counters.zero, interval := 0, snapshot := s.mon.live, snapInterval := s.mon.interval,
            timer := some 1000 }
          else { s.mon with timer := none })))

/-- R173, R175: the ALARM of a joining cause carries the first-cause record as it then stands and is placed: behind a
backlog that is not empty, where an entry of its kind counts the repeat instead; else in a free slot; else in the place
made by removing a STATUS that waits; else in the backlog. A kind already held queues none (R99). Shown by STOP_EMERGENCY
with the contact LIVE. R176: an unkeying cuts the report being sent: a STATUS is removed and a backlog entry takes its
slot, an ALARM stays at the head. Shown by PARK without an authority at speed 0. STOP_EMERGENCY, PARK. The car id's
moment is the model's choice (log 31). -/
def Obligations.AlarmsArePlacedAndReportsCut : Prop :=
  ∀ (s : State),
    (∀ (m : ValleyMsg) (rest : List Octet) (f : FirstCause) (a : Alarm) (x : Slot),
      s.takes 36#8 m = true → m.payload = 2#8 :: rest → s.contact.state = .live →
      (if s.brk.causes.isEmpty = true then
        f = { kind := .valleyStop, count := s.pos.count, speed := s.pos.speed, mode := s.mode.mode }
       else s.brk.first = some f) →
      a = { kind := .valleyStop, first := f, repeats := 1 } →
      x = { report := .alarm a, carId := oct s.params.carId, number := none, sending := false, given := 0 } →
      ∃ t, exec (.stopEmergency m) s = .next t ∧
        (s.brk.causes.valleyStop = true → t.reports = s.reports) ∧
        (s.brk.causes.valleyStop = false →
          t.brk.first = some f ∧ Flagged t .causes ∧ t.brk.terms.emergency = 100 ∧
          (s.reports.backlog = [] → s.reports.queue.length < 4 →
            t.reports = { s.reports with queue := s.reports.queue ++ [x] }) ∧
          (s.reports.backlog = [] → 4 ≤ s.reports.queue.length →
            (∀ l y r, s.reports.queue = l ++ y :: r → y.isWaitingStatus = true →
              (∀ z ∈ l ++ r, z.isWaitingStatus = false) →
              t.reports = { s.reports with queue := l ++ r ++ [x] }) ∧
            ((∀ z ∈ s.reports.queue, z.isWaitingStatus = false) → t.reports = { s.reports with backlog := [a] })) ∧
          (s.reports.backlog ≠ [] →
            ((∀ b ∈ s.reports.backlog, b.kind ≠ .valleyStop) →
              t.reports = { s.reports with backlog := s.reports.backlog ++ [a] }) ∧
            (∀ l b r, s.reports.backlog = l ++ b :: r → b.kind = .valleyStop →
              (∀ z ∈ l ++ r, z.kind ≠ .valleyStop) →
              t.reports = { s.reports with
                backlog := l ++ { b with repeats := min 255 (b.repeats + 1) } :: r })))) ∧
    (∀ m : CabMsg, s.admits 23#8 m = true → s.token.driving = some m.cab → s.pos.standstill = true →
      s.doors.allClosed = true → s.brk.causes.isEmpty = true → s.mode.mode = .drive → s.mode.modemKey = true →
      s.pos.speed = 0 → s.line.authority = none →
      ∃ t, exec (.park m) s = .next t ∧ t.mode.modemKey = false ∧ t.reports.timer = none ∧
        t.reports.number = s.reports.number ∧
        (s.reports.queue = [] → t.reports.queue = [] ∧ t.reports.backlog = s.reports.backlog) ∧
        (∀ x rest, s.reports.queue = x :: rest →
          (x.sending = false → t.reports.queue = s.reports.queue ∧ t.reports.backlog = s.reports.backlog) ∧
          (∀ a, x.sending = true → x.report = .alarm a →
            t.reports.queue = { x with sending := false, given := 0 } :: rest ∧
            t.reports.backlog = s.reports.backlog) ∧
          (∀ p, x.sending = true → x.report = .status p →
            t.reports.queue = rest ++ (s.reports.backlog.head?.toList.map fun a =>
              { report := .alarm a, carId := oct s.params.carId, number := none, sending := false, given := 0 }) ∧
            t.reports.backlog = s.reports.backlog.tail)))

/-! ## The mode controller -/

/-- R193, R195, R159: in PARKED the period timer opens a window, in which the framer begins its search in HUNT, and the
window end takes modem power away, the framer going to HUNT without a LOSS; the end of waking goes to READY with the wake
event where both checks pass, and raises BRAKE_FEEDBACK or puts unlocked leaves into FAULT where one fails. R196, R14: the
readback timer starts at 20 ms when a readback disagrees with its valve command, runs on while one does, and is cancelled
when both agree; a store verification that agrees times the next. PERIOD_TIMER_EXPIRY, WINDOW_CLOSE, CHECK_TIMER_EXPIRY,
VALVE_READBACK_CHANGE, STORE_VERIFICATION. The model's choices are the numbering of bits from a search's beginning (log
12), the dropping of an alignment at an opening (log 14), the order at the end of waking (log 19), the start of the
readback timer at a change that finds a disagreement standing, as after a reset (log 34), and that an expiry acts whatever
time its timer still shows (log 3). -/
def Obligations.WatchAndWakingTimersAct : Prop :=
  ∀ (s : State) (n : Nat) (b : BrakeId) (energized : Bool),
    (s.mode.periodTimer = some n →
      ∃ t, exec .periodTimerExpiry s = .next t ∧
        t.mode = { s.mode with
          periodTimer := some 10000, window := some { elapsed := 0, closeAt := 2000 }, modemPower := true } ∧
        t.rx.state = .hunt ∧ t.rx.search = 0 ∧
        (s.rx.state = .hunt → t = (s.withMode t.mode).withRx { s.rx with search := 0 }) ∧
        (s.rx.state ≠ .hunt → t.rx.align = none ∧ t.handler = { s.handler with buffer := [] } ∧ Flagged t .radio) ∧
        (s.rx.state = .checked → s.lineCode.condition = .live → t.lineCode.condition = .held) ∧
        SameSetup s t ∧ t.mon = s.mon ∧ t.tx = s.tx ∧ t.reports.timer = s.reports.timer ∧ t.token = s.token ∧
        t.refusal = s.refusal ∧ t.upper = s.upper ∧ t.lower = s.lower ∧ t.pos = s.pos ∧ t.doors = s.doors) ∧
    (∀ w, s.mode.window = some w → s.mode.modemPower = true →
      ∃ t, exec .windowClose s = .next t ∧ t.mode = { s.mode with window := none, modemPower := false } ∧
        t.handler = { s.handler with buffer := [] } ∧ t.rx.state = .hunt ∧ t.mon = s.mon ∧
        (s.rx.state ≠ .hunt → t.rx.align = none ∧ t.rx.search = 0 ∧ Flagged t .radio) ∧
        (s.rx.state = .checked → s.lineCode.condition = .live → t.lineCode.condition = .held) ∧
        SameSetup s t ∧ t.tx = s.tx ∧ t.reports.timer = s.reports.timer ∧ t.token = s.token ∧ t.refusal = s.refusal ∧
        t.upper = s.upper ∧ t.lower = s.lower ∧ t.pos = s.pos ∧ t.doors = s.doors ∧
        t.line = { s.line with authority := t.line.authority }) ∧
    (s.mode.checkTimer = some n → s.mode.mode = .waking → s.doors.sideReleased = false →
      s.brk.rack.state.energized = false → s.brk.hold.state.energized = false →
      ∃ t, exec .checkTimerExpiry s = .next t ∧ t.mode.mode = .ready ∧ t.mode.checkTimer = none ∧
        t.mode.modemPower = true ∧ t.mode.modemKey = true ∧ Flagged t .mode ∧
        (s.brk.rack.state = .applied → s.brk.hold.state = .applied →
          t.brk.causes = s.brk.causes ∧ (s.doors.allClosed = true → Flagged t .wake) ∧
          (s.brk.causes.isEmpty = true → t.brk.rack.state =
            (if s.brk.rack.feedback = .clear then BrakeState.released else .releasing))) ∧
        (s.brk.rack.state ≠ .applied ∨ s.brk.hold.state ≠ .applied → t.brk.causes.brakeFeedback = true ∧
          t.flags.upper.wake = s.flags.upper.wake ∧ t.flags.lower.wake = s.flags.lower.wake) ∧
        (s.doors.allClosed = true → t.doors = s.doors) ∧
        (s.doors.allClosed = false → ∀ i, t.doors.leaf i =
          (if (s.doors.leaf i).locked = true ∨ (s.doors.leaf i).state = .fault then s.doors.leaf i
           else { s.doors.leaf i with state := .fault, timer := none })) ∧
        SameSetup s t ∧ t.token = s.token ∧ t.refusal = s.refusal ∧ t.upper = s.upper ∧ t.lower = s.lower ∧
        t.pos = s.pos ∧ t.line = s.line ∧ t.lineCode = s.lineCode ∧ t.handler = s.handler ∧ t.mon = s.mon) ∧
    (∃ t rackRead holdRead, exec (.valveReadbackChange b energized) s = .next t ∧
      rackRead = (if b = .rack then energized else s.valves.rackReadback) ∧
      holdRead = (if b = .hold then energized else s.valves.holdReadback) ∧
      t = s.withValves { rackReadback := rackRead, holdReadback := holdRead, timer :=
        if rackRead = s.brk.rack.state.energized ∧ holdRead = s.brk.hold.state.energized then none
        else match s.valves.timer with
          | some n => some n
          | none => some 20 }) ∧
    (∀ n, s.line.verifyTimer = some n →
      crc16 ((s.line.segments.map fun e => e.2.store).flatten ++ (s.line.markers.map fun e => markerStore e.2).flatten)
        = s.line.storeCheck →
      exec .storeVerification s = .next (s.withLine { s.line with verifyTimer := some 10000 }))

/-! ## Resets -/

/-- R198, R107, R126, R143, R163, R180, R190: the two commanded resets, the expiry of the readback timer (R196) and a
failed store verification (R14) set the blocks to the values of their chapters; a power-on reset takes gates,
parameters, profile and position to theirs, the others keep the setup, the count and a profile whose check passes
(R15). POWER_ON_RESET, PIN_RESET, READBACK_TIMER_EXPIRY, STORE_VERIFICATION. The model's choices are that the queue is kept
(log 30), that a reset leaves the readback timer stopped (log 34), and that an expiry acts whatever time its timer still
shows (log 3). -/
def Obligations.ResetsSetEveryBlock : Prop :=
  ∀ (s : State) (c : Instr) (k : ResetKind) (pass : Bool),
    ((c = .powerOnReset ∧ k = .powerOn) ∨ (c = .pinReset ∧ k = .pin) ∨
      (c = .readbackTimerExpiry ∧ k = .internalOutput ∧ s.valves.timer ≠ none) ∨
      (c = .storeVerification ∧ k = .internalStore ∧ s.line.verifyTimer ≠ none ∧ s.line.freshCheck ≠ s.line.storeCheck)) →
    pass = (decide (k ≠ .powerOn) && decide (s.line.profile = .valid) && decide (s.line.freshCheck = s.line.storeCheck)) →
    ∃ t, exec c s = .next t ∧
      t.mode.mode = (if pass = true then .ready else .config) ∧ t.mode.modemPower = true ∧ t.mode.modemKey = true ∧
      t.mode.periodTimer = none ∧ t.mode.window = none ∧ t.mode.checkTimer = none ∧
      t.mode.resetCauses = (match k with
        | .powerOn => { power := true }
        | .pin => { s.mode.resetCauses with pin := true }
        | .internalStore => { s.mode.resetCauses with store := true }
        | .internalOutput => { s.mode.resetCauses with output := true }) ∧
      (if k = .powerOn then t.params = paramDefaults ∧ t.gates = gateDefaults ∧ t.pos.count = 0 ∧
          t.pos.confidence = .unknown
        else t.params = s.params ∧ t.gates = s.gates ∧ t.pos.count = s.pos.count ∧ t.pos.confidence = .declared) ∧
      t.pos.phase = s.pos.phase ∧ t.pos.standstill = true ∧ t.pos.speed = 0 ∧ t.pos.dir = none ∧ t.pos.distance = 0 ∧
      t.pos.correction = 0 ∧
      t.line = (if pass = true then { s.line with loader := none, authority := none, verifyTimer := some 10000 }
        else LineStore.emptied) ∧
      t.token = Token.nobody ∧ t.refusal = none ∧ t.upper = Port.atReset ∧ t.lower = Port.atReset ∧
      (∀ f, f ≠ .mode → t.flags.upper.has f = false ∧ t.flags.lower.has f = false) ∧ Flagged t .mode ∧
      t.brk.causes = { restart := true } ∧
      t.brk.first = some { kind := .restart, count := t.pos.count, speed := 0, mode := t.mode.mode } ∧
      t.brk.terms = { driver := 0, supervision := 0, vigilance := 0, valley := 0, door := 0, contact := 100,
                      emergency := 100 } ∧
      t.brk.serviceOut = 100 ∧ t.brk.tractionCut = true ∧ t.brk.long = true ∧
      (∀ b, (t.brk.get b).state = (if (s.brk.get b).feedback = .applied then .applied else .applying)) ∧
      t.doors.sideReleased = false ∧
      (∀ b, (t.brk.get b).feedback = (s.brk.get b).feedback ∧
        (t.brk.get b).timer = (if (s.brk.get b).feedback = .applied then none else some 800)) ∧
      t.brk.vigTimer = none ∧ t.brk.holdTimer = none ∧ t.brk.rollCount = 0 ∧
      (∀ i, t.doors.leaf i = { s.doors.leaf i with
        state := if (s.doors.leaf i).locked = true then .closedLocked else .fault, timer := none, reversals := 0 }) ∧
      t.valves = { s.valves with timer := none } ∧ t.contact = { value := 600000, state := .void, shadow := false } ∧
      t.sup = { travel := none, permitted := 0, warning := t.params.warningMargin,
                limiting := if pass = true then .noDirection else .noProfile, targets := [], state := .normal,
                passedMark := false, evalTimer := 50 } ∧
      t.rx.state = .hunt ∧ t.rx.align = none ∧ t.rx.frameNo = none ∧ t.rx.farPending = false ∧ t.rx.offTimer = none ∧
      t.rx.fallTimer = none ∧ t.rx.offHunt = false ∧ t.rx.judged = 0 ∧ t.rx.failed = 0 ∧
      t.lineCode = { candidate := none, run := 0, value := none, condition := .expired, holdTimer := none } ∧
      t.lineCode.effective = .caution ∧ t.tx.frameNo = some 0 ∧ t.tx.prevCheck = none ∧
      t.handler = { buffer := [], outcomes := { accepted := none, refused := none, reason := none, tally := 0 },
                    lineVersion := none, versionInd := false, stopService := false, stopEmergency := false } ∧
      t.mon = { live := Counters.zero, interval := 0, snapshot := Counters.zero, snapInterval := 0,
                timer := if t.params.autoTransfer = 1 then some 1000 else none } ∧
      t.reports.queue.map Slot.report = [.alarm {
          kind := .restart
          first := { kind := .restart, count := t.pos.count, speed := 0, mode := t.mode.mode }
          repeats := 1 }, .status t.statusPayload] ∧
      t.reports.backlog = [] ∧ t.reports.number = 0 ∧ t.reports.timer = some 500 ∧ t.pending = s.pending

/-! ## Laws of every step -/

/-- The law of outputs at the reset state, and every other law of the machine. The wired inputs at reset are the
model's choice (log 5). -/
def Obligations.ResetMeetsTheLaws : Prop :=
  OutputLaw State.reset ∧ CauseLaw State.reset ∧ TermLaw State.reset ∧ CarLaw State.reset ∧ StoreLaw State.reset

/-- R82, R88: no step breaks the law of the outputs: the service output is the largest term, and traction is cut exactly
while it is above 0 or a spring brake is not RELEASED. -/
def Obligations.StepsKeepTheOutputs : Prop :=
  ∀ s t : State, OutputLaw s → step s = .next t → OutputLaw t

/-- R87, R103: no step breaks the law of the cause set. R83, R85, R78: nor the law of the terms that others drive. -/
def Obligations.StepsKeepCausesAndTerms : Prop :=
  ∀ s t : State, step s = .next t → (CauseLaw s → CauseLaw t) ∧ (TermLaw s → TermLaw t)

/-- R94, R95, R110, R127, R136, R191, R5: no step breaks the laws of the spring brakes, the door sides, the token and the car
mode. -/
def Obligations.StepsKeepTheCar : Prop :=
  ∀ s t : State, CarLaw s → step s = .next t → CarLaw t

/-- R1, R3, R22, R37, R59, R130, R135: no step breaks the laws of the stored records: the tables in index order, the
restriction list in id order and at most 16 long, the count in its range, parameters in their ranges and order. -/
def Obligations.StepsKeepTheStores : Prop :=
  ∀ s t : State, StoreLaw s → step s = .next t → StoreLaw t
end

