-- ==== Sys2Proof/Laws/State.lean ====
section
/-! SUPPORT. One lemma per field per replacement of a block of State, each true by rfl. -/

namespace Sys2Proof.Machine

@[simp] theorem State.withParams_params (s : State) (x : Params) : (s.withParams x).params = x := rfl
@[simp] theorem State.withParams_gates (s : State) (x : Params) : (s.withParams x).gates = s.gates := rfl
@[simp] theorem State.withParams_token (s : State) (x : Params) : (s.withParams x).token = s.token := rfl
@[simp] theorem State.withParams_refusal (s : State) (x : Params) : (s.withParams x).refusal = s.refusal := rfl
@[simp] theorem State.withParams_line (s : State) (x : Params) : (s.withParams x).line = s.line := rfl
@[simp] theorem State.withParams_pos (s : State) (x : Params) : (s.withParams x).pos = s.pos := rfl
@[simp] theorem State.withParams_contact (s : State) (x : Params) : (s.withParams x).contact = s.contact := rfl
@[simp] theorem State.withParams_sup (s : State) (x : Params) : (s.withParams x).sup = s.sup := rfl
@[simp] theorem State.withParams_brk (s : State) (x : Params) : (s.withParams x).brk = s.brk := rfl
@[simp] theorem State.withParams_valves (s : State) (x : Params) : (s.withParams x).valves = s.valves := rfl
@[simp] theorem State.withParams_doors (s : State) (x : Params) : (s.withParams x).doors = s.doors := rfl
@[simp] theorem State.withParams_upper (s : State) (x : Params) : (s.withParams x).upper = s.upper := rfl
@[simp] theorem State.withParams_lower (s : State) (x : Params) : (s.withParams x).lower = s.lower := rfl
@[simp] theorem State.withParams_flags (s : State) (x : Params) : (s.withParams x).flags = s.flags := rfl
@[simp] theorem State.withParams_rx (s : State) (x : Params) : (s.withParams x).rx = s.rx := rfl
@[simp] theorem State.withParams_lineCode (s : State) (x : Params) : (s.withParams x).lineCode = s.lineCode := rfl
@[simp] theorem State.withParams_tx (s : State) (x : Params) : (s.withParams x).tx = s.tx := rfl
@[simp] theorem State.withParams_handler (s : State) (x : Params) : (s.withParams x).handler = s.handler := rfl
@[simp] theorem State.withParams_reports (s : State) (x : Params) : (s.withParams x).reports = s.reports := rfl
@[simp] theorem State.withParams_mon (s : State) (x : Params) : (s.withParams x).mon = s.mon := rfl
@[simp] theorem State.withParams_mode (s : State) (x : Params) : (s.withParams x).mode = s.mode := rfl
@[simp] theorem State.withParams_pending (s : State) (x : Params) : (s.withParams x).pending = s.pending := rfl
@[simp] theorem State.withGates_params (s : State) (x : List GateEntry) : (s.withGates x).params = s.params := rfl
@[simp] theorem State.withGates_gates (s : State) (x : List GateEntry) : (s.withGates x).gates = x := rfl
@[simp] theorem State.withGates_token (s : State) (x : List GateEntry) : (s.withGates x).token = s.token := rfl
@[simp] theorem State.withGates_refusal (s : State) (x : List GateEntry) : (s.withGates x).refusal = s.refusal := rfl
@[simp] theorem State.withGates_line (s : State) (x : List GateEntry) : (s.withGates x).line = s.line := rfl
@[simp] theorem State.withGates_pos (s : State) (x : List GateEntry) : (s.withGates x).pos = s.pos := rfl
@[simp] theorem State.withGates_contact (s : State) (x : List GateEntry) : (s.withGates x).contact = s.contact := rfl
@[simp] theorem State.withGates_sup (s : State) (x : List GateEntry) : (s.withGates x).sup = s.sup := rfl
@[simp] theorem State.withGates_brk (s : State) (x : List GateEntry) : (s.withGates x).brk = s.brk := rfl
@[simp] theorem State.withGates_valves (s : State) (x : List GateEntry) : (s.withGates x).valves = s.valves := rfl
@[simp] theorem State.withGates_doors (s : State) (x : List GateEntry) : (s.withGates x).doors = s.doors := rfl
@[simp] theorem State.withGates_upper (s : State) (x : List GateEntry) : (s.withGates x).upper = s.upper := rfl
@[simp] theorem State.withGates_lower (s : State) (x : List GateEntry) : (s.withGates x).lower = s.lower := rfl
@[simp] theorem State.withGates_flags (s : State) (x : List GateEntry) : (s.withGates x).flags = s.flags := rfl
@[simp] theorem State.withGates_rx (s : State) (x : List GateEntry) : (s.withGates x).rx = s.rx := rfl
@[simp] theorem State.withGates_lineCode (s : State) (x : List GateEntry) : (s.withGates x).lineCode = s.lineCode := rfl
@[simp] theorem State.withGates_tx (s : State) (x : List GateEntry) : (s.withGates x).tx = s.tx := rfl
@[simp] theorem State.withGates_handler (s : State) (x : List GateEntry) : (s.withGates x).handler = s.handler := rfl
@[simp] theorem State.withGates_reports (s : State) (x : List GateEntry) : (s.withGates x).reports = s.reports := rfl
@[simp] theorem State.withGates_mon (s : State) (x : List GateEntry) : (s.withGates x).mon = s.mon := rfl
@[simp] theorem State.withGates_mode (s : State) (x : List GateEntry) : (s.withGates x).mode = s.mode := rfl
@[simp] theorem State.withGates_pending (s : State) (x : List GateEntry) : (s.withGates x).pending = s.pending := rfl
@[simp] theorem State.withToken_params (s : State) (x : Token) : (s.withToken x).params = s.params := rfl
@[simp] theorem State.withToken_gates (s : State) (x : Token) : (s.withToken x).gates = s.gates := rfl
@[simp] theorem State.withToken_token (s : State) (x : Token) : (s.withToken x).token = x := rfl
@[simp] theorem State.withToken_refusal (s : State) (x : Token) : (s.withToken x).refusal = s.refusal := rfl
@[simp] theorem State.withToken_line (s : State) (x : Token) : (s.withToken x).line = s.line := rfl
@[simp] theorem State.withToken_pos (s : State) (x : Token) : (s.withToken x).pos = s.pos := rfl
@[simp] theorem State.withToken_contact (s : State) (x : Token) : (s.withToken x).contact = s.contact := rfl
@[simp] theorem State.withToken_sup (s : State) (x : Token) : (s.withToken x).sup = s.sup := rfl
@[simp] theorem State.withToken_brk (s : State) (x : Token) : (s.withToken x).brk = s.brk := rfl
@[simp] theorem State.withToken_valves (s : State) (x : Token) : (s.withToken x).valves = s.valves := rfl
@[simp] theorem State.withToken_doors (s : State) (x : Token) : (s.withToken x).doors = s.doors := rfl
@[simp] theorem State.withToken_upper (s : State) (x : Token) : (s.withToken x).upper = s.upper := rfl
@[simp] theorem State.withToken_lower (s : State) (x : Token) : (s.withToken x).lower = s.lower := rfl
@[simp] theorem State.withToken_flags (s : State) (x : Token) : (s.withToken x).flags = s.flags := rfl
@[simp] theorem State.withToken_rx (s : State) (x : Token) : (s.withToken x).rx = s.rx := rfl
@[simp] theorem State.withToken_lineCode (s : State) (x : Token) : (s.withToken x).lineCode = s.lineCode := rfl
@[simp] theorem State.withToken_tx (s : State) (x : Token) : (s.withToken x).tx = s.tx := rfl
@[simp] theorem State.withToken_handler (s : State) (x : Token) : (s.withToken x).handler = s.handler := rfl
@[simp] theorem State.withToken_reports (s : State) (x : Token) : (s.withToken x).reports = s.reports := rfl
@[simp] theorem State.withToken_mon (s : State) (x : Token) : (s.withToken x).mon = s.mon := rfl
@[simp] theorem State.withToken_mode (s : State) (x : Token) : (s.withToken x).mode = s.mode := rfl
@[simp] theorem State.withToken_pending (s : State) (x : Token) : (s.withToken x).pending = s.pending := rfl
@[simp] theorem State.withRefusal_params (s : State) (x : Option Refused) : (s.withRefusal x).params = s.params := rfl
@[simp] theorem State.withRefusal_gates (s : State) (x : Option Refused) : (s.withRefusal x).gates = s.gates := rfl
@[simp] theorem State.withRefusal_token (s : State) (x : Option Refused) : (s.withRefusal x).token = s.token := rfl
@[simp] theorem State.withRefusal_refusal (s : State) (x : Option Refused) : (s.withRefusal x).refusal = x := rfl
@[simp] theorem State.withRefusal_line (s : State) (x : Option Refused) : (s.withRefusal x).line = s.line := rfl
@[simp] theorem State.withRefusal_pos (s : State) (x : Option Refused) : (s.withRefusal x).pos = s.pos := rfl
@[simp] theorem State.withRefusal_contact (s : State) (x : Option Refused) : (s.withRefusal x).contact = s.contact := rfl
@[simp] theorem State.withRefusal_sup (s : State) (x : Option Refused) : (s.withRefusal x).sup = s.sup := rfl
@[simp] theorem State.withRefusal_brk (s : State) (x : Option Refused) : (s.withRefusal x).brk = s.brk := rfl
@[simp] theorem State.withRefusal_valves (s : State) (x : Option Refused) : (s.withRefusal x).valves = s.valves := rfl
@[simp] theorem State.withRefusal_doors (s : State) (x : Option Refused) : (s.withRefusal x).doors = s.doors := rfl
@[simp] theorem State.withRefusal_upper (s : State) (x : Option Refused) : (s.withRefusal x).upper = s.upper := rfl
@[simp] theorem State.withRefusal_lower (s : State) (x : Option Refused) : (s.withRefusal x).lower = s.lower := rfl
@[simp] theorem State.withRefusal_flags (s : State) (x : Option Refused) : (s.withRefusal x).flags = s.flags := rfl
@[simp] theorem State.withRefusal_rx (s : State) (x : Option Refused) : (s.withRefusal x).rx = s.rx := rfl
@[simp] theorem State.withRefusal_lineCode (s : State) (x : Option Refused) : (s.withRefusal x).lineCode = s.lineCode := rfl
@[simp] theorem State.withRefusal_tx (s : State) (x : Option Refused) : (s.withRefusal x).tx = s.tx := rfl
@[simp] theorem State.withRefusal_handler (s : State) (x : Option Refused) : (s.withRefusal x).handler = s.handler := rfl
@[simp] theorem State.withRefusal_reports (s : State) (x : Option Refused) : (s.withRefusal x).reports = s.reports := rfl
@[simp] theorem State.withRefusal_mon (s : State) (x : Option Refused) : (s.withRefusal x).mon = s.mon := rfl
@[simp] theorem State.withRefusal_mode (s : State) (x : Option Refused) : (s.withRefusal x).mode = s.mode := rfl
@[simp] theorem State.withRefusal_pending (s : State) (x : Option Refused) : (s.withRefusal x).pending = s.pending := rfl
@[simp] theorem State.withLine_params (s : State) (x : LineStore) : (s.withLine x).params = s.params := rfl
@[simp] theorem State.withLine_gates (s : State) (x : LineStore) : (s.withLine x).gates = s.gates := rfl
@[simp] theorem State.withLine_token (s : State) (x : LineStore) : (s.withLine x).token = s.token := rfl
@[simp] theorem State.withLine_refusal (s : State) (x : LineStore) : (s.withLine x).refusal = s.refusal := rfl
@[simp] theorem State.withLine_line (s : State) (x : LineStore) : (s.withLine x).line = x := rfl
@[simp] theorem State.withLine_pos (s : State) (x : LineStore) : (s.withLine x).pos = s.pos := rfl
@[simp] theorem State.withLine_contact (s : State) (x : LineStore) : (s.withLine x).contact = s.contact := rfl
@[simp] theorem State.withLine_sup (s : State) (x : LineStore) : (s.withLine x).sup = s.sup := rfl
@[simp] theorem State.withLine_brk (s : State) (x : LineStore) : (s.withLine x).brk = s.brk := rfl
@[simp] theorem State.withLine_valves (s : State) (x : LineStore) : (s.withLine x).valves = s.valves := rfl
@[simp] theorem State.withLine_doors (s : State) (x : LineStore) : (s.withLine x).doors = s.doors := rfl
@[simp] theorem State.withLine_upper (s : State) (x : LineStore) : (s.withLine x).upper = s.upper := rfl
@[simp] theorem State.withLine_lower (s : State) (x : LineStore) : (s.withLine x).lower = s.lower := rfl
@[simp] theorem State.withLine_flags (s : State) (x : LineStore) : (s.withLine x).flags = s.flags := rfl
@[simp] theorem State.withLine_rx (s : State) (x : LineStore) : (s.withLine x).rx = s.rx := rfl
@[simp] theorem State.withLine_lineCode (s : State) (x : LineStore) : (s.withLine x).lineCode = s.lineCode := rfl
@[simp] theorem State.withLine_tx (s : State) (x : LineStore) : (s.withLine x).tx = s.tx := rfl
@[simp] theorem State.withLine_handler (s : State) (x : LineStore) : (s.withLine x).handler = s.handler := rfl
@[simp] theorem State.withLine_reports (s : State) (x : LineStore) : (s.withLine x).reports = s.reports := rfl
@[simp] theorem State.withLine_mon (s : State) (x : LineStore) : (s.withLine x).mon = s.mon := rfl
@[simp] theorem State.withLine_mode (s : State) (x : LineStore) : (s.withLine x).mode = s.mode := rfl
@[simp] theorem State.withLine_pending (s : State) (x : LineStore) : (s.withLine x).pending = s.pending := rfl
@[simp] theorem State.withPos_params (s : State) (x : Position) : (s.withPos x).params = s.params := rfl
@[simp] theorem State.withPos_gates (s : State) (x : Position) : (s.withPos x).gates = s.gates := rfl
@[simp] theorem State.withPos_token (s : State) (x : Position) : (s.withPos x).token = s.token := rfl
@[simp] theorem State.withPos_refusal (s : State) (x : Position) : (s.withPos x).refusal = s.refusal := rfl
@[simp] theorem State.withPos_line (s : State) (x : Position) : (s.withPos x).line = s.line := rfl
@[simp] theorem State.withPos_pos (s : State) (x : Position) : (s.withPos x).pos = x := rfl
@[simp] theorem State.withPos_contact (s : State) (x : Position) : (s.withPos x).contact = s.contact := rfl
@[simp] theorem State.withPos_sup (s : State) (x : Position) : (s.withPos x).sup = s.sup := rfl
@[simp] theorem State.withPos_brk (s : State) (x : Position) : (s.withPos x).brk = s.brk := rfl
@[simp] theorem State.withPos_valves (s : State) (x : Position) : (s.withPos x).valves = s.valves := rfl
@[simp] theorem State.withPos_doors (s : State) (x : Position) : (s.withPos x).doors = s.doors := rfl
@[simp] theorem State.withPos_upper (s : State) (x : Position) : (s.withPos x).upper = s.upper := rfl
@[simp] theorem State.withPos_lower (s : State) (x : Position) : (s.withPos x).lower = s.lower := rfl
@[simp] theorem State.withPos_flags (s : State) (x : Position) : (s.withPos x).flags = s.flags := rfl
@[simp] theorem State.withPos_rx (s : State) (x : Position) : (s.withPos x).rx = s.rx := rfl
@[simp] theorem State.withPos_lineCode (s : State) (x : Position) : (s.withPos x).lineCode = s.lineCode := rfl
@[simp] theorem State.withPos_tx (s : State) (x : Position) : (s.withPos x).tx = s.tx := rfl
@[simp] theorem State.withPos_handler (s : State) (x : Position) : (s.withPos x).handler = s.handler := rfl
@[simp] theorem State.withPos_reports (s : State) (x : Position) : (s.withPos x).reports = s.reports := rfl
@[simp] theorem State.withPos_mon (s : State) (x : Position) : (s.withPos x).mon = s.mon := rfl
@[simp] theorem State.withPos_mode (s : State) (x : Position) : (s.withPos x).mode = s.mode := rfl
@[simp] theorem State.withPos_pending (s : State) (x : Position) : (s.withPos x).pending = s.pending := rfl
@[simp] theorem State.withContact_params (s : State) (x : Contact) : (s.withContact x).params = s.params := rfl
@[simp] theorem State.withContact_gates (s : State) (x : Contact) : (s.withContact x).gates = s.gates := rfl
@[simp] theorem State.withContact_token (s : State) (x : Contact) : (s.withContact x).token = s.token := rfl
@[simp] theorem State.withContact_refusal (s : State) (x : Contact) : (s.withContact x).refusal = s.refusal := rfl
@[simp] theorem State.withContact_line (s : State) (x : Contact) : (s.withContact x).line = s.line := rfl
@[simp] theorem State.withContact_pos (s : State) (x : Contact) : (s.withContact x).pos = s.pos := rfl
@[simp] theorem State.withContact_contact (s : State) (x : Contact) : (s.withContact x).contact = x := rfl
@[simp] theorem State.withContact_sup (s : State) (x : Contact) : (s.withContact x).sup = s.sup := rfl
@[simp] theorem State.withContact_brk (s : State) (x : Contact) : (s.withContact x).brk = s.brk := rfl
@[simp] theorem State.withContact_valves (s : State) (x : Contact) : (s.withContact x).valves = s.valves := rfl
@[simp] theorem State.withContact_doors (s : State) (x : Contact) : (s.withContact x).doors = s.doors := rfl
@[simp] theorem State.withContact_upper (s : State) (x : Contact) : (s.withContact x).upper = s.upper := rfl
@[simp] theorem State.withContact_lower (s : State) (x : Contact) : (s.withContact x).lower = s.lower := rfl
@[simp] theorem State.withContact_flags (s : State) (x : Contact) : (s.withContact x).flags = s.flags := rfl
@[simp] theorem State.withContact_rx (s : State) (x : Contact) : (s.withContact x).rx = s.rx := rfl
@[simp] theorem State.withContact_lineCode (s : State) (x : Contact) : (s.withContact x).lineCode = s.lineCode := rfl
@[simp] theorem State.withContact_tx (s : State) (x : Contact) : (s.withContact x).tx = s.tx := rfl
@[simp] theorem State.withContact_handler (s : State) (x : Contact) : (s.withContact x).handler = s.handler := rfl
@[simp] theorem State.withContact_reports (s : State) (x : Contact) : (s.withContact x).reports = s.reports := rfl
@[simp] theorem State.withContact_mon (s : State) (x : Contact) : (s.withContact x).mon = s.mon := rfl
@[simp] theorem State.withContact_mode (s : State) (x : Contact) : (s.withContact x).mode = s.mode := rfl
@[simp] theorem State.withContact_pending (s : State) (x : Contact) : (s.withContact x).pending = s.pending := rfl
@[simp] theorem State.withSup_params (s : State) (x : Supervision) : (s.withSup x).params = s.params := rfl
@[simp] theorem State.withSup_gates (s : State) (x : Supervision) : (s.withSup x).gates = s.gates := rfl
@[simp] theorem State.withSup_token (s : State) (x : Supervision) : (s.withSup x).token = s.token := rfl
@[simp] theorem State.withSup_refusal (s : State) (x : Supervision) : (s.withSup x).refusal = s.refusal := rfl
@[simp] theorem State.withSup_line (s : State) (x : Supervision) : (s.withSup x).line = s.line := rfl
@[simp] theorem State.withSup_pos (s : State) (x : Supervision) : (s.withSup x).pos = s.pos := rfl
@[simp] theorem State.withSup_contact (s : State) (x : Supervision) : (s.withSup x).contact = s.contact := rfl
@[simp] theorem State.withSup_sup (s : State) (x : Supervision) : (s.withSup x).sup = x := rfl
@[simp] theorem State.withSup_brk (s : State) (x : Supervision) : (s.withSup x).brk = s.brk := rfl
@[simp] theorem State.withSup_valves (s : State) (x : Supervision) : (s.withSup x).valves = s.valves := rfl
@[simp] theorem State.withSup_doors (s : State) (x : Supervision) : (s.withSup x).doors = s.doors := rfl
@[simp] theorem State.withSup_upper (s : State) (x : Supervision) : (s.withSup x).upper = s.upper := rfl
@[simp] theorem State.withSup_lower (s : State) (x : Supervision) : (s.withSup x).lower = s.lower := rfl
@[simp] theorem State.withSup_flags (s : State) (x : Supervision) : (s.withSup x).flags = s.flags := rfl
@[simp] theorem State.withSup_rx (s : State) (x : Supervision) : (s.withSup x).rx = s.rx := rfl
@[simp] theorem State.withSup_lineCode (s : State) (x : Supervision) : (s.withSup x).lineCode = s.lineCode := rfl
@[simp] theorem State.withSup_tx (s : State) (x : Supervision) : (s.withSup x).tx = s.tx := rfl
@[simp] theorem State.withSup_handler (s : State) (x : Supervision) : (s.withSup x).handler = s.handler := rfl
@[simp] theorem State.withSup_reports (s : State) (x : Supervision) : (s.withSup x).reports = s.reports := rfl
@[simp] theorem State.withSup_mon (s : State) (x : Supervision) : (s.withSup x).mon = s.mon := rfl
@[simp] theorem State.withSup_mode (s : State) (x : Supervision) : (s.withSup x).mode = s.mode := rfl
@[simp] theorem State.withSup_pending (s : State) (x : Supervision) : (s.withSup x).pending = s.pending := rfl
@[simp] theorem State.withBrk_params (s : State) (x : Brakes) : (s.withBrk x).params = s.params := rfl
@[simp] theorem State.withBrk_gates (s : State) (x : Brakes) : (s.withBrk x).gates = s.gates := rfl
@[simp] theorem State.withBrk_token (s : State) (x : Brakes) : (s.withBrk x).token = s.token := rfl
@[simp] theorem State.withBrk_refusal (s : State) (x : Brakes) : (s.withBrk x).refusal = s.refusal := rfl
@[simp] theorem State.withBrk_line (s : State) (x : Brakes) : (s.withBrk x).line = s.line := rfl
@[simp] theorem State.withBrk_pos (s : State) (x : Brakes) : (s.withBrk x).pos = s.pos := rfl
@[simp] theorem State.withBrk_contact (s : State) (x : Brakes) : (s.withBrk x).contact = s.contact := rfl
@[simp] theorem State.withBrk_sup (s : State) (x : Brakes) : (s.withBrk x).sup = s.sup := rfl
@[simp] theorem State.withBrk_brk (s : State) (x : Brakes) : (s.withBrk x).brk = x := rfl
@[simp] theorem State.withBrk_valves (s : State) (x : Brakes) : (s.withBrk x).valves = s.valves := rfl
@[simp] theorem State.withBrk_doors (s : State) (x : Brakes) : (s.withBrk x).doors = s.doors := rfl
@[simp] theorem State.withBrk_upper (s : State) (x : Brakes) : (s.withBrk x).upper = s.upper := rfl
@[simp] theorem State.withBrk_lower (s : State) (x : Brakes) : (s.withBrk x).lower = s.lower := rfl
@[simp] theorem State.withBrk_flags (s : State) (x : Brakes) : (s.withBrk x).flags = s.flags := rfl
@[simp] theorem State.withBrk_rx (s : State) (x : Brakes) : (s.withBrk x).rx = s.rx := rfl
@[simp] theorem State.withBrk_lineCode (s : State) (x : Brakes) : (s.withBrk x).lineCode = s.lineCode := rfl
@[simp] theorem State.withBrk_tx (s : State) (x : Brakes) : (s.withBrk x).tx = s.tx := rfl
@[simp] theorem State.withBrk_handler (s : State) (x : Brakes) : (s.withBrk x).handler = s.handler := rfl
@[simp] theorem State.withBrk_reports (s : State) (x : Brakes) : (s.withBrk x).reports = s.reports := rfl
@[simp] theorem State.withBrk_mon (s : State) (x : Brakes) : (s.withBrk x).mon = s.mon := rfl
@[simp] theorem State.withBrk_mode (s : State) (x : Brakes) : (s.withBrk x).mode = s.mode := rfl
@[simp] theorem State.withBrk_pending (s : State) (x : Brakes) : (s.withBrk x).pending = s.pending := rfl
@[simp] theorem State.withValves_params (s : State) (x : ValveWatch) : (s.withValves x).params = s.params := rfl
@[simp] theorem State.withValves_gates (s : State) (x : ValveWatch) : (s.withValves x).gates = s.gates := rfl
@[simp] theorem State.withValves_token (s : State) (x : ValveWatch) : (s.withValves x).token = s.token := rfl
@[simp] theorem State.withValves_refusal (s : State) (x : ValveWatch) : (s.withValves x).refusal = s.refusal := rfl
@[simp] theorem State.withValves_line (s : State) (x : ValveWatch) : (s.withValves x).line = s.line := rfl
@[simp] theorem State.withValves_pos (s : State) (x : ValveWatch) : (s.withValves x).pos = s.pos := rfl
@[simp] theorem State.withValves_contact (s : State) (x : ValveWatch) : (s.withValves x).contact = s.contact := rfl
@[simp] theorem State.withValves_sup (s : State) (x : ValveWatch) : (s.withValves x).sup = s.sup := rfl
@[simp] theorem State.withValves_brk (s : State) (x : ValveWatch) : (s.withValves x).brk = s.brk := rfl
@[simp] theorem State.withValves_valves (s : State) (x : ValveWatch) : (s.withValves x).valves = x := rfl
@[simp] theorem State.withValves_doors (s : State) (x : ValveWatch) : (s.withValves x).doors = s.doors := rfl
@[simp] theorem State.withValves_upper (s : State) (x : ValveWatch) : (s.withValves x).upper = s.upper := rfl
@[simp] theorem State.withValves_lower (s : State) (x : ValveWatch) : (s.withValves x).lower = s.lower := rfl
@[simp] theorem State.withValves_flags (s : State) (x : ValveWatch) : (s.withValves x).flags = s.flags := rfl
@[simp] theorem State.withValves_rx (s : State) (x : ValveWatch) : (s.withValves x).rx = s.rx := rfl
@[simp] theorem State.withValves_lineCode (s : State) (x : ValveWatch) : (s.withValves x).lineCode = s.lineCode := rfl
@[simp] theorem State.withValves_tx (s : State) (x : ValveWatch) : (s.withValves x).tx = s.tx := rfl
@[simp] theorem State.withValves_handler (s : State) (x : ValveWatch) : (s.withValves x).handler = s.handler := rfl
@[simp] theorem State.withValves_reports (s : State) (x : ValveWatch) : (s.withValves x).reports = s.reports := rfl
@[simp] theorem State.withValves_mon (s : State) (x : ValveWatch) : (s.withValves x).mon = s.mon := rfl
@[simp] theorem State.withValves_mode (s : State) (x : ValveWatch) : (s.withValves x).mode = s.mode := rfl
@[simp] theorem State.withValves_pending (s : State) (x : ValveWatch) : (s.withValves x).pending = s.pending := rfl
@[simp] theorem State.withDoors_params (s : State) (x : Doors) : (s.withDoors x).params = s.params := rfl
@[simp] theorem State.withDoors_gates (s : State) (x : Doors) : (s.withDoors x).gates = s.gates := rfl
@[simp] theorem State.withDoors_token (s : State) (x : Doors) : (s.withDoors x).token = s.token := rfl
@[simp] theorem State.withDoors_refusal (s : State) (x : Doors) : (s.withDoors x).refusal = s.refusal := rfl
@[simp] theorem State.withDoors_line (s : State) (x : Doors) : (s.withDoors x).line = s.line := rfl
@[simp] theorem State.withDoors_pos (s : State) (x : Doors) : (s.withDoors x).pos = s.pos := rfl
@[simp] theorem State.withDoors_contact (s : State) (x : Doors) : (s.withDoors x).contact = s.contact := rfl
@[simp] theorem State.withDoors_sup (s : State) (x : Doors) : (s.withDoors x).sup = s.sup := rfl
@[simp] theorem State.withDoors_brk (s : State) (x : Doors) : (s.withDoors x).brk = s.brk := rfl
@[simp] theorem State.withDoors_valves (s : State) (x : Doors) : (s.withDoors x).valves = s.valves := rfl
@[simp] theorem State.withDoors_doors (s : State) (x : Doors) : (s.withDoors x).doors = x := rfl
@[simp] theorem State.withDoors_upper (s : State) (x : Doors) : (s.withDoors x).upper = s.upper := rfl
@[simp] theorem State.withDoors_lower (s : State) (x : Doors) : (s.withDoors x).lower = s.lower := rfl
@[simp] theorem State.withDoors_flags (s : State) (x : Doors) : (s.withDoors x).flags = s.flags := rfl
@[simp] theorem State.withDoors_rx (s : State) (x : Doors) : (s.withDoors x).rx = s.rx := rfl
@[simp] theorem State.withDoors_lineCode (s : State) (x : Doors) : (s.withDoors x).lineCode = s.lineCode := rfl
@[simp] theorem State.withDoors_tx (s : State) (x : Doors) : (s.withDoors x).tx = s.tx := rfl
@[simp] theorem State.withDoors_handler (s : State) (x : Doors) : (s.withDoors x).handler = s.handler := rfl
@[simp] theorem State.withDoors_reports (s : State) (x : Doors) : (s.withDoors x).reports = s.reports := rfl
@[simp] theorem State.withDoors_mon (s : State) (x : Doors) : (s.withDoors x).mon = s.mon := rfl
@[simp] theorem State.withDoors_mode (s : State) (x : Doors) : (s.withDoors x).mode = s.mode := rfl
@[simp] theorem State.withDoors_pending (s : State) (x : Doors) : (s.withDoors x).pending = s.pending := rfl
@[simp] theorem State.withUpper_params (s : State) (x : Port) : (s.withUpper x).params = s.params := rfl
@[simp] theorem State.withUpper_gates (s : State) (x : Port) : (s.withUpper x).gates = s.gates := rfl
@[simp] theorem State.withUpper_token (s : State) (x : Port) : (s.withUpper x).token = s.token := rfl
@[simp] theorem State.withUpper_refusal (s : State) (x : Port) : (s.withUpper x).refusal = s.refusal := rfl
@[simp] theorem State.withUpper_line (s : State) (x : Port) : (s.withUpper x).line = s.line := rfl
@[simp] theorem State.withUpper_pos (s : State) (x : Port) : (s.withUpper x).pos = s.pos := rfl
@[simp] theorem State.withUpper_contact (s : State) (x : Port) : (s.withUpper x).contact = s.contact := rfl
@[simp] theorem State.withUpper_sup (s : State) (x : Port) : (s.withUpper x).sup = s.sup := rfl
@[simp] theorem State.withUpper_brk (s : State) (x : Port) : (s.withUpper x).brk = s.brk := rfl
@[simp] theorem State.withUpper_valves (s : State) (x : Port) : (s.withUpper x).valves = s.valves := rfl
@[simp] theorem State.withUpper_doors (s : State) (x : Port) : (s.withUpper x).doors = s.doors := rfl
@[simp] theorem State.withUpper_upper (s : State) (x : Port) : (s.withUpper x).upper = x := rfl
@[simp] theorem State.withUpper_lower (s : State) (x : Port) : (s.withUpper x).lower = s.lower := rfl
@[simp] theorem State.withUpper_flags (s : State) (x : Port) : (s.withUpper x).flags = s.flags := rfl
@[simp] theorem State.withUpper_rx (s : State) (x : Port) : (s.withUpper x).rx = s.rx := rfl
@[simp] theorem State.withUpper_lineCode (s : State) (x : Port) : (s.withUpper x).lineCode = s.lineCode := rfl
@[simp] theorem State.withUpper_tx (s : State) (x : Port) : (s.withUpper x).tx = s.tx := rfl
@[simp] theorem State.withUpper_handler (s : State) (x : Port) : (s.withUpper x).handler = s.handler := rfl
@[simp] theorem State.withUpper_reports (s : State) (x : Port) : (s.withUpper x).reports = s.reports := rfl
@[simp] theorem State.withUpper_mon (s : State) (x : Port) : (s.withUpper x).mon = s.mon := rfl
@[simp] theorem State.withUpper_mode (s : State) (x : Port) : (s.withUpper x).mode = s.mode := rfl
@[simp] theorem State.withUpper_pending (s : State) (x : Port) : (s.withUpper x).pending = s.pending := rfl
@[simp] theorem State.withLower_params (s : State) (x : Port) : (s.withLower x).params = s.params := rfl
@[simp] theorem State.withLower_gates (s : State) (x : Port) : (s.withLower x).gates = s.gates := rfl
@[simp] theorem State.withLower_token (s : State) (x : Port) : (s.withLower x).token = s.token := rfl
@[simp] theorem State.withLower_refusal (s : State) (x : Port) : (s.withLower x).refusal = s.refusal := rfl
@[simp] theorem State.withLower_line (s : State) (x : Port) : (s.withLower x).line = s.line := rfl
@[simp] theorem State.withLower_pos (s : State) (x : Port) : (s.withLower x).pos = s.pos := rfl
@[simp] theorem State.withLower_contact (s : State) (x : Port) : (s.withLower x).contact = s.contact := rfl
@[simp] theorem State.withLower_sup (s : State) (x : Port) : (s.withLower x).sup = s.sup := rfl
@[simp] theorem State.withLower_brk (s : State) (x : Port) : (s.withLower x).brk = s.brk := rfl
@[simp] theorem State.withLower_valves (s : State) (x : Port) : (s.withLower x).valves = s.valves := rfl
@[simp] theorem State.withLower_doors (s : State) (x : Port) : (s.withLower x).doors = s.doors := rfl
@[simp] theorem State.withLower_upper (s : State) (x : Port) : (s.withLower x).upper = s.upper := rfl
@[simp] theorem State.withLower_lower (s : State) (x : Port) : (s.withLower x).lower = x := rfl
@[simp] theorem State.withLower_flags (s : State) (x : Port) : (s.withLower x).flags = s.flags := rfl
@[simp] theorem State.withLower_rx (s : State) (x : Port) : (s.withLower x).rx = s.rx := rfl
@[simp] theorem State.withLower_lineCode (s : State) (x : Port) : (s.withLower x).lineCode = s.lineCode := rfl
@[simp] theorem State.withLower_tx (s : State) (x : Port) : (s.withLower x).tx = s.tx := rfl
@[simp] theorem State.withLower_handler (s : State) (x : Port) : (s.withLower x).handler = s.handler := rfl
@[simp] theorem State.withLower_reports (s : State) (x : Port) : (s.withLower x).reports = s.reports := rfl
@[simp] theorem State.withLower_mon (s : State) (x : Port) : (s.withLower x).mon = s.mon := rfl
@[simp] theorem State.withLower_mode (s : State) (x : Port) : (s.withLower x).mode = s.mode := rfl
@[simp] theorem State.withLower_pending (s : State) (x : Port) : (s.withLower x).pending = s.pending := rfl
@[simp] theorem State.withFlags_params (s : State) (x : CabFlags) : (s.withFlags x).params = s.params := rfl
@[simp] theorem State.withFlags_gates (s : State) (x : CabFlags) : (s.withFlags x).gates = s.gates := rfl
@[simp] theorem State.withFlags_token (s : State) (x : CabFlags) : (s.withFlags x).token = s.token := rfl
@[simp] theorem State.withFlags_refusal (s : State) (x : CabFlags) : (s.withFlags x).refusal = s.refusal := rfl
@[simp] theorem State.withFlags_line (s : State) (x : CabFlags) : (s.withFlags x).line = s.line := rfl
@[simp] theorem State.withFlags_pos (s : State) (x : CabFlags) : (s.withFlags x).pos = s.pos := rfl
@[simp] theorem State.withFlags_contact (s : State) (x : CabFlags) : (s.withFlags x).contact = s.contact := rfl
@[simp] theorem State.withFlags_sup (s : State) (x : CabFlags) : (s.withFlags x).sup = s.sup := rfl
@[simp] theorem State.withFlags_brk (s : State) (x : CabFlags) : (s.withFlags x).brk = s.brk := rfl
@[simp] theorem State.withFlags_valves (s : State) (x : CabFlags) : (s.withFlags x).valves = s.valves := rfl
@[simp] theorem State.withFlags_doors (s : State) (x : CabFlags) : (s.withFlags x).doors = s.doors := rfl
@[simp] theorem State.withFlags_upper (s : State) (x : CabFlags) : (s.withFlags x).upper = s.upper := rfl
@[simp] theorem State.withFlags_lower (s : State) (x : CabFlags) : (s.withFlags x).lower = s.lower := rfl
@[simp] theorem State.withFlags_flags (s : State) (x : CabFlags) : (s.withFlags x).flags = x := rfl
@[simp] theorem State.withFlags_rx (s : State) (x : CabFlags) : (s.withFlags x).rx = s.rx := rfl
@[simp] theorem State.withFlags_lineCode (s : State) (x : CabFlags) : (s.withFlags x).lineCode = s.lineCode := rfl
@[simp] theorem State.withFlags_tx (s : State) (x : CabFlags) : (s.withFlags x).tx = s.tx := rfl
@[simp] theorem State.withFlags_handler (s : State) (x : CabFlags) : (s.withFlags x).handler = s.handler := rfl
@[simp] theorem State.withFlags_reports (s : State) (x : CabFlags) : (s.withFlags x).reports = s.reports := rfl
@[simp] theorem State.withFlags_mon (s : State) (x : CabFlags) : (s.withFlags x).mon = s.mon := rfl
@[simp] theorem State.withFlags_mode (s : State) (x : CabFlags) : (s.withFlags x).mode = s.mode := rfl
@[simp] theorem State.withFlags_pending (s : State) (x : CabFlags) : (s.withFlags x).pending = s.pending := rfl
@[simp] theorem State.withRx_params (s : State) (x : RadioRx) : (s.withRx x).params = s.params := rfl
@[simp] theorem State.withRx_gates (s : State) (x : RadioRx) : (s.withRx x).gates = s.gates := rfl
@[simp] theorem State.withRx_token (s : State) (x : RadioRx) : (s.withRx x).token = s.token := rfl
@[simp] theorem State.withRx_refusal (s : State) (x : RadioRx) : (s.withRx x).refusal = s.refusal := rfl
@[simp] theorem State.withRx_line (s : State) (x : RadioRx) : (s.withRx x).line = s.line := rfl
@[simp] theorem State.withRx_pos (s : State) (x : RadioRx) : (s.withRx x).pos = s.pos := rfl
@[simp] theorem State.withRx_contact (s : State) (x : RadioRx) : (s.withRx x).contact = s.contact := rfl
@[simp] theorem State.withRx_sup (s : State) (x : RadioRx) : (s.withRx x).sup = s.sup := rfl
@[simp] theorem State.withRx_brk (s : State) (x : RadioRx) : (s.withRx x).brk = s.brk := rfl
@[simp] theorem State.withRx_valves (s : State) (x : RadioRx) : (s.withRx x).valves = s.valves := rfl
@[simp] theorem State.withRx_doors (s : State) (x : RadioRx) : (s.withRx x).doors = s.doors := rfl
@[simp] theorem State.withRx_upper (s : State) (x : RadioRx) : (s.withRx x).upper = s.upper := rfl
@[simp] theorem State.withRx_lower (s : State) (x : RadioRx) : (s.withRx x).lower = s.lower := rfl
@[simp] theorem State.withRx_flags (s : State) (x : RadioRx) : (s.withRx x).flags = s.flags := rfl
@[simp] theorem State.withRx_rx (s : State) (x : RadioRx) : (s.withRx x).rx = x := rfl
@[simp] theorem State.withRx_lineCode (s : State) (x : RadioRx) : (s.withRx x).lineCode = s.lineCode := rfl
@[simp] theorem State.withRx_tx (s : State) (x : RadioRx) : (s.withRx x).tx = s.tx := rfl
@[simp] theorem State.withRx_handler (s : State) (x : RadioRx) : (s.withRx x).handler = s.handler := rfl
@[simp] theorem State.withRx_reports (s : State) (x : RadioRx) : (s.withRx x).reports = s.reports := rfl
@[simp] theorem State.withRx_mon (s : State) (x : RadioRx) : (s.withRx x).mon = s.mon := rfl
@[simp] theorem State.withRx_mode (s : State) (x : RadioRx) : (s.withRx x).mode = s.mode := rfl
@[simp] theorem State.withRx_pending (s : State) (x : RadioRx) : (s.withRx x).pending = s.pending := rfl
@[simp] theorem State.withLineCode_params (s : State) (x : LineCode) : (s.withLineCode x).params = s.params := rfl
@[simp] theorem State.withLineCode_gates (s : State) (x : LineCode) : (s.withLineCode x).gates = s.gates := rfl
@[simp] theorem State.withLineCode_token (s : State) (x : LineCode) : (s.withLineCode x).token = s.token := rfl
@[simp] theorem State.withLineCode_refusal (s : State) (x : LineCode) : (s.withLineCode x).refusal = s.refusal := rfl
@[simp] theorem State.withLineCode_line (s : State) (x : LineCode) : (s.withLineCode x).line = s.line := rfl
@[simp] theorem State.withLineCode_pos (s : State) (x : LineCode) : (s.withLineCode x).pos = s.pos := rfl
@[simp] theorem State.withLineCode_contact (s : State) (x : LineCode) : (s.withLineCode x).contact = s.contact := rfl
@[simp] theorem State.withLineCode_sup (s : State) (x : LineCode) : (s.withLineCode x).sup = s.sup := rfl
@[simp] theorem State.withLineCode_brk (s : State) (x : LineCode) : (s.withLineCode x).brk = s.brk := rfl
@[simp] theorem State.withLineCode_valves (s : State) (x : LineCode) : (s.withLineCode x).valves = s.valves := rfl
@[simp] theorem State.withLineCode_doors (s : State) (x : LineCode) : (s.withLineCode x).doors = s.doors := rfl
@[simp] theorem State.withLineCode_upper (s : State) (x : LineCode) : (s.withLineCode x).upper = s.upper := rfl
@[simp] theorem State.withLineCode_lower (s : State) (x : LineCode) : (s.withLineCode x).lower = s.lower := rfl
@[simp] theorem State.withLineCode_flags (s : State) (x : LineCode) : (s.withLineCode x).flags = s.flags := rfl
@[simp] theorem State.withLineCode_rx (s : State) (x : LineCode) : (s.withLineCode x).rx = s.rx := rfl
@[simp] theorem State.withLineCode_lineCode (s : State) (x : LineCode) : (s.withLineCode x).lineCode = x := rfl
@[simp] theorem State.withLineCode_tx (s : State) (x : LineCode) : (s.withLineCode x).tx = s.tx := rfl
@[simp] theorem State.withLineCode_handler (s : State) (x : LineCode) : (s.withLineCode x).handler = s.handler := rfl
@[simp] theorem State.withLineCode_reports (s : State) (x : LineCode) : (s.withLineCode x).reports = s.reports := rfl
@[simp] theorem State.withLineCode_mon (s : State) (x : LineCode) : (s.withLineCode x).mon = s.mon := rfl
@[simp] theorem State.withLineCode_mode (s : State) (x : LineCode) : (s.withLineCode x).mode = s.mode := rfl
@[simp] theorem State.withLineCode_pending (s : State) (x : LineCode) : (s.withLineCode x).pending = s.pending := rfl
@[simp] theorem State.withTx_params (s : State) (x : RadioTx) : (s.withTx x).params = s.params := rfl
@[simp] theorem State.withTx_gates (s : State) (x : RadioTx) : (s.withTx x).gates = s.gates := rfl
@[simp] theorem State.withTx_token (s : State) (x : RadioTx) : (s.withTx x).token = s.token := rfl
@[simp] theorem State.withTx_refusal (s : State) (x : RadioTx) : (s.withTx x).refusal = s.refusal := rfl
@[simp] theorem State.withTx_line (s : State) (x : RadioTx) : (s.withTx x).line = s.line := rfl
@[simp] theorem State.withTx_pos (s : State) (x : RadioTx) : (s.withTx x).pos = s.pos := rfl
@[simp] theorem State.withTx_contact (s : State) (x : RadioTx) : (s.withTx x).contact = s.contact := rfl
@[simp] theorem State.withTx_sup (s : State) (x : RadioTx) : (s.withTx x).sup = s.sup := rfl
@[simp] theorem State.withTx_brk (s : State) (x : RadioTx) : (s.withTx x).brk = s.brk := rfl
@[simp] theorem State.withTx_valves (s : State) (x : RadioTx) : (s.withTx x).valves = s.valves := rfl
@[simp] theorem State.withTx_doors (s : State) (x : RadioTx) : (s.withTx x).doors = s.doors := rfl
@[simp] theorem State.withTx_upper (s : State) (x : RadioTx) : (s.withTx x).upper = s.upper := rfl
@[simp] theorem State.withTx_lower (s : State) (x : RadioTx) : (s.withTx x).lower = s.lower := rfl
@[simp] theorem State.withTx_flags (s : State) (x : RadioTx) : (s.withTx x).flags = s.flags := rfl
@[simp] theorem State.withTx_rx (s : State) (x : RadioTx) : (s.withTx x).rx = s.rx := rfl
@[simp] theorem State.withTx_lineCode (s : State) (x : RadioTx) : (s.withTx x).lineCode = s.lineCode := rfl
@[simp] theorem State.withTx_tx (s : State) (x : RadioTx) : (s.withTx x).tx = x := rfl
@[simp] theorem State.withTx_handler (s : State) (x : RadioTx) : (s.withTx x).handler = s.handler := rfl
@[simp] theorem State.withTx_reports (s : State) (x : RadioTx) : (s.withTx x).reports = s.reports := rfl
@[simp] theorem State.withTx_mon (s : State) (x : RadioTx) : (s.withTx x).mon = s.mon := rfl
@[simp] theorem State.withTx_mode (s : State) (x : RadioTx) : (s.withTx x).mode = s.mode := rfl
@[simp] theorem State.withTx_pending (s : State) (x : RadioTx) : (s.withTx x).pending = s.pending := rfl
@[simp] theorem State.withHandler_params (s : State) (x : Handler) : (s.withHandler x).params = s.params := rfl
@[simp] theorem State.withHandler_gates (s : State) (x : Handler) : (s.withHandler x).gates = s.gates := rfl
@[simp] theorem State.withHandler_token (s : State) (x : Handler) : (s.withHandler x).token = s.token := rfl
@[simp] theorem State.withHandler_refusal (s : State) (x : Handler) : (s.withHandler x).refusal = s.refusal := rfl
@[simp] theorem State.withHandler_line (s : State) (x : Handler) : (s.withHandler x).line = s.line := rfl
@[simp] theorem State.withHandler_pos (s : State) (x : Handler) : (s.withHandler x).pos = s.pos := rfl
@[simp] theorem State.withHandler_contact (s : State) (x : Handler) : (s.withHandler x).contact = s.contact := rfl
@[simp] theorem State.withHandler_sup (s : State) (x : Handler) : (s.withHandler x).sup = s.sup := rfl
@[simp] theorem State.withHandler_brk (s : State) (x : Handler) : (s.withHandler x).brk = s.brk := rfl
@[simp] theorem State.withHandler_valves (s : State) (x : Handler) : (s.withHandler x).valves = s.valves := rfl
@[simp] theorem State.withHandler_doors (s : State) (x : Handler) : (s.withHandler x).doors = s.doors := rfl
@[simp] theorem State.withHandler_upper (s : State) (x : Handler) : (s.withHandler x).upper = s.upper := rfl
@[simp] theorem State.withHandler_lower (s : State) (x : Handler) : (s.withHandler x).lower = s.lower := rfl
@[simp] theorem State.withHandler_flags (s : State) (x : Handler) : (s.withHandler x).flags = s.flags := rfl
@[simp] theorem State.withHandler_rx (s : State) (x : Handler) : (s.withHandler x).rx = s.rx := rfl
@[simp] theorem State.withHandler_lineCode (s : State) (x : Handler) : (s.withHandler x).lineCode = s.lineCode := rfl
@[simp] theorem State.withHandler_tx (s : State) (x : Handler) : (s.withHandler x).tx = s.tx := rfl
@[simp] theorem State.withHandler_handler (s : State) (x : Handler) : (s.withHandler x).handler = x := rfl
@[simp] theorem State.withHandler_reports (s : State) (x : Handler) : (s.withHandler x).reports = s.reports := rfl
@[simp] theorem State.withHandler_mon (s : State) (x : Handler) : (s.withHandler x).mon = s.mon := rfl
@[simp] theorem State.withHandler_mode (s : State) (x : Handler) : (s.withHandler x).mode = s.mode := rfl
@[simp] theorem State.withHandler_pending (s : State) (x : Handler) : (s.withHandler x).pending = s.pending := rfl
@[simp] theorem State.withReports_params (s : State) (x : Reports) : (s.withReports x).params = s.params := rfl
@[simp] theorem State.withReports_gates (s : State) (x : Reports) : (s.withReports x).gates = s.gates := rfl
@[simp] theorem State.withReports_token (s : State) (x : Reports) : (s.withReports x).token = s.token := rfl
@[simp] theorem State.withReports_refusal (s : State) (x : Reports) : (s.withReports x).refusal = s.refusal := rfl
@[simp] theorem State.withReports_line (s : State) (x : Reports) : (s.withReports x).line = s.line := rfl
@[simp] theorem State.withReports_pos (s : State) (x : Reports) : (s.withReports x).pos = s.pos := rfl
@[simp] theorem State.withReports_contact (s : State) (x : Reports) : (s.withReports x).contact = s.contact := rfl
@[simp] theorem State.withReports_sup (s : State) (x : Reports) : (s.withReports x).sup = s.sup := rfl
@[simp] theorem State.withReports_brk (s : State) (x : Reports) : (s.withReports x).brk = s.brk := rfl
@[simp] theorem State.withReports_valves (s : State) (x : Reports) : (s.withReports x).valves = s.valves := rfl
@[simp] theorem State.withReports_doors (s : State) (x : Reports) : (s.withReports x).doors = s.doors := rfl
@[simp] theorem State.withReports_upper (s : State) (x : Reports) : (s.withReports x).upper = s.upper := rfl
@[simp] theorem State.withReports_lower (s : State) (x : Reports) : (s.withReports x).lower = s.lower := rfl
@[simp] theorem State.withReports_flags (s : State) (x : Reports) : (s.withReports x).flags = s.flags := rfl
@[simp] theorem State.withReports_rx (s : State) (x : Reports) : (s.withReports x).rx = s.rx := rfl
@[simp] theorem State.withReports_lineCode (s : State) (x : Reports) : (s.withReports x).lineCode = s.lineCode := rfl
@[simp] theorem State.withReports_tx (s : State) (x : Reports) : (s.withReports x).tx = s.tx := rfl
@[simp] theorem State.withReports_handler (s : State) (x : Reports) : (s.withReports x).handler = s.handler := rfl
@[simp] theorem State.withReports_reports (s : State) (x : Reports) : (s.withReports x).reports = x := rfl
@[simp] theorem State.withReports_mon (s : State) (x : Reports) : (s.withReports x).mon = s.mon := rfl
@[simp] theorem State.withReports_mode (s : State) (x : Reports) : (s.withReports x).mode = s.mode := rfl
@[simp] theorem State.withReports_pending (s : State) (x : Reports) : (s.withReports x).pending = s.pending := rfl
@[simp] theorem State.withMon_params (s : State) (x : Monitor) : (s.withMon x).params = s.params := rfl
@[simp] theorem State.withMon_gates (s : State) (x : Monitor) : (s.withMon x).gates = s.gates := rfl
@[simp] theorem State.withMon_token (s : State) (x : Monitor) : (s.withMon x).token = s.token := rfl
@[simp] theorem State.withMon_refusal (s : State) (x : Monitor) : (s.withMon x).refusal = s.refusal := rfl
@[simp] theorem State.withMon_line (s : State) (x : Monitor) : (s.withMon x).line = s.line := rfl
@[simp] theorem State.withMon_pos (s : State) (x : Monitor) : (s.withMon x).pos = s.pos := rfl
@[simp] theorem State.withMon_contact (s : State) (x : Monitor) : (s.withMon x).contact = s.contact := rfl
@[simp] theorem State.withMon_sup (s : State) (x : Monitor) : (s.withMon x).sup = s.sup := rfl
@[simp] theorem State.withMon_brk (s : State) (x : Monitor) : (s.withMon x).brk = s.brk := rfl
@[simp] theorem State.withMon_valves (s : State) (x : Monitor) : (s.withMon x).valves = s.valves := rfl
@[simp] theorem State.withMon_doors (s : State) (x : Monitor) : (s.withMon x).doors = s.doors := rfl
@[simp] theorem State.withMon_upper (s : State) (x : Monitor) : (s.withMon x).upper = s.upper := rfl
@[simp] theorem State.withMon_lower (s : State) (x : Monitor) : (s.withMon x).lower = s.lower := rfl
@[simp] theorem State.withMon_flags (s : State) (x : Monitor) : (s.withMon x).flags = s.flags := rfl
@[simp] theorem State.withMon_rx (s : State) (x : Monitor) : (s.withMon x).rx = s.rx := rfl
@[simp] theorem State.withMon_lineCode (s : State) (x : Monitor) : (s.withMon x).lineCode = s.lineCode := rfl
@[simp] theorem State.withMon_tx (s : State) (x : Monitor) : (s.withMon x).tx = s.tx := rfl
@[simp] theorem State.withMon_handler (s : State) (x : Monitor) : (s.withMon x).handler = s.handler := rfl
@[simp] theorem State.withMon_reports (s : State) (x : Monitor) : (s.withMon x).reports = s.reports := rfl
@[simp] theorem State.withMon_mon (s : State) (x : Monitor) : (s.withMon x).mon = x := rfl
@[simp] theorem State.withMon_mode (s : State) (x : Monitor) : (s.withMon x).mode = s.mode := rfl
@[simp] theorem State.withMon_pending (s : State) (x : Monitor) : (s.withMon x).pending = s.pending := rfl
@[simp] theorem State.withMode_params (s : State) (x : ModeCtl) : (s.withMode x).params = s.params := rfl
@[simp] theorem State.withMode_gates (s : State) (x : ModeCtl) : (s.withMode x).gates = s.gates := rfl
@[simp] theorem State.withMode_token (s : State) (x : ModeCtl) : (s.withMode x).token = s.token := rfl
@[simp] theorem State.withMode_refusal (s : State) (x : ModeCtl) : (s.withMode x).refusal = s.refusal := rfl
@[simp] theorem State.withMode_line (s : State) (x : ModeCtl) : (s.withMode x).line = s.line := rfl
@[simp] theorem State.withMode_pos (s : State) (x : ModeCtl) : (s.withMode x).pos = s.pos := rfl
@[simp] theorem State.withMode_contact (s : State) (x : ModeCtl) : (s.withMode x).contact = s.contact := rfl
@[simp] theorem State.withMode_sup (s : State) (x : ModeCtl) : (s.withMode x).sup = s.sup := rfl
@[simp] theorem State.withMode_brk (s : State) (x : ModeCtl) : (s.withMode x).brk = s.brk := rfl
@[simp] theorem State.withMode_valves (s : State) (x : ModeCtl) : (s.withMode x).valves = s.valves := rfl
@[simp] theorem State.withMode_doors (s : State) (x : ModeCtl) : (s.withMode x).doors = s.doors := rfl
@[simp] theorem State.withMode_upper (s : State) (x : ModeCtl) : (s.withMode x).upper = s.upper := rfl
@[simp] theorem State.withMode_lower (s : State) (x : ModeCtl) : (s.withMode x).lower = s.lower := rfl
@[simp] theorem State.withMode_flags (s : State) (x : ModeCtl) : (s.withMode x).flags = s.flags := rfl
@[simp] theorem State.withMode_rx (s : State) (x : ModeCtl) : (s.withMode x).rx = s.rx := rfl
@[simp] theorem State.withMode_lineCode (s : State) (x : ModeCtl) : (s.withMode x).lineCode = s.lineCode := rfl
@[simp] theorem State.withMode_tx (s : State) (x : ModeCtl) : (s.withMode x).tx = s.tx := rfl
@[simp] theorem State.withMode_handler (s : State) (x : ModeCtl) : (s.withMode x).handler = s.handler := rfl
@[simp] theorem State.withMode_reports (s : State) (x : ModeCtl) : (s.withMode x).reports = s.reports := rfl
@[simp] theorem State.withMode_mon (s : State) (x : ModeCtl) : (s.withMode x).mon = s.mon := rfl
@[simp] theorem State.withMode_mode (s : State) (x : ModeCtl) : (s.withMode x).mode = x := rfl
@[simp] theorem State.withMode_pending (s : State) (x : ModeCtl) : (s.withMode x).pending = s.pending := rfl
@[simp] theorem State.withPending_params (s : State) (x : List Instr) : (s.withPending x).params = s.params := rfl
@[simp] theorem State.withPending_gates (s : State) (x : List Instr) : (s.withPending x).gates = s.gates := rfl
@[simp] theorem State.withPending_token (s : State) (x : List Instr) : (s.withPending x).token = s.token := rfl
@[simp] theorem State.withPending_refusal (s : State) (x : List Instr) : (s.withPending x).refusal = s.refusal := rfl
@[simp] theorem State.withPending_line (s : State) (x : List Instr) : (s.withPending x).line = s.line := rfl
@[simp] theorem State.withPending_pos (s : State) (x : List Instr) : (s.withPending x).pos = s.pos := rfl
@[simp] theorem State.withPending_contact (s : State) (x : List Instr) : (s.withPending x).contact = s.contact := rfl
@[simp] theorem State.withPending_sup (s : State) (x : List Instr) : (s.withPending x).sup = s.sup := rfl
@[simp] theorem State.withPending_brk (s : State) (x : List Instr) : (s.withPending x).brk = s.brk := rfl
@[simp] theorem State.withPending_valves (s : State) (x : List Instr) : (s.withPending x).valves = s.valves := rfl
@[simp] theorem State.withPending_doors (s : State) (x : List Instr) : (s.withPending x).doors = s.doors := rfl
@[simp] theorem State.withPending_upper (s : State) (x : List Instr) : (s.withPending x).upper = s.upper := rfl
@[simp] theorem State.withPending_lower (s : State) (x : List Instr) : (s.withPending x).lower = s.lower := rfl
@[simp] theorem State.withPending_flags (s : State) (x : List Instr) : (s.withPending x).flags = s.flags := rfl
@[simp] theorem State.withPending_rx (s : State) (x : List Instr) : (s.withPending x).rx = s.rx := rfl
@[simp] theorem State.withPending_lineCode (s : State) (x : List Instr) : (s.withPending x).lineCode = s.lineCode := rfl
@[simp] theorem State.withPending_tx (s : State) (x : List Instr) : (s.withPending x).tx = s.tx := rfl
@[simp] theorem State.withPending_handler (s : State) (x : List Instr) : (s.withPending x).handler = s.handler := rfl
@[simp] theorem State.withPending_reports (s : State) (x : List Instr) : (s.withPending x).reports = s.reports := rfl
@[simp] theorem State.withPending_mon (s : State) (x : List Instr) : (s.withPending x).mon = s.mon := rfl
@[simp] theorem State.withPending_mode (s : State) (x : List Instr) : (s.withPending x).mode = s.mode := rfl
@[simp] theorem State.withPending_pending (s : State) (x : List Instr) : (s.withPending x).pending = x := rfl

end Sys2Proof.Machine
end

