-- ==== Sys2Proof/Laws/Frames.lean ====
section
/-! SUPPORT. Which blocks each shared operation leaves alone: one lemma per operation, a conjunction of equations that simp
takes apart. -/

namespace Sys2Proof.Machine

/-! ## Flags and outputs -/

@[simp] theorem State.flag_frame (k : FlagKind) (s : State) :
    (s.flag k).params = s.params ∧ (s.flag k).gates = s.gates ∧
      (s.flag k).token = s.token ∧ (s.flag k).refusal = s.refusal ∧
      (s.flag k).line = s.line ∧ (s.flag k).pos = s.pos ∧
      (s.flag k).contact = s.contact ∧ (s.flag k).sup = s.sup ∧
      (s.flag k).brk = s.brk ∧ (s.flag k).valves = s.valves ∧
      (s.flag k).doors = s.doors ∧ (s.flag k).upper = s.upper ∧
      (s.flag k).lower = s.lower ∧ (s.flag k).rx = s.rx ∧
      (s.flag k).lineCode = s.lineCode ∧ (s.flag k).tx = s.tx ∧
      (s.flag k).handler = s.handler ∧ (s.flag k).reports = s.reports ∧
      (s.flag k).mon = s.mon ∧ (s.flag k).mode = s.mode ∧
      (s.flag k).pending = s.pending := by
  simp [State.flag]

@[simp] theorem State.settleOutputs_frame (s : State) :
    (s.settleOutputs).params = s.params ∧ (s.settleOutputs).gates = s.gates ∧
      (s.settleOutputs).token = s.token ∧ (s.settleOutputs).refusal = s.refusal ∧
      (s.settleOutputs).line = s.line ∧ (s.settleOutputs).pos = s.pos ∧
      (s.settleOutputs).contact = s.contact ∧ (s.settleOutputs).sup = s.sup ∧
      (s.settleOutputs).valves = s.valves ∧ (s.settleOutputs).doors = s.doors ∧
      (s.settleOutputs).upper = s.upper ∧ (s.settleOutputs).lower = s.lower ∧
      (s.settleOutputs).rx = s.rx ∧ (s.settleOutputs).lineCode = s.lineCode ∧
      (s.settleOutputs).tx = s.tx ∧ (s.settleOutputs).handler = s.handler ∧
      (s.settleOutputs).reports = s.reports ∧ (s.settleOutputs).mon = s.mon ∧
      (s.settleOutputs).mode = s.mode ∧ (s.settleOutputs).pending = s.pending := by
  unfold State.settleOutputs; try dsimp only
  (repeat' split) <;> simp

@[simp] theorem State.syncRollaway_frame (s : State) :
    (s.syncRollaway).params = s.params ∧ (s.syncRollaway).gates = s.gates ∧
      (s.syncRollaway).token = s.token ∧ (s.syncRollaway).refusal = s.refusal ∧
      (s.syncRollaway).line = s.line ∧ (s.syncRollaway).pos = s.pos ∧
      (s.syncRollaway).contact = s.contact ∧ (s.syncRollaway).sup = s.sup ∧
      (s.syncRollaway).valves = s.valves ∧ (s.syncRollaway).doors = s.doors ∧
      (s.syncRollaway).upper = s.upper ∧ (s.syncRollaway).lower = s.lower ∧
      (s.syncRollaway).flags = s.flags ∧ (s.syncRollaway).rx = s.rx ∧
      (s.syncRollaway).lineCode = s.lineCode ∧ (s.syncRollaway).tx = s.tx ∧
      (s.syncRollaway).handler = s.handler ∧ (s.syncRollaway).reports = s.reports ∧
      (s.syncRollaway).mon = s.mon ∧ (s.syncRollaway).mode = s.mode ∧
      (s.syncRollaway).pending = s.pending := by
  unfold State.syncRollaway; try dsimp only
  (repeat' split) <;> simp

@[simp] theorem State.syncReadback_frame (s : State) :
    (s.syncReadback).params = s.params ∧ (s.syncReadback).gates = s.gates ∧
      (s.syncReadback).token = s.token ∧ (s.syncReadback).refusal = s.refusal ∧
      (s.syncReadback).line = s.line ∧ (s.syncReadback).pos = s.pos ∧
      (s.syncReadback).contact = s.contact ∧ (s.syncReadback).sup = s.sup ∧
      (s.syncReadback).brk = s.brk ∧ (s.syncReadback).doors = s.doors ∧
      (s.syncReadback).upper = s.upper ∧ (s.syncReadback).lower = s.lower ∧
      (s.syncReadback).flags = s.flags ∧ (s.syncReadback).rx = s.rx ∧
      (s.syncReadback).lineCode = s.lineCode ∧ (s.syncReadback).tx = s.tx ∧
      (s.syncReadback).handler = s.handler ∧ (s.syncReadback).reports = s.reports ∧
      (s.syncReadback).mon = s.mon ∧ (s.syncReadback).mode = s.mode ∧
      (s.syncReadback).pending = s.pending := by
  unfold State.syncReadback; try dsimp only
  (repeat' split) <;> simp

@[simp] theorem State.setBrake_frame (b : BrakeId) (x : BrakeState) (s : State) :
    (s.setBrake b x).params = s.params ∧ (s.setBrake b x).gates = s.gates ∧
      (s.setBrake b x).token = s.token ∧ (s.setBrake b x).refusal = s.refusal ∧
      (s.setBrake b x).line = s.line ∧ (s.setBrake b x).pos = s.pos ∧
      (s.setBrake b x).contact = s.contact ∧ (s.setBrake b x).sup = s.sup ∧
      (s.setBrake b x).doors = s.doors ∧ (s.setBrake b x).upper = s.upper ∧
      (s.setBrake b x).lower = s.lower ∧ (s.setBrake b x).rx = s.rx ∧
      (s.setBrake b x).lineCode = s.lineCode ∧ (s.setBrake b x).tx = s.tx ∧
      (s.setBrake b x).handler = s.handler ∧ (s.setBrake b x).reports = s.reports ∧
      (s.setBrake b x).mon = s.mon ∧ (s.setBrake b x).mode = s.mode ∧
      (s.setBrake b x).pending = s.pending := by
  unfold State.setBrake; try dsimp only
  (repeat' split) <;> simp

@[simp] theorem State.applyCmd_frame (b : BrakeId) (s : State) :
    (s.applyCmd b).params = s.params ∧ (s.applyCmd b).gates = s.gates ∧
      (s.applyCmd b).token = s.token ∧ (s.applyCmd b).refusal = s.refusal ∧
      (s.applyCmd b).line = s.line ∧ (s.applyCmd b).pos = s.pos ∧
      (s.applyCmd b).contact = s.contact ∧ (s.applyCmd b).sup = s.sup ∧
      (s.applyCmd b).doors = s.doors ∧ (s.applyCmd b).upper = s.upper ∧
      (s.applyCmd b).lower = s.lower ∧ (s.applyCmd b).rx = s.rx ∧
      (s.applyCmd b).lineCode = s.lineCode ∧ (s.applyCmd b).tx = s.tx ∧
      (s.applyCmd b).handler = s.handler ∧ (s.applyCmd b).reports = s.reports ∧
      (s.applyCmd b).mon = s.mon ∧ (s.applyCmd b).mode = s.mode ∧
      (s.applyCmd b).pending = s.pending := by
  unfold State.applyCmd; try dsimp only
  (repeat' split) <;> simp

@[simp] theorem State.releaseValve_frame (b : BrakeId) (s : State) :
    (s.releaseValve b).params = s.params ∧ (s.releaseValve b).gates = s.gates ∧
      (s.releaseValve b).token = s.token ∧ (s.releaseValve b).refusal = s.refusal ∧
      (s.releaseValve b).line = s.line ∧ (s.releaseValve b).pos = s.pos ∧
      (s.releaseValve b).contact = s.contact ∧ (s.releaseValve b).sup = s.sup ∧
      (s.releaseValve b).doors = s.doors ∧ (s.releaseValve b).upper = s.upper ∧
      (s.releaseValve b).lower = s.lower ∧ (s.releaseValve b).rx = s.rx ∧
      (s.releaseValve b).lineCode = s.lineCode ∧ (s.releaseValve b).tx = s.tx ∧
      (s.releaseValve b).handler = s.handler ∧ (s.releaseValve b).reports = s.reports ∧
      (s.releaseValve b).mon = s.mon ∧ (s.releaseValve b).mode = s.mode ∧
      (s.releaseValve b).pending = s.pending := by
  unfold State.releaseValve; try dsimp only
  (repeat' split) <;> simp

@[simp] theorem State.setTerms_frame (t : Terms) (s : State) :
    (s.setTerms t).params = s.params ∧ (s.setTerms t).gates = s.gates ∧
      (s.setTerms t).token = s.token ∧ (s.setTerms t).refusal = s.refusal ∧
      (s.setTerms t).line = s.line ∧ (s.setTerms t).pos = s.pos ∧
      (s.setTerms t).contact = s.contact ∧ (s.setTerms t).sup = s.sup ∧
      (s.setTerms t).doors = s.doors ∧ (s.setTerms t).upper = s.upper ∧
      (s.setTerms t).lower = s.lower ∧ (s.setTerms t).rx = s.rx ∧
      (s.setTerms t).lineCode = s.lineCode ∧ (s.setTerms t).tx = s.tx ∧
      (s.setTerms t).handler = s.handler ∧ (s.setTerms t).reports = s.reports ∧
      (s.setTerms t).mon = s.mon ∧ (s.setTerms t).mode = s.mode ∧
      (s.setTerms t).pending = s.pending := by
  unfold State.setTerms; try dsimp only
  (repeat' split) <;> simp

@[simp] theorem State.lockLoss_frame (s : State) :
    (s.lockLoss).params = s.params ∧ (s.lockLoss).gates = s.gates ∧
      (s.lockLoss).token = s.token ∧ (s.lockLoss).refusal = s.refusal ∧
      (s.lockLoss).line = s.line ∧ (s.lockLoss).pos = s.pos ∧
      (s.lockLoss).contact = s.contact ∧ (s.lockLoss).sup = s.sup ∧
      (s.lockLoss).doors = s.doors ∧ (s.lockLoss).upper = s.upper ∧
      (s.lockLoss).lower = s.lower ∧ (s.lockLoss).rx = s.rx ∧
      (s.lockLoss).lineCode = s.lineCode ∧ (s.lockLoss).tx = s.tx ∧
      (s.lockLoss).handler = s.handler ∧ (s.lockLoss).reports = s.reports ∧
      (s.lockLoss).mon = s.mon ∧ (s.lockLoss).mode = s.mode ∧
      (s.lockLoss).pending = s.pending := by
  unfold State.lockLoss; try dsimp only
  (repeat' split) <;> simp

/-! ## Doors -/

@[simp] theorem State.setLeaf_frame (i : LeafId) (x : LeafState) (r : Nat) (s : State) :
    (s.setLeaf i x r).params = s.params ∧ (s.setLeaf i x r).gates = s.gates ∧
      (s.setLeaf i x r).token = s.token ∧ (s.setLeaf i x r).refusal = s.refusal ∧
      (s.setLeaf i x r).line = s.line ∧ (s.setLeaf i x r).pos = s.pos ∧
      (s.setLeaf i x r).contact = s.contact ∧ (s.setLeaf i x r).sup = s.sup ∧
      (s.setLeaf i x r).upper = s.upper ∧ (s.setLeaf i x r).lower = s.lower ∧
      (s.setLeaf i x r).rx = s.rx ∧ (s.setLeaf i x r).lineCode = s.lineCode ∧
      (s.setLeaf i x r).tx = s.tx ∧ (s.setLeaf i x r).handler = s.handler ∧
      (s.setLeaf i x r).reports = s.reports ∧ (s.setLeaf i x r).mon = s.mon ∧
      (s.setLeaf i x r).mode = s.mode ∧ (s.setLeaf i x r).pending = s.pending := by
  unfold State.setLeaf; try dsimp only
  (repeat' split) <;> simp

@[simp] theorem State.settleLeaf_frame (i : LeafId) (n : Nat) (s : State) :
    (s.settleLeaf i n).params = s.params ∧ (s.settleLeaf i n).gates = s.gates ∧
      (s.settleLeaf i n).token = s.token ∧ (s.settleLeaf i n).refusal = s.refusal ∧
      (s.settleLeaf i n).line = s.line ∧ (s.settleLeaf i n).pos = s.pos ∧
      (s.settleLeaf i n).contact = s.contact ∧ (s.settleLeaf i n).sup = s.sup ∧
      (s.settleLeaf i n).upper = s.upper ∧ (s.settleLeaf i n).lower = s.lower ∧
      (s.settleLeaf i n).rx = s.rx ∧ (s.settleLeaf i n).lineCode = s.lineCode ∧
      (s.settleLeaf i n).tx = s.tx ∧ (s.settleLeaf i n).handler = s.handler ∧
      (s.settleLeaf i n).reports = s.reports ∧ (s.settleLeaf i n).mon = s.mon ∧
      (s.settleLeaf i n).mode = s.mode ∧ (s.settleLeaf i n).pending = s.pending := by
  induction n generalizing s with
  | zero => simp [State.settleLeaf]
  | succ n ih =>
    unfold State.settleLeaf; dsimp only; split
    · simp
    · split <;> simp [ih]

@[simp] theorem State.enterLeaf_frame (i : LeafId) (x : LeafState) (r : Nat) (s : State) :
    (s.enterLeaf i x r).params = s.params ∧ (s.enterLeaf i x r).gates = s.gates ∧
      (s.enterLeaf i x r).token = s.token ∧ (s.enterLeaf i x r).refusal = s.refusal ∧
      (s.enterLeaf i x r).line = s.line ∧ (s.enterLeaf i x r).pos = s.pos ∧
      (s.enterLeaf i x r).contact = s.contact ∧ (s.enterLeaf i x r).sup = s.sup ∧
      (s.enterLeaf i x r).upper = s.upper ∧ (s.enterLeaf i x r).lower = s.lower ∧
      (s.enterLeaf i x r).rx = s.rx ∧ (s.enterLeaf i x r).lineCode = s.lineCode ∧
      (s.enterLeaf i x r).tx = s.tx ∧ (s.enterLeaf i x r).handler = s.handler ∧
      (s.enterLeaf i x r).reports = s.reports ∧ (s.enterLeaf i x r).mon = s.mon ∧
      (s.enterLeaf i x r).mode = s.mode ∧ (s.enterLeaf i x r).pending = s.pending := by
  simp [State.enterLeaf]

@[simp] theorem State.withdrawLeaf_frame (i : LeafId) (s : State) :
    (s.withdrawLeaf i).params = s.params ∧ (s.withdrawLeaf i).gates = s.gates ∧
      (s.withdrawLeaf i).token = s.token ∧ (s.withdrawLeaf i).refusal = s.refusal ∧
      (s.withdrawLeaf i).line = s.line ∧ (s.withdrawLeaf i).pos = s.pos ∧
      (s.withdrawLeaf i).contact = s.contact ∧ (s.withdrawLeaf i).sup = s.sup ∧
      (s.withdrawLeaf i).upper = s.upper ∧ (s.withdrawLeaf i).lower = s.lower ∧
      (s.withdrawLeaf i).rx = s.rx ∧ (s.withdrawLeaf i).lineCode = s.lineCode ∧
      (s.withdrawLeaf i).tx = s.tx ∧ (s.withdrawLeaf i).handler = s.handler ∧
      (s.withdrawLeaf i).reports = s.reports ∧ (s.withdrawLeaf i).mon = s.mon ∧
      (s.withdrawLeaf i).mode = s.mode ∧ (s.withdrawLeaf i).pending = s.pending := by
  unfold State.withdrawLeaf; try dsimp only
  (repeat' split) <;> simp

@[simp] theorem State.setSide_frame (d : SideId) (x : SideState) (s : State) :
    (s.setSide d x).params = s.params ∧ (s.setSide d x).gates = s.gates ∧
      (s.setSide d x).token = s.token ∧ (s.setSide d x).refusal = s.refusal ∧
      (s.setSide d x).line = s.line ∧ (s.setSide d x).pos = s.pos ∧
      (s.setSide d x).contact = s.contact ∧ (s.setSide d x).sup = s.sup ∧
      (s.setSide d x).upper = s.upper ∧ (s.setSide d x).lower = s.lower ∧
      (s.setSide d x).rx = s.rx ∧ (s.setSide d x).lineCode = s.lineCode ∧
      (s.setSide d x).tx = s.tx ∧ (s.setSide d x).handler = s.handler ∧
      (s.setSide d x).reports = s.reports ∧ (s.setSide d x).mon = s.mon ∧
      (s.setSide d x).mode = s.mode ∧ (s.setSide d x).pending = s.pending := by
  unfold State.setSide; try dsimp only
  (repeat' split) <;> simp

@[simp] theorem State.withdrawLeaves_frame (d : SideId) (s : State) :
    (s.withdrawLeaves d).params = s.params ∧ (s.withdrawLeaves d).gates = s.gates ∧
      (s.withdrawLeaves d).token = s.token ∧ (s.withdrawLeaves d).refusal = s.refusal ∧
      (s.withdrawLeaves d).line = s.line ∧ (s.withdrawLeaves d).pos = s.pos ∧
      (s.withdrawLeaves d).contact = s.contact ∧ (s.withdrawLeaves d).sup = s.sup ∧
      (s.withdrawLeaves d).upper = s.upper ∧ (s.withdrawLeaves d).lower = s.lower ∧
      (s.withdrawLeaves d).rx = s.rx ∧ (s.withdrawLeaves d).lineCode = s.lineCode ∧
      (s.withdrawLeaves d).tx = s.tx ∧ (s.withdrawLeaves d).handler = s.handler ∧
      (s.withdrawLeaves d).reports = s.reports ∧ (s.withdrawLeaves d).mon = s.mon ∧
      (s.withdrawLeaves d).mode = s.mode ∧ (s.withdrawLeaves d).pending = s.pending := by
  cases d <;> simp [State.withdrawLeaves, SideId.leaves]

@[simp] theorem State.withdrawSide_frame (d : SideId) (s : State) :
    (s.withdrawSide d).params = s.params ∧ (s.withdrawSide d).gates = s.gates ∧
      (s.withdrawSide d).token = s.token ∧ (s.withdrawSide d).refusal = s.refusal ∧
      (s.withdrawSide d).line = s.line ∧ (s.withdrawSide d).pos = s.pos ∧
      (s.withdrawSide d).contact = s.contact ∧ (s.withdrawSide d).sup = s.sup ∧
      (s.withdrawSide d).upper = s.upper ∧ (s.withdrawSide d).lower = s.lower ∧
      (s.withdrawSide d).rx = s.rx ∧ (s.withdrawSide d).lineCode = s.lineCode ∧
      (s.withdrawSide d).tx = s.tx ∧ (s.withdrawSide d).handler = s.handler ∧
      (s.withdrawSide d).reports = s.reports ∧ (s.withdrawSide d).mon = s.mon ∧
      (s.withdrawSide d).mode = s.mode ∧ (s.withdrawSide d).pending = s.pending := by
  unfold State.withdrawSide; try dsimp only
  (repeat' split) <;> simp

@[simp] theorem State.withdrawAll_frame (s : State) :
    (s.withdrawAll).params = s.params ∧ (s.withdrawAll).gates = s.gates ∧
      (s.withdrawAll).token = s.token ∧ (s.withdrawAll).refusal = s.refusal ∧
      (s.withdrawAll).line = s.line ∧ (s.withdrawAll).pos = s.pos ∧
      (s.withdrawAll).contact = s.contact ∧ (s.withdrawAll).sup = s.sup ∧
      (s.withdrawAll).upper = s.upper ∧ (s.withdrawAll).lower = s.lower ∧
      (s.withdrawAll).rx = s.rx ∧ (s.withdrawAll).lineCode = s.lineCode ∧
      (s.withdrawAll).tx = s.tx ∧ (s.withdrawAll).handler = s.handler ∧
      (s.withdrawAll).reports = s.reports ∧ (s.withdrawAll).mon = s.mon ∧
      (s.withdrawAll).mode = s.mode ∧ (s.withdrawAll).pending = s.pending := by
  simp [State.withdrawAll]

@[simp] theorem State.leftApplied_frame (b : BrakeId) (s : State) :
    (s.leftApplied b).params = s.params ∧ (s.leftApplied b).gates = s.gates ∧
      (s.leftApplied b).token = s.token ∧ (s.leftApplied b).refusal = s.refusal ∧
      (s.leftApplied b).line = s.line ∧ (s.leftApplied b).pos = s.pos ∧
      (s.leftApplied b).contact = s.contact ∧ (s.leftApplied b).sup = s.sup ∧
      (s.leftApplied b).upper = s.upper ∧ (s.leftApplied b).lower = s.lower ∧
      (s.leftApplied b).rx = s.rx ∧ (s.leftApplied b).lineCode = s.lineCode ∧
      (s.leftApplied b).tx = s.tx ∧ (s.leftApplied b).handler = s.handler ∧
      (s.leftApplied b).reports = s.reports ∧ (s.leftApplied b).mon = s.mon ∧
      (s.leftApplied b).mode = s.mode ∧ (s.leftApplied b).pending = s.pending := by
  unfold State.leftApplied; try dsimp only
  (repeat' split) <;> simp

@[simp] theorem State.releaseCmd_frame (b : BrakeId) (s : State) :
    (s.releaseCmd b).params = s.params ∧ (s.releaseCmd b).gates = s.gates ∧
      (s.releaseCmd b).token = s.token ∧ (s.releaseCmd b).refusal = s.refusal ∧
      (s.releaseCmd b).line = s.line ∧ (s.releaseCmd b).pos = s.pos ∧
      (s.releaseCmd b).contact = s.contact ∧ (s.releaseCmd b).sup = s.sup ∧
      (s.releaseCmd b).upper = s.upper ∧ (s.releaseCmd b).lower = s.lower ∧
      (s.releaseCmd b).rx = s.rx ∧ (s.releaseCmd b).lineCode = s.lineCode ∧
      (s.releaseCmd b).tx = s.tx ∧ (s.releaseCmd b).handler = s.handler ∧
      (s.releaseCmd b).reports = s.reports ∧ (s.releaseCmd b).mon = s.mon ∧
      (s.releaseCmd b).mode = s.mode ∧ (s.releaseCmd b).pending = s.pending := by
  unfold State.releaseCmd; try dsimp only
  (repeat' split) <;> simp

@[simp] theorem State.releaseRack_frame (s : State) :
    (s.releaseRack).params = s.params ∧ (s.releaseRack).gates = s.gates ∧
      (s.releaseRack).token = s.token ∧ (s.releaseRack).refusal = s.refusal ∧
      (s.releaseRack).line = s.line ∧ (s.releaseRack).pos = s.pos ∧
      (s.releaseRack).contact = s.contact ∧ (s.releaseRack).sup = s.sup ∧
      (s.releaseRack).upper = s.upper ∧ (s.releaseRack).lower = s.lower ∧
      (s.releaseRack).rx = s.rx ∧ (s.releaseRack).lineCode = s.lineCode ∧
      (s.releaseRack).tx = s.tx ∧ (s.releaseRack).handler = s.handler ∧
      (s.releaseRack).reports = s.reports ∧ (s.releaseRack).mon = s.mon ∧
      (s.releaseRack).mode = s.mode ∧ (s.releaseRack).pending = s.pending := by
  unfold State.releaseRack; try dsimp only
  (repeat' split) <;> simp

/-! ## Modem and mode -/

@[simp] theorem State.offerStatus_frame (s : State) :
    (s.offerStatus).params = s.params ∧ (s.offerStatus).gates = s.gates ∧
      (s.offerStatus).token = s.token ∧ (s.offerStatus).refusal = s.refusal ∧
      (s.offerStatus).line = s.line ∧ (s.offerStatus).pos = s.pos ∧
      (s.offerStatus).contact = s.contact ∧ (s.offerStatus).sup = s.sup ∧
      (s.offerStatus).brk = s.brk ∧ (s.offerStatus).valves = s.valves ∧
      (s.offerStatus).doors = s.doors ∧ (s.offerStatus).upper = s.upper ∧
      (s.offerStatus).lower = s.lower ∧ (s.offerStatus).flags = s.flags ∧
      (s.offerStatus).rx = s.rx ∧ (s.offerStatus).lineCode = s.lineCode ∧
      (s.offerStatus).tx = s.tx ∧ (s.offerStatus).handler = s.handler ∧
      (s.offerStatus).mon = s.mon ∧ (s.offerStatus).mode = s.mode ∧
      (s.offerStatus).pending = s.pending := by
  simp [State.offerStatus]

@[simp] theorem State.offerAlarm_frame (k : CauseKind) (s : State) :
    (s.offerAlarm k).params = s.params ∧ (s.offerAlarm k).gates = s.gates ∧
      (s.offerAlarm k).token = s.token ∧ (s.offerAlarm k).refusal = s.refusal ∧
      (s.offerAlarm k).line = s.line ∧ (s.offerAlarm k).pos = s.pos ∧
      (s.offerAlarm k).contact = s.contact ∧ (s.offerAlarm k).sup = s.sup ∧
      (s.offerAlarm k).brk = s.brk ∧ (s.offerAlarm k).valves = s.valves ∧
      (s.offerAlarm k).doors = s.doors ∧ (s.offerAlarm k).upper = s.upper ∧
      (s.offerAlarm k).lower = s.lower ∧ (s.offerAlarm k).flags = s.flags ∧
      (s.offerAlarm k).rx = s.rx ∧ (s.offerAlarm k).lineCode = s.lineCode ∧
      (s.offerAlarm k).tx = s.tx ∧ (s.offerAlarm k).handler = s.handler ∧
      (s.offerAlarm k).mon = s.mon ∧ (s.offerAlarm k).mode = s.mode ∧
      (s.offerAlarm k).pending = s.pending := by
  unfold State.offerAlarm; try dsimp only
  (repeat' split) <;> simp

@[simp] theorem State.keyOn_frame (s : State) :
    (s.keyOn).params = s.params ∧ (s.keyOn).gates = s.gates ∧
      (s.keyOn).token = s.token ∧ (s.keyOn).refusal = s.refusal ∧
      (s.keyOn).line = s.line ∧ (s.keyOn).pos = s.pos ∧
      (s.keyOn).contact = s.contact ∧ (s.keyOn).sup = s.sup ∧
      (s.keyOn).brk = s.brk ∧ (s.keyOn).valves = s.valves ∧
      (s.keyOn).doors = s.doors ∧ (s.keyOn).upper = s.upper ∧
      (s.keyOn).lower = s.lower ∧ (s.keyOn).flags = s.flags ∧
      (s.keyOn).rx = s.rx ∧ (s.keyOn).lineCode = s.lineCode ∧
      (s.keyOn).handler = s.handler ∧ (s.keyOn).mon = s.mon ∧
      (s.keyOn).pending = s.pending := by
  unfold State.keyOn; try dsimp only
  (repeat' split) <;> simp

@[simp] theorem State.keyOff_frame (s : State) :
    (s.keyOff).params = s.params ∧ (s.keyOff).gates = s.gates ∧
      (s.keyOff).token = s.token ∧ (s.keyOff).refusal = s.refusal ∧
      (s.keyOff).line = s.line ∧ (s.keyOff).pos = s.pos ∧
      (s.keyOff).contact = s.contact ∧ (s.keyOff).sup = s.sup ∧
      (s.keyOff).brk = s.brk ∧ (s.keyOff).valves = s.valves ∧
      (s.keyOff).doors = s.doors ∧ (s.keyOff).upper = s.upper ∧
      (s.keyOff).lower = s.lower ∧ (s.keyOff).flags = s.flags ∧
      (s.keyOff).rx = s.rx ∧ (s.keyOff).lineCode = s.lineCode ∧
      (s.keyOff).handler = s.handler ∧ (s.keyOff).mon = s.mon ∧
      (s.keyOff).pending = s.pending := by
  unfold State.keyOff; try dsimp only
  (repeat' split) <;> simp

@[simp] theorem State.powerOn_frame (s : State) :
    (s.powerOn).params = s.params ∧ (s.powerOn).gates = s.gates ∧
      (s.powerOn).token = s.token ∧ (s.powerOn).refusal = s.refusal ∧
      (s.powerOn).line = s.line ∧ (s.powerOn).pos = s.pos ∧
      (s.powerOn).contact = s.contact ∧ (s.powerOn).sup = s.sup ∧
      (s.powerOn).brk = s.brk ∧ (s.powerOn).valves = s.valves ∧
      (s.powerOn).doors = s.doors ∧ (s.powerOn).upper = s.upper ∧
      (s.powerOn).lower = s.lower ∧ (s.powerOn).flags = s.flags ∧
      (s.powerOn).lineCode = s.lineCode ∧ (s.powerOn).tx = s.tx ∧
      (s.powerOn).handler = s.handler ∧ (s.powerOn).reports = s.reports ∧
      (s.powerOn).mon = s.mon ∧ (s.powerOn).pending = s.pending := by
  unfold State.powerOn; try dsimp only
  (repeat' split) <;> simp

@[simp] theorem State.modemFor_frame (m : CarMode) (s : State) :
    (s.modemFor m).params = s.params ∧ (s.modemFor m).gates = s.gates ∧
      (s.modemFor m).token = s.token ∧ (s.modemFor m).refusal = s.refusal ∧
      (s.modemFor m).line = s.line ∧ (s.modemFor m).pos = s.pos ∧
      (s.modemFor m).contact = s.contact ∧ (s.modemFor m).sup = s.sup ∧
      (s.modemFor m).brk = s.brk ∧ (s.modemFor m).valves = s.valves ∧
      (s.modemFor m).doors = s.doors ∧ (s.modemFor m).upper = s.upper ∧
      (s.modemFor m).lower = s.lower ∧ (s.modemFor m).flags = s.flags ∧
      (s.modemFor m).lineCode = s.lineCode ∧ (s.modemFor m).handler = s.handler ∧
      (s.modemFor m).mon = s.mon ∧ (s.modemFor m).pending = s.pending := by
  unfold State.modemFor; try dsimp only
  (repeat' split) <;> simp

@[simp] theorem State.enterMode_frame (m : CarMode) (s : State) :
    (s.enterMode m).params = s.params ∧ (s.enterMode m).gates = s.gates ∧
      (s.enterMode m).token = s.token ∧ (s.enterMode m).refusal = s.refusal ∧
      (s.enterMode m).line = s.line ∧ (s.enterMode m).pos = s.pos ∧
      (s.enterMode m).contact = s.contact ∧ (s.enterMode m).sup = s.sup ∧
      (s.enterMode m).upper = s.upper ∧ (s.enterMode m).lower = s.lower ∧
      (s.enterMode m).lineCode = s.lineCode ∧ (s.enterMode m).handler = s.handler ∧
      (s.enterMode m).mon = s.mon ∧ (s.enterMode m).pending = s.pending := by
  unfold State.enterMode; try dsimp only
  (repeat' split) <;> simp

@[simp] theorem State.changeMode_frame (m : CarMode) (s : State) :
    (s.changeMode m).params = s.params ∧ (s.changeMode m).gates = s.gates ∧
      (s.changeMode m).token = s.token ∧ (s.changeMode m).refusal = s.refusal ∧
      (s.changeMode m).line = s.line ∧ (s.changeMode m).pos = s.pos ∧
      (s.changeMode m).contact = s.contact ∧ (s.changeMode m).sup = s.sup ∧
      (s.changeMode m).upper = s.upper ∧ (s.changeMode m).lower = s.lower ∧
      (s.changeMode m).lineCode = s.lineCode ∧ (s.changeMode m).handler = s.handler ∧
      (s.changeMode m).mon = s.mon ∧ (s.changeMode m).pending = s.pending := by
  unfold State.changeMode; try dsimp only
  (repeat' split) <;> simp

/-! ## Causes -/

@[simp] theorem State.joinCause_frame (k : CauseKind) (s : State) :
    (s.joinCause k).params = s.params ∧ (s.joinCause k).gates = s.gates ∧
      (s.joinCause k).token = s.token ∧ (s.joinCause k).refusal = s.refusal ∧
      (s.joinCause k).line = s.line ∧ (s.joinCause k).pos = s.pos ∧
      (s.joinCause k).contact = s.contact ∧ (s.joinCause k).sup = s.sup ∧
      (s.joinCause k).doors = s.doors ∧ (s.joinCause k).upper = s.upper ∧
      (s.joinCause k).lower = s.lower ∧ (s.joinCause k).rx = s.rx ∧
      (s.joinCause k).lineCode = s.lineCode ∧ (s.joinCause k).tx = s.tx ∧
      (s.joinCause k).handler = s.handler ∧ (s.joinCause k).mon = s.mon ∧
      (s.joinCause k).mode = s.mode ∧ (s.joinCause k).pending = s.pending := by
  unfold State.joinCause; try dsimp only
  (repeat' split) <;> simp

@[simp] theorem State.addCause_frame (k : CauseKind) (s : State) :
    (s.addCause k).params = s.params ∧ (s.addCause k).gates = s.gates ∧
      (s.addCause k).token = s.token ∧ (s.addCause k).refusal = s.refusal ∧
      (s.addCause k).line = s.line ∧ (s.addCause k).pos = s.pos ∧
      (s.addCause k).contact = s.contact ∧ (s.addCause k).sup = s.sup ∧
      (s.addCause k).upper = s.upper ∧ (s.addCause k).lower = s.lower ∧
      (s.addCause k).lineCode = s.lineCode ∧ (s.addCause k).handler = s.handler ∧
      (s.addCause k).mon = s.mon ∧ (s.addCause k).pending = s.pending := by
  unfold State.addCause; try dsimp only
  (repeat' split) <;> simp

@[simp] theorem State.addCause_frameOf (k : CauseKind) (s : State) (h : k ≠ .rollaway) :
    (s.addCause k).params = s.params ∧ (s.addCause k).gates = s.gates ∧
      (s.addCause k).token = s.token ∧ (s.addCause k).refusal = s.refusal ∧
      (s.addCause k).line = s.line ∧ (s.addCause k).pos = s.pos ∧
      (s.addCause k).contact = s.contact ∧ (s.addCause k).sup = s.sup ∧
      (s.addCause k).doors = s.doors ∧ (s.addCause k).upper = s.upper ∧
      (s.addCause k).lower = s.lower ∧ (s.addCause k).rx = s.rx ∧
      (s.addCause k).lineCode = s.lineCode ∧ (s.addCause k).tx = s.tx ∧
      (s.addCause k).handler = s.handler ∧ (s.addCause k).mon = s.mon ∧
      (s.addCause k).mode = s.mode ∧ (s.addCause k).pending = s.pending := by
  unfold State.addCause; rw [if_neg (by simp [h])]; split <;> simp

@[simp] theorem State.brakeFault_frame (b : BrakeId) (s : State) :
    (s.brakeFault b).params = s.params ∧ (s.brakeFault b).gates = s.gates ∧
      (s.brakeFault b).token = s.token ∧ (s.brakeFault b).refusal = s.refusal ∧
      (s.brakeFault b).line = s.line ∧ (s.brakeFault b).pos = s.pos ∧
      (s.brakeFault b).contact = s.contact ∧ (s.brakeFault b).sup = s.sup ∧
      (s.brakeFault b).upper = s.upper ∧ (s.brakeFault b).lower = s.lower ∧
      (s.brakeFault b).rx = s.rx ∧ (s.brakeFault b).lineCode = s.lineCode ∧
      (s.brakeFault b).tx = s.tx ∧ (s.brakeFault b).handler = s.handler ∧
      (s.brakeFault b).mon = s.mon ∧ (s.brakeFault b).mode = s.mode ∧
      (s.brakeFault b).pending = s.pending := by
  unfold State.brakeFault; try dsimp only
  (repeat' split) <;> simp

/-! ## Supervision -/

@[simp] theorem State.measureLimits_frame (s : State) :
    (s.measureLimits).params = s.params ∧ (s.measureLimits).gates = s.gates ∧
      (s.measureLimits).token = s.token ∧ (s.measureLimits).refusal = s.refusal ∧
      (s.measureLimits).line = s.line ∧ (s.measureLimits).pos = s.pos ∧
      (s.measureLimits).contact = s.contact ∧ (s.measureLimits).brk = s.brk ∧
      (s.measureLimits).valves = s.valves ∧ (s.measureLimits).doors = s.doors ∧
      (s.measureLimits).upper = s.upper ∧ (s.measureLimits).lower = s.lower ∧
      (s.measureLimits).flags = s.flags ∧ (s.measureLimits).rx = s.rx ∧
      (s.measureLimits).lineCode = s.lineCode ∧ (s.measureLimits).tx = s.tx ∧
      (s.measureLimits).handler = s.handler ∧ (s.measureLimits).reports = s.reports ∧
      (s.measureLimits).mon = s.mon ∧ (s.measureLimits).mode = s.mode ∧
      (s.measureLimits).pending = s.pending := by
  simp [State.measureLimits]

@[simp] theorem State.eoaTest_frame (s : State) :
    (s.eoaTest).params = s.params ∧ (s.eoaTest).gates = s.gates ∧
      (s.eoaTest).token = s.token ∧ (s.eoaTest).refusal = s.refusal ∧
      (s.eoaTest).line = s.line ∧ (s.eoaTest).pos = s.pos ∧
      (s.eoaTest).contact = s.contact ∧ (s.eoaTest).doors = s.doors ∧
      (s.eoaTest).upper = s.upper ∧ (s.eoaTest).lower = s.lower ∧
      (s.eoaTest).rx = s.rx ∧ (s.eoaTest).lineCode = s.lineCode ∧
      (s.eoaTest).tx = s.tx ∧ (s.eoaTest).handler = s.handler ∧
      (s.eoaTest).mon = s.mon ∧ (s.eoaTest).mode = s.mode ∧
      (s.eoaTest).pending = s.pending := by
  unfold State.eoaTest; try dsimp only
  (repeat' split) <;> simp

@[simp] theorem State.setSupState_frame (x : SupState) (s : State) :
    (s.setSupState x).params = s.params ∧ (s.setSupState x).gates = s.gates ∧
      (s.setSupState x).token = s.token ∧ (s.setSupState x).refusal = s.refusal ∧
      (s.setSupState x).line = s.line ∧ (s.setSupState x).pos = s.pos ∧
      (s.setSupState x).contact = s.contact ∧ (s.setSupState x).doors = s.doors ∧
      (s.setSupState x).upper = s.upper ∧ (s.setSupState x).lower = s.lower ∧
      (s.setSupState x).rx = s.rx ∧ (s.setSupState x).lineCode = s.lineCode ∧
      (s.setSupState x).tx = s.tx ∧ (s.setSupState x).handler = s.handler ∧
      (s.setSupState x).mon = s.mon ∧ (s.setSupState x).mode = s.mode ∧
      (s.setSupState x).pending = s.pending := by
  unfold State.setSupState; try dsimp only
  (repeat' split) <;> simp

@[simp] theorem State.evalCore_frame (s : State) :
    (s.evalCore).params = s.params ∧ (s.evalCore).gates = s.gates ∧
      (s.evalCore).token = s.token ∧ (s.evalCore).refusal = s.refusal ∧
      (s.evalCore).line = s.line ∧ (s.evalCore).pos = s.pos ∧
      (s.evalCore).contact = s.contact ∧ (s.evalCore).doors = s.doors ∧
      (s.evalCore).upper = s.upper ∧ (s.evalCore).lower = s.lower ∧
      (s.evalCore).rx = s.rx ∧ (s.evalCore).lineCode = s.lineCode ∧
      (s.evalCore).tx = s.tx ∧ (s.evalCore).handler = s.handler ∧
      (s.evalCore).mon = s.mon ∧ (s.evalCore).mode = s.mode ∧
      (s.evalCore).pending = s.pending := by
  simp [State.evalCore]

@[simp] theorem State.voidAuthority_frame (s : State) :
    (s.voidAuthority).params = s.params ∧ (s.voidAuthority).gates = s.gates ∧
      (s.voidAuthority).token = s.token ∧ (s.voidAuthority).refusal = s.refusal ∧
      (s.voidAuthority).pos = s.pos ∧ (s.voidAuthority).contact = s.contact ∧
      (s.voidAuthority).sup = s.sup ∧ (s.voidAuthority).brk = s.brk ∧
      (s.voidAuthority).valves = s.valves ∧ (s.voidAuthority).doors = s.doors ∧
      (s.voidAuthority).upper = s.upper ∧ (s.voidAuthority).lower = s.lower ∧
      (s.voidAuthority).rx = s.rx ∧ (s.voidAuthority).lineCode = s.lineCode ∧
      (s.voidAuthority).tx = s.tx ∧ (s.voidAuthority).handler = s.handler ∧
      (s.voidAuthority).reports = s.reports ∧ (s.voidAuthority).mon = s.mon ∧
      (s.voidAuthority).mode = s.mode ∧ (s.voidAuthority).pending = s.pending := by
  unfold State.voidAuthority; try dsimp only
  (repeat' split) <;> simp

@[simp] theorem State.setContactState_frame (x : ContactState) (s : State) :
    (s.setContactState x).params = s.params ∧ (s.setContactState x).gates = s.gates ∧
      (s.setContactState x).token = s.token ∧ (s.setContactState x).refusal = s.refusal ∧
      (s.setContactState x).pos = s.pos ∧ (s.setContactState x).doors = s.doors ∧
      (s.setContactState x).upper = s.upper ∧ (s.setContactState x).lower = s.lower ∧
      (s.setContactState x).rx = s.rx ∧ (s.setContactState x).lineCode = s.lineCode ∧
      (s.setContactState x).tx = s.tx ∧ (s.setContactState x).handler = s.handler ∧
      (s.setContactState x).mon = s.mon ∧ (s.setContactState x).mode = s.mode ∧
      (s.setContactState x).pending = s.pending := by
  unfold State.setContactState; try dsimp only
  (repeat' split) <;> simp

@[simp] theorem State.judgeContact_frame (s : State) :
    (s.judgeContact).params = s.params ∧ (s.judgeContact).gates = s.gates ∧
      (s.judgeContact).token = s.token ∧ (s.judgeContact).refusal = s.refusal ∧
      (s.judgeContact).pos = s.pos ∧ (s.judgeContact).doors = s.doors ∧
      (s.judgeContact).upper = s.upper ∧ (s.judgeContact).lower = s.lower ∧
      (s.judgeContact).rx = s.rx ∧ (s.judgeContact).lineCode = s.lineCode ∧
      (s.judgeContact).tx = s.tx ∧ (s.judgeContact).handler = s.handler ∧
      (s.judgeContact).mon = s.mon ∧ (s.judgeContact).mode = s.mode ∧
      (s.judgeContact).pending = s.pending := by
  unfold State.judgeContact; try dsimp only
  (repeat' split) <;> simp

@[simp] theorem State.contactHeard_frame (s : State) :
    (s.contactHeard).params = s.params ∧ (s.contactHeard).gates = s.gates ∧
      (s.contactHeard).token = s.token ∧ (s.contactHeard).refusal = s.refusal ∧
      (s.contactHeard).pos = s.pos ∧ (s.contactHeard).doors = s.doors ∧
      (s.contactHeard).upper = s.upper ∧ (s.contactHeard).lower = s.lower ∧
      (s.contactHeard).rx = s.rx ∧ (s.contactHeard).lineCode = s.lineCode ∧
      (s.contactHeard).tx = s.tx ∧ (s.contactHeard).handler = s.handler ∧
      (s.contactHeard).mon = s.mon ∧ (s.contactHeard).mode = s.mode ∧
      (s.contactHeard).pending = s.pending := by
  simp [State.contactHeard]

@[simp] theorem State.setShadow_frame (x : Bool) (s : State) :
    (s.setShadow x).params = s.params ∧ (s.setShadow x).gates = s.gates ∧
      (s.setShadow x).token = s.token ∧ (s.setShadow x).refusal = s.refusal ∧
      (s.setShadow x).pos = s.pos ∧ (s.setShadow x).doors = s.doors ∧
      (s.setShadow x).upper = s.upper ∧ (s.setShadow x).lower = s.lower ∧
      (s.setShadow x).rx = s.rx ∧ (s.setShadow x).lineCode = s.lineCode ∧
      (s.setShadow x).tx = s.tx ∧ (s.setShadow x).handler = s.handler ∧
      (s.setShadow x).mon = s.mon ∧ (s.setShadow x).mode = s.mode ∧
      (s.setShadow x).pending = s.pending := by
  unfold State.setShadow; try dsimp only
  (repeat' split) <;> simp

@[simp] theorem State.shadowTest_frame (s : State) :
    (s.shadowTest).params = s.params ∧ (s.shadowTest).gates = s.gates ∧
      (s.shadowTest).token = s.token ∧ (s.shadowTest).refusal = s.refusal ∧
      (s.shadowTest).pos = s.pos ∧ (s.shadowTest).doors = s.doors ∧
      (s.shadowTest).upper = s.upper ∧ (s.shadowTest).lower = s.lower ∧
      (s.shadowTest).rx = s.rx ∧ (s.shadowTest).lineCode = s.lineCode ∧
      (s.shadowTest).tx = s.tx ∧ (s.shadowTest).handler = s.handler ∧
      (s.shadowTest).mon = s.mon ∧ (s.shadowTest).mode = s.mode ∧
      (s.shadowTest).pending = s.pending := by
  unfold State.shadowTest; try dsimp only
  (repeat' split) <;> simp

@[simp] theorem State.evaluate_frame (s : State) :
    (s.evaluate).params = s.params ∧ (s.evaluate).gates = s.gates ∧
      (s.evaluate).token = s.token ∧ (s.evaluate).refusal = s.refusal ∧
      (s.evaluate).pos = s.pos ∧ (s.evaluate).doors = s.doors ∧
      (s.evaluate).upper = s.upper ∧ (s.evaluate).lower = s.lower ∧
      (s.evaluate).rx = s.rx ∧ (s.evaluate).lineCode = s.lineCode ∧
      (s.evaluate).tx = s.tx ∧ (s.evaluate).handler = s.handler ∧
      (s.evaluate).mon = s.mon ∧ (s.evaluate).mode = s.mode ∧
      (s.evaluate).pending = s.pending := by
  unfold State.evaluate; try dsimp only
  (repeat' split) <;> simp

@[simp] theorem State.lineChanged_frame (s : State) :
    (s.lineChanged).params = s.params ∧ (s.lineChanged).gates = s.gates ∧
      (s.lineChanged).token = s.token ∧ (s.lineChanged).refusal = s.refusal ∧
      (s.lineChanged).pos = s.pos ∧ (s.lineChanged).doors = s.doors ∧
      (s.lineChanged).upper = s.upper ∧ (s.lineChanged).lower = s.lower ∧
      (s.lineChanged).rx = s.rx ∧ (s.lineChanged).lineCode = s.lineCode ∧
      (s.lineChanged).tx = s.tx ∧ (s.lineChanged).handler = s.handler ∧
      (s.lineChanged).mon = s.mon ∧ (s.lineChanged).mode = s.mode ∧
      (s.lineChanged).pending = s.pending := by
  simp [State.lineChanged]

@[simp] theorem State.judgeVersion_frame (s : State) :
    (s.judgeVersion).params = s.params ∧ (s.judgeVersion).gates = s.gates ∧
      (s.judgeVersion).token = s.token ∧ (s.judgeVersion).refusal = s.refusal ∧
      (s.judgeVersion).line = s.line ∧ (s.judgeVersion).pos = s.pos ∧
      (s.judgeVersion).contact = s.contact ∧ (s.judgeVersion).sup = s.sup ∧
      (s.judgeVersion).brk = s.brk ∧ (s.judgeVersion).valves = s.valves ∧
      (s.judgeVersion).doors = s.doors ∧ (s.judgeVersion).upper = s.upper ∧
      (s.judgeVersion).lower = s.lower ∧ (s.judgeVersion).rx = s.rx ∧
      (s.judgeVersion).lineCode = s.lineCode ∧ (s.judgeVersion).tx = s.tx ∧
      (s.judgeVersion).reports = s.reports ∧ (s.judgeVersion).mon = s.mon ∧
      (s.judgeVersion).mode = s.mode ∧ (s.judgeVersion).pending = s.pending := by
  unfold State.judgeVersion; dsimp only; (repeat' split) <;> simp_all

@[simp] theorem State.profileChanged_frame (s : State) :
    (s.profileChanged).params = s.params ∧ (s.profileChanged).gates = s.gates ∧
      (s.profileChanged).token = s.token ∧ (s.profileChanged).refusal = s.refusal ∧
      (s.profileChanged).pos = s.pos ∧ (s.profileChanged).doors = s.doors ∧
      (s.profileChanged).upper = s.upper ∧ (s.profileChanged).lower = s.lower ∧
      (s.profileChanged).rx = s.rx ∧ (s.profileChanged).lineCode = s.lineCode ∧
      (s.profileChanged).tx = s.tx ∧ (s.profileChanged).mon = s.mon ∧
      (s.profileChanged).mode = s.mode ∧ (s.profileChanged).pending = s.pending := by
  simp [State.profileChanged]

@[simp] theorem State.setConfidence_frame (x : Confidence) (s : State) :
    (s.setConfidence x).params = s.params ∧ (s.setConfidence x).gates = s.gates ∧
      (s.setConfidence x).token = s.token ∧ (s.setConfidence x).refusal = s.refusal ∧
      (s.setConfidence x).upper = s.upper ∧ (s.setConfidence x).lower = s.lower ∧
      (s.setConfidence x).rx = s.rx ∧ (s.setConfidence x).lineCode = s.lineCode ∧
      (s.setConfidence x).tx = s.tx ∧ (s.setConfidence x).handler = s.handler ∧
      (s.setConfidence x).mon = s.mon ∧ (s.setConfidence x).mode = s.mode ∧
      (s.setConfidence x).pending = s.pending := by
  unfold State.setConfidence; try dsimp only
  (repeat' split) <;> simp

/-! ## Watches -/

@[simp] theorem State.endVigilance_frame (s : State) :
    (s.endVigilance).params = s.params ∧ (s.endVigilance).gates = s.gates ∧
      (s.endVigilance).token = s.token ∧ (s.endVigilance).refusal = s.refusal ∧
      (s.endVigilance).line = s.line ∧ (s.endVigilance).pos = s.pos ∧
      (s.endVigilance).contact = s.contact ∧ (s.endVigilance).sup = s.sup ∧
      (s.endVigilance).doors = s.doors ∧ (s.endVigilance).upper = s.upper ∧
      (s.endVigilance).lower = s.lower ∧ (s.endVigilance).rx = s.rx ∧
      (s.endVigilance).lineCode = s.lineCode ∧ (s.endVigilance).tx = s.tx ∧
      (s.endVigilance).handler = s.handler ∧ (s.endVigilance).reports = s.reports ∧
      (s.endVigilance).mon = s.mon ∧ (s.endVigilance).mode = s.mode ∧
      (s.endVigilance).pending = s.pending := by
  unfold State.endVigilance; try dsimp only
  (repeat' split) <;> simp

@[simp] theorem State.judgeVigilance_frame (s : State) :
    (s.judgeVigilance).params = s.params ∧ (s.judgeVigilance).gates = s.gates ∧
      (s.judgeVigilance).token = s.token ∧ (s.judgeVigilance).refusal = s.refusal ∧
      (s.judgeVigilance).line = s.line ∧ (s.judgeVigilance).pos = s.pos ∧
      (s.judgeVigilance).contact = s.contact ∧ (s.judgeVigilance).sup = s.sup ∧
      (s.judgeVigilance).doors = s.doors ∧ (s.judgeVigilance).upper = s.upper ∧
      (s.judgeVigilance).lower = s.lower ∧ (s.judgeVigilance).rx = s.rx ∧
      (s.judgeVigilance).lineCode = s.lineCode ∧ (s.judgeVigilance).tx = s.tx ∧
      (s.judgeVigilance).handler = s.handler ∧ (s.judgeVigilance).reports = s.reports ∧
      (s.judgeVigilance).mon = s.mon ∧ (s.judgeVigilance).mode = s.mode ∧
      (s.judgeVigilance).pending = s.pending := by
  simp [State.judgeVigilance]

@[simp] theorem State.freshVigilance_frame (s : State) :
    (s.freshVigilance).params = s.params ∧ (s.freshVigilance).gates = s.gates ∧
      (s.freshVigilance).token = s.token ∧ (s.freshVigilance).refusal = s.refusal ∧
      (s.freshVigilance).line = s.line ∧ (s.freshVigilance).pos = s.pos ∧
      (s.freshVigilance).contact = s.contact ∧ (s.freshVigilance).sup = s.sup ∧
      (s.freshVigilance).doors = s.doors ∧ (s.freshVigilance).upper = s.upper ∧
      (s.freshVigilance).lower = s.lower ∧ (s.freshVigilance).rx = s.rx ∧
      (s.freshVigilance).lineCode = s.lineCode ∧ (s.freshVigilance).tx = s.tx ∧
      (s.freshVigilance).handler = s.handler ∧ (s.freshVigilance).reports = s.reports ∧
      (s.freshVigilance).mon = s.mon ∧ (s.freshVigilance).mode = s.mode ∧
      (s.freshVigilance).pending = s.pending := by
  simp [State.freshVigilance]

@[simp] theorem State.rollTooth_frame (d : Dir) (s : State) :
    (s.rollTooth d).params = s.params ∧ (s.rollTooth d).gates = s.gates ∧
      (s.rollTooth d).token = s.token ∧ (s.rollTooth d).refusal = s.refusal ∧
      (s.rollTooth d).line = s.line ∧ (s.rollTooth d).pos = s.pos ∧
      (s.rollTooth d).contact = s.contact ∧ (s.rollTooth d).sup = s.sup ∧
      (s.rollTooth d).upper = s.upper ∧ (s.rollTooth d).lower = s.lower ∧
      (s.rollTooth d).lineCode = s.lineCode ∧ (s.rollTooth d).handler = s.handler ∧
      (s.rollTooth d).mon = s.mon ∧ (s.rollTooth d).pending = s.pending := by
  unfold State.rollTooth; try dsimp only
  (repeat' split) <;> simp

@[simp] theorem State.rollReselect_frame (d : Option Dir) (s : State) :
    (s.rollReselect d).params = s.params ∧ (s.rollReselect d).gates = s.gates ∧
      (s.rollReselect d).token = s.token ∧ (s.rollReselect d).refusal = s.refusal ∧
      (s.rollReselect d).line = s.line ∧ (s.rollReselect d).pos = s.pos ∧
      (s.rollReselect d).contact = s.contact ∧ (s.rollReselect d).sup = s.sup ∧
      (s.rollReselect d).valves = s.valves ∧ (s.rollReselect d).doors = s.doors ∧
      (s.rollReselect d).upper = s.upper ∧ (s.rollReselect d).lower = s.lower ∧
      (s.rollReselect d).flags = s.flags ∧ (s.rollReselect d).rx = s.rx ∧
      (s.rollReselect d).lineCode = s.lineCode ∧ (s.rollReselect d).tx = s.tx ∧
      (s.rollReselect d).handler = s.handler ∧ (s.rollReselect d).reports = s.reports ∧
      (s.rollReselect d).mon = s.mon ∧ (s.rollReselect d).mode = s.mode ∧
      (s.rollReselect d).pending = s.pending := by
  unfold State.rollReselect; try dsimp only
  (repeat' split) <;> simp

@[simp] theorem State.endLong_frame (s : State) :
    (s.endLong).params = s.params ∧ (s.endLong).gates = s.gates ∧
      (s.endLong).token = s.token ∧ (s.endLong).refusal = s.refusal ∧
      (s.endLong).line = s.line ∧ (s.endLong).pos = s.pos ∧
      (s.endLong).contact = s.contact ∧ (s.endLong).sup = s.sup ∧
      (s.endLong).valves = s.valves ∧ (s.endLong).doors = s.doors ∧
      (s.endLong).upper = s.upper ∧ (s.endLong).lower = s.lower ∧
      (s.endLong).flags = s.flags ∧ (s.endLong).rx = s.rx ∧
      (s.endLong).lineCode = s.lineCode ∧ (s.endLong).tx = s.tx ∧
      (s.endLong).handler = s.handler ∧ (s.endLong).reports = s.reports ∧
      (s.endLong).mon = s.mon ∧ (s.endLong).mode = s.mode ∧
      (s.endLong).pending = s.pending := by
  simp [State.endLong]

@[simp] theorem State.standstillBrakes_frame (s : State) :
    (s.standstillBrakes).params = s.params ∧ (s.standstillBrakes).gates = s.gates ∧
      (s.standstillBrakes).token = s.token ∧ (s.standstillBrakes).refusal = s.refusal ∧
      (s.standstillBrakes).line = s.line ∧ (s.standstillBrakes).pos = s.pos ∧
      (s.standstillBrakes).contact = s.contact ∧ (s.standstillBrakes).sup = s.sup ∧
      (s.standstillBrakes).doors = s.doors ∧ (s.standstillBrakes).upper = s.upper ∧
      (s.standstillBrakes).lower = s.lower ∧ (s.standstillBrakes).rx = s.rx ∧
      (s.standstillBrakes).lineCode = s.lineCode ∧ (s.standstillBrakes).tx = s.tx ∧
      (s.standstillBrakes).handler = s.handler ∧ (s.standstillBrakes).reports = s.reports ∧
      (s.standstillBrakes).mon = s.mon ∧ (s.standstillBrakes).mode = s.mode ∧
      (s.standstillBrakes).pending = s.pending := by
  simp [State.standstillBrakes]

@[simp] theorem State.holdExpired_frame (s : State) :
    (s.holdExpired).params = s.params ∧ (s.holdExpired).gates = s.gates ∧
      (s.holdExpired).token = s.token ∧ (s.holdExpired).refusal = s.refusal ∧
      (s.holdExpired).line = s.line ∧ (s.holdExpired).pos = s.pos ∧
      (s.holdExpired).contact = s.contact ∧ (s.holdExpired).sup = s.sup ∧
      (s.holdExpired).doors = s.doors ∧ (s.holdExpired).upper = s.upper ∧
      (s.holdExpired).lower = s.lower ∧ (s.holdExpired).rx = s.rx ∧
      (s.holdExpired).lineCode = s.lineCode ∧ (s.holdExpired).tx = s.tx ∧
      (s.holdExpired).handler = s.handler ∧ (s.holdExpired).reports = s.reports ∧
      (s.holdExpired).mon = s.mon ∧ (s.holdExpired).mode = s.mode ∧
      (s.holdExpired).pending = s.pending := by
  unfold State.holdExpired; try dsimp only
  (repeat' split) <;> simp

@[simp] theorem State.driverTerm_frame (s : State) :
    (s.driverTerm).params = s.params ∧ (s.driverTerm).gates = s.gates ∧
      (s.driverTerm).token = s.token ∧ (s.driverTerm).refusal = s.refusal ∧
      (s.driverTerm).line = s.line ∧ (s.driverTerm).pos = s.pos ∧
      (s.driverTerm).contact = s.contact ∧ (s.driverTerm).sup = s.sup ∧
      (s.driverTerm).doors = s.doors ∧ (s.driverTerm).upper = s.upper ∧
      (s.driverTerm).lower = s.lower ∧ (s.driverTerm).rx = s.rx ∧
      (s.driverTerm).lineCode = s.lineCode ∧ (s.driverTerm).tx = s.tx ∧
      (s.driverTerm).handler = s.handler ∧ (s.driverTerm).reports = s.reports ∧
      (s.driverTerm).mon = s.mon ∧ (s.driverTerm).mode = s.mode ∧
      (s.driverTerm).pending = s.pending := by
  simp [State.driverTerm]

@[simp] theorem State.valleyTerm_frame (s : State) :
    (s.valleyTerm).params = s.params ∧ (s.valleyTerm).gates = s.gates ∧
      (s.valleyTerm).token = s.token ∧ (s.valleyTerm).refusal = s.refusal ∧
      (s.valleyTerm).line = s.line ∧ (s.valleyTerm).pos = s.pos ∧
      (s.valleyTerm).contact = s.contact ∧ (s.valleyTerm).sup = s.sup ∧
      (s.valleyTerm).doors = s.doors ∧ (s.valleyTerm).upper = s.upper ∧
      (s.valleyTerm).lower = s.lower ∧ (s.valleyTerm).rx = s.rx ∧
      (s.valleyTerm).lineCode = s.lineCode ∧ (s.valleyTerm).tx = s.tx ∧
      (s.valleyTerm).handler = s.handler ∧ (s.valleyTerm).reports = s.reports ∧
      (s.valleyTerm).mon = s.mon ∧ (s.valleyTerm).mode = s.mode ∧
      (s.valleyTerm).pending = s.pending := by
  simp [State.valleyTerm]

@[simp] theorem State.lineEndTest_frame (d : Dir) (s : State) :
    (s.lineEndTest d).params = s.params ∧ (s.lineEndTest d).gates = s.gates ∧
      (s.lineEndTest d).token = s.token ∧ (s.lineEndTest d).refusal = s.refusal ∧
      (s.lineEndTest d).line = s.line ∧ (s.lineEndTest d).pos = s.pos ∧
      (s.lineEndTest d).contact = s.contact ∧ (s.lineEndTest d).sup = s.sup ∧
      (s.lineEndTest d).doors = s.doors ∧ (s.lineEndTest d).upper = s.upper ∧
      (s.lineEndTest d).lower = s.lower ∧ (s.lineEndTest d).rx = s.rx ∧
      (s.lineEndTest d).lineCode = s.lineCode ∧ (s.lineEndTest d).tx = s.tx ∧
      (s.lineEndTest d).handler = s.handler ∧ (s.lineEndTest d).mon = s.mon ∧
      (s.lineEndTest d).mode = s.mode ∧ (s.lineEndTest d).pending = s.pending := by
  unfold State.lineEndTest; try dsimp only
  (repeat' split) <;> simp

@[simp] theorem State.toothDoors_frame (p : Position) (s : State) :
    (s.toothDoors p).params = s.params ∧ (s.toothDoors p).gates = s.gates ∧
      (s.toothDoors p).token = s.token ∧ (s.toothDoors p).refusal = s.refusal ∧
      (s.toothDoors p).line = s.line ∧ (s.toothDoors p).pos = s.pos ∧
      (s.toothDoors p).contact = s.contact ∧ (s.toothDoors p).sup = s.sup ∧
      (s.toothDoors p).upper = s.upper ∧ (s.toothDoors p).lower = s.lower ∧
      (s.toothDoors p).rx = s.rx ∧ (s.toothDoors p).lineCode = s.lineCode ∧
      (s.toothDoors p).tx = s.tx ∧ (s.toothDoors p).handler = s.handler ∧
      (s.toothDoors p).reports = s.reports ∧ (s.toothDoors p).mon = s.mon ∧
      (s.toothDoors p).mode = s.mode ∧ (s.toothDoors p).pending = s.pending := by
  unfold State.toothDoors; try dsimp only
  (repeat' split) <;> simp

/-! ## Token and load -/

@[simp] theorem State.noteResult_frame (c : ResultCode) (k : Octet) (o : Origin) (s : State) :
    (s.noteResult c k o).params = s.params ∧ (s.noteResult c k o).gates = s.gates ∧
      (s.noteResult c k o).token = s.token ∧ (s.noteResult c k o).line = s.line ∧
      (s.noteResult c k o).pos = s.pos ∧ (s.noteResult c k o).contact = s.contact ∧
      (s.noteResult c k o).sup = s.sup ∧ (s.noteResult c k o).brk = s.brk ∧
      (s.noteResult c k o).valves = s.valves ∧ (s.noteResult c k o).doors = s.doors ∧
      (s.noteResult c k o).upper = s.upper ∧ (s.noteResult c k o).lower = s.lower ∧
      (s.noteResult c k o).flags = s.flags ∧ (s.noteResult c k o).rx = s.rx ∧
      (s.noteResult c k o).lineCode = s.lineCode ∧ (s.noteResult c k o).tx = s.tx ∧
      (s.noteResult c k o).handler = s.handler ∧ (s.noteResult c k o).reports = s.reports ∧
      (s.noteResult c k o).mon = s.mon ∧ (s.noteResult c k o).mode = s.mode ∧
      (s.noteResult c k o).pending = s.pending := by
  unfold State.noteResult; try dsimp only
  (repeat' split) <;> simp

@[simp] theorem State.tokenReaders_frame (x : State) (s : State) :
    (State.tokenReaders x s).params = s.params ∧ (State.tokenReaders x s).gates = s.gates ∧
      (State.tokenReaders x s).token = s.token ∧ (State.tokenReaders x s).refusal = s.refusal ∧
      (State.tokenReaders x s).pos = s.pos ∧ (State.tokenReaders x s).doors = s.doors ∧
      (State.tokenReaders x s).upper = s.upper ∧ (State.tokenReaders x s).lower = s.lower ∧
      (State.tokenReaders x s).rx = s.rx ∧ (State.tokenReaders x s).lineCode = s.lineCode ∧
      (State.tokenReaders x s).tx = s.tx ∧ (State.tokenReaders x s).handler = s.handler ∧
      (State.tokenReaders x s).mon = s.mon ∧ (State.tokenReaders x s).mode = s.mode ∧
      (State.tokenReaders x s).pending = s.pending := by
  unfold State.tokenReaders; try dsimp only
  (repeat' split) <;> simp

@[simp] theorem State.tokenTo_frame (t : Token) (m : CarMode) (s : State) :
    (s.tokenTo t m).params = s.params ∧ (s.tokenTo t m).gates = s.gates ∧
      (s.tokenTo t m).refusal = s.refusal ∧ (s.tokenTo t m).pos = s.pos ∧
      (s.tokenTo t m).upper = s.upper ∧ (s.tokenTo t m).lower = s.lower ∧
      (s.tokenTo t m).lineCode = s.lineCode ∧ (s.tokenTo t m).handler = s.handler ∧
      (s.tokenTo t m).mon = s.mon ∧ (s.tokenTo t m).pending = s.pending := by
  unfold State.tokenTo; try dsimp only
  (repeat' split) <;> simp

@[simp] theorem State.setToken_frame (t : Token) (s : State) :
    (s.setToken t).params = s.params ∧ (s.setToken t).gates = s.gates ∧
      (s.setToken t).refusal = s.refusal ∧ (s.setToken t).pos = s.pos ∧
      (s.setToken t).upper = s.upper ∧ (s.setToken t).lower = s.lower ∧
      (s.setToken t).lineCode = s.lineCode ∧ (s.setToken t).handler = s.handler ∧
      (s.setToken t).mon = s.mon ∧ (s.setToken t).pending = s.pending := by
  simp [State.setToken]

@[simp] theorem State.tokenLoss_frame (c : Cab) (s : State) :
    (s.tokenLoss c).params = s.params ∧ (s.tokenLoss c).gates = s.gates ∧
      (s.tokenLoss c).refusal = s.refusal ∧ (s.tokenLoss c).pos = s.pos ∧
      (s.tokenLoss c).upper = s.upper ∧ (s.tokenLoss c).lower = s.lower ∧
      (s.tokenLoss c).lineCode = s.lineCode ∧ (s.tokenLoss c).handler = s.handler ∧
      (s.tokenLoss c).mon = s.mon ∧ (s.tokenLoss c).pending = s.pending := by
  unfold State.tokenLoss; try dsimp only
  (repeat' split) <;> simp

@[simp] theorem State.abandonLoad_frame (c : Cab) (s : State) :
    (s.abandonLoad c).params = s.params ∧ (s.abandonLoad c).gates = s.gates ∧
      (s.abandonLoad c).token = s.token ∧ (s.abandonLoad c).refusal = s.refusal ∧
      (s.abandonLoad c).pos = s.pos ∧ (s.abandonLoad c).doors = s.doors ∧
      (s.abandonLoad c).upper = s.upper ∧ (s.abandonLoad c).lower = s.lower ∧
      (s.abandonLoad c).rx = s.rx ∧ (s.abandonLoad c).lineCode = s.lineCode ∧
      (s.abandonLoad c).tx = s.tx ∧ (s.abandonLoad c).mon = s.mon ∧
      (s.abandonLoad c).mode = s.mode ∧ (s.abandonLoad c).pending = s.pending := by
  unfold State.abandonLoad; try dsimp only
  (repeat' split) <;> simp

@[simp] theorem State.cabLost_frame (c : Cab) (s : State) :
    (s.cabLost c).params = s.params ∧ (s.cabLost c).gates = s.gates ∧
      (s.cabLost c).refusal = s.refusal ∧ (s.cabLost c).pos = s.pos ∧
      (s.cabLost c).upper = s.upper ∧ (s.cabLost c).lower = s.lower ∧
      (s.cabLost c).lineCode = s.lineCode ∧ (s.cabLost c).mon = s.mon ∧
      (s.cabLost c).pending = s.pending := by
  simp [State.cabLost]

/-! ## Handler, radio and counters -/

@[simp] theorem State.windowMoves_frame (s : State) :
    (s.windowMoves).params = s.params ∧ (s.windowMoves).gates = s.gates ∧
      (s.windowMoves).token = s.token ∧ (s.windowMoves).refusal = s.refusal ∧
      (s.windowMoves).line = s.line ∧ (s.windowMoves).pos = s.pos ∧
      (s.windowMoves).contact = s.contact ∧ (s.windowMoves).sup = s.sup ∧
      (s.windowMoves).brk = s.brk ∧ (s.windowMoves).valves = s.valves ∧
      (s.windowMoves).doors = s.doors ∧ (s.windowMoves).upper = s.upper ∧
      (s.windowMoves).lower = s.lower ∧ (s.windowMoves).flags = s.flags ∧
      (s.windowMoves).rx = s.rx ∧ (s.windowMoves).lineCode = s.lineCode ∧
      (s.windowMoves).tx = s.tx ∧ (s.windowMoves).handler = s.handler ∧
      (s.windowMoves).reports = s.reports ∧ (s.windowMoves).mon = s.mon ∧
      (s.windowMoves).pending = s.pending := by
  simp [State.windowMoves]

@[simp] theorem State.withBuffer_frame (l : List Octet) (s : State) :
    (s.withBuffer l).params = s.params ∧ (s.withBuffer l).gates = s.gates ∧
      (s.withBuffer l).token = s.token ∧ (s.withBuffer l).refusal = s.refusal ∧
      (s.withBuffer l).line = s.line ∧ (s.withBuffer l).pos = s.pos ∧
      (s.withBuffer l).contact = s.contact ∧ (s.withBuffer l).sup = s.sup ∧
      (s.withBuffer l).brk = s.brk ∧ (s.withBuffer l).valves = s.valves ∧
      (s.withBuffer l).doors = s.doors ∧ (s.withBuffer l).upper = s.upper ∧
      (s.withBuffer l).lower = s.lower ∧ (s.withBuffer l).flags = s.flags ∧
      (s.withBuffer l).rx = s.rx ∧ (s.withBuffer l).lineCode = s.lineCode ∧
      (s.withBuffer l).tx = s.tx ∧ (s.withBuffer l).reports = s.reports ∧
      (s.withBuffer l).mon = s.mon ∧ (s.withBuffer l).mode = s.mode ∧
      (s.withBuffer l).pending = s.pending := by
  simp [State.withBuffer]

@[simp] theorem State.discard_frame (s : State) :
    (s.discard).params = s.params ∧ (s.discard).gates = s.gates ∧
      (s.discard).token = s.token ∧ (s.discard).refusal = s.refusal ∧
      (s.discard).line = s.line ∧ (s.discard).pos = s.pos ∧
      (s.discard).contact = s.contact ∧ (s.discard).sup = s.sup ∧
      (s.discard).brk = s.brk ∧ (s.discard).valves = s.valves ∧
      (s.discard).doors = s.doors ∧ (s.discard).upper = s.upper ∧
      (s.discard).lower = s.lower ∧ (s.discard).flags = s.flags ∧
      (s.discard).rx = s.rx ∧ (s.discard).lineCode = s.lineCode ∧
      (s.discard).tx = s.tx ∧ (s.discard).reports = s.reports ∧
      (s.discard).mon = s.mon ∧ (s.discard).mode = s.mode ∧
      (s.discard).pending = s.pending := by
  simp [State.discard]

@[simp] theorem State.countEvent_frame (c : CounterId) (s : State) :
    (s.countEvent c).params = s.params ∧ (s.countEvent c).gates = s.gates ∧
      (s.countEvent c).token = s.token ∧ (s.countEvent c).refusal = s.refusal ∧
      (s.countEvent c).line = s.line ∧ (s.countEvent c).pos = s.pos ∧
      (s.countEvent c).contact = s.contact ∧ (s.countEvent c).sup = s.sup ∧
      (s.countEvent c).brk = s.brk ∧ (s.countEvent c).valves = s.valves ∧
      (s.countEvent c).doors = s.doors ∧ (s.countEvent c).upper = s.upper ∧
      (s.countEvent c).lower = s.lower ∧ (s.countEvent c).flags = s.flags ∧
      (s.countEvent c).rx = s.rx ∧ (s.countEvent c).lineCode = s.lineCode ∧
      (s.countEvent c).tx = s.tx ∧ (s.countEvent c).handler = s.handler ∧
      (s.countEvent c).reports = s.reports ∧ (s.countEvent c).mode = s.mode ∧
      (s.countEvent c).pending = s.pending := by
  simp [State.countEvent]

@[simp] theorem State.transfer_frame (s : State) :
    (s.transfer).params = s.params ∧ (s.transfer).gates = s.gates ∧
      (s.transfer).token = s.token ∧ (s.transfer).refusal = s.refusal ∧
      (s.transfer).line = s.line ∧ (s.transfer).pos = s.pos ∧
      (s.transfer).contact = s.contact ∧ (s.transfer).sup = s.sup ∧
      (s.transfer).brk = s.brk ∧ (s.transfer).valves = s.valves ∧
      (s.transfer).doors = s.doors ∧ (s.transfer).upper = s.upper ∧
      (s.transfer).lower = s.lower ∧ (s.transfer).flags = s.flags ∧
      (s.transfer).rx = s.rx ∧ (s.transfer).lineCode = s.lineCode ∧
      (s.transfer).tx = s.tx ∧ (s.transfer).handler = s.handler ∧
      (s.transfer).reports = s.reports ∧ (s.transfer).mode = s.mode ∧
      (s.transfer).pending = s.pending := by
  simp [State.transfer]

@[simp] theorem State.setRxState_frame (x : RxState) (s : State) :
    (s.setRxState x).params = s.params ∧ (s.setRxState x).gates = s.gates ∧
      (s.setRxState x).token = s.token ∧ (s.setRxState x).refusal = s.refusal ∧
      (s.setRxState x).line = s.line ∧ (s.setRxState x).pos = s.pos ∧
      (s.setRxState x).contact = s.contact ∧ (s.setRxState x).sup = s.sup ∧
      (s.setRxState x).brk = s.brk ∧ (s.setRxState x).valves = s.valves ∧
      (s.setRxState x).doors = s.doors ∧ (s.setRxState x).upper = s.upper ∧
      (s.setRxState x).lower = s.lower ∧ (s.setRxState x).lineCode = s.lineCode ∧
      (s.setRxState x).tx = s.tx ∧ (s.setRxState x).handler = s.handler ∧
      (s.setRxState x).reports = s.reports ∧ (s.setRxState x).mon = s.mon ∧
      (s.setRxState x).mode = s.mode ∧ (s.setRxState x).pending = s.pending := by
  unfold State.setRxState; try dsimp only
  (repeat' split) <;> simp

@[simp] theorem State.setLineCode_frame (x : LineCode) (s : State) :
    (s.setLineCode x).params = s.params ∧ (s.setLineCode x).gates = s.gates ∧
      (s.setLineCode x).token = s.token ∧ (s.setLineCode x).refusal = s.refusal ∧
      (s.setLineCode x).pos = s.pos ∧ (s.setLineCode x).doors = s.doors ∧
      (s.setLineCode x).upper = s.upper ∧ (s.setLineCode x).lower = s.lower ∧
      (s.setLineCode x).rx = s.rx ∧ (s.setLineCode x).tx = s.tx ∧
      (s.setLineCode x).handler = s.handler ∧ (s.setLineCode x).mon = s.mon ∧
      (s.setLineCode x).mode = s.mode ∧ (s.setLineCode x).pending = s.pending := by
  unfold State.setLineCode; dsimp only; split <;> simp

@[simp] theorem State.holdCode_frame (s : State) :
    (s.holdCode).params = s.params ∧ (s.holdCode).gates = s.gates ∧
      (s.holdCode).token = s.token ∧ (s.holdCode).refusal = s.refusal ∧
      (s.holdCode).pos = s.pos ∧ (s.holdCode).doors = s.doors ∧
      (s.holdCode).upper = s.upper ∧ (s.holdCode).lower = s.lower ∧
      (s.holdCode).rx = s.rx ∧ (s.holdCode).tx = s.tx ∧
      (s.holdCode).handler = s.handler ∧ (s.holdCode).mon = s.mon ∧
      (s.holdCode).mode = s.mode ∧ (s.holdCode).pending = s.pending := by
  simp [State.holdCode]

@[simp] theorem State.resumeCode_frame (s : State) :
    (s.resumeCode).params = s.params ∧ (s.resumeCode).gates = s.gates ∧
      (s.resumeCode).token = s.token ∧ (s.resumeCode).refusal = s.refusal ∧
      (s.resumeCode).pos = s.pos ∧ (s.resumeCode).doors = s.doors ∧
      (s.resumeCode).upper = s.upper ∧ (s.resumeCode).lower = s.lower ∧
      (s.resumeCode).rx = s.rx ∧ (s.resumeCode).tx = s.tx ∧
      (s.resumeCode).handler = s.handler ∧ (s.resumeCode).mon = s.mon ∧
      (s.resumeCode).mode = s.mode ∧ (s.resumeCode).pending = s.pending := by
  unfold State.resumeCode; try dsimp only
  (repeat' split) <;> simp

@[simp] theorem State.takeCode_frame (v : Nat) (s : State) :
    (s.takeCode v).params = s.params ∧ (s.takeCode v).gates = s.gates ∧
      (s.takeCode v).token = s.token ∧ (s.takeCode v).refusal = s.refusal ∧
      (s.takeCode v).pos = s.pos ∧ (s.takeCode v).doors = s.doors ∧
      (s.takeCode v).upper = s.upper ∧ (s.takeCode v).lower = s.lower ∧
      (s.takeCode v).rx = s.rx ∧ (s.takeCode v).tx = s.tx ∧
      (s.takeCode v).handler = s.handler ∧ (s.takeCode v).mon = s.mon ∧
      (s.takeCode v).mode = s.mode ∧ (s.takeCode v).pending = s.pending := by
  simp [State.takeCode]

@[simp] theorem State.toHunt_frame (n : Nat) (s : State) :
    (s.toHunt n).params = s.params ∧ (s.toHunt n).gates = s.gates ∧
      (s.toHunt n).token = s.token ∧ (s.toHunt n).refusal = s.refusal ∧
      (s.toHunt n).pos = s.pos ∧ (s.toHunt n).doors = s.doors ∧
      (s.toHunt n).upper = s.upper ∧ (s.toHunt n).lower = s.lower ∧
      (s.toHunt n).tx = s.tx ∧ (s.toHunt n).mon = s.mon ∧
      (s.toHunt n).mode = s.mode ∧ (s.toHunt n).pending = s.pending := by
  unfold State.toHunt; dsimp only; split <;> simp

@[simp] theorem State.beginSearch_frame (s : State) :
    s.beginSearch.params = s.params ∧ s.beginSearch.gates = s.gates ∧
      s.beginSearch.token = s.token ∧ s.beginSearch.refusal = s.refusal ∧
      s.beginSearch.pos = s.pos ∧ s.beginSearch.doors = s.doors ∧
      s.beginSearch.upper = s.upper ∧ s.beginSearch.lower = s.lower ∧
      s.beginSearch.tx = s.tx ∧ s.beginSearch.mon = s.mon ∧
      s.beginSearch.mode = s.mode ∧ s.beginSearch.pending = s.pending := by
  unfold State.beginSearch; split <;> simp

@[simp] theorem State.fold_frame (n : Insertion) (s : State) :
    (s.fold n).params = s.params ∧ (s.fold n).gates = s.gates ∧
      (s.fold n).token = s.token ∧ (s.fold n).refusal = s.refusal ∧
      (s.fold n).pos = s.pos ∧ (s.fold n).doors = s.doors ∧
      (s.fold n).upper = s.upper ∧ (s.fold n).lower = s.lower ∧
      (s.fold n).rx = s.rx ∧ (s.fold n).lineCode = s.lineCode ∧
      (s.fold n).tx = s.tx ∧ (s.fold n).handler = s.handler ∧
      (s.fold n).mon = s.mon ∧ (s.fold n).mode = s.mode ∧
      (s.fold n).pending = s.pending := by
  unfold State.fold; split <;> simp

end Sys2Proof.Machine
end

