-- ==== Sys2Proof/Laws/Effects.lean ====
section
/-! SUPPORT. What the shared operations on outputs and brakes do: the values they set, and that each leaves the outputs
formed (R82, R88) and the demand terms, causes and first-cause record as they were. -/

namespace Sys2Proof.Machine

/-- The parts of the brake unit that no spring brake's movement touches. -/
def Brakes.still (b : Brakes) : Terms × CauseSet × Option FirstCause × Option Nat × Option Nat × Bool :=
  (b.terms, b.causes, b.first, b.vigTimer, b.holdTimer, b.long)

/-! ## Outputs -/

theorem State.settleOutputs_law (s : State) : OutputLaw s.settleOutputs := by
  unfold State.settleOutputs OutputLaw
  dsimp only
  split <;> simp [or_assoc]

@[simp] theorem State.settleOutputs_still (s : State) : s.settleOutputs.brk.still = s.brk.still := by
  unfold State.settleOutputs
  dsimp only
  split <;> simp [Brakes.still]

@[simp] theorem State.settleOutputs_brake (s : State) (b : BrakeId) : s.settleOutputs.brk.get b = s.brk.get b := by
  unfold State.settleOutputs
  dsimp only
  split <;> cases b <;> simp [Brakes.get]

/-- The outputs are formed from the terms and the two brake states alone. -/
theorem OutputLaw.congr {s t : State} (h : OutputLaw s) (h1 : t.brk.serviceOut = s.brk.serviceOut)
    (h2 : t.brk.tractionCut = s.brk.tractionCut) (h3 : t.brk.terms = s.brk.terms)
    (h4 : t.brk.rack.state = s.brk.rack.state) (h5 : t.brk.hold.state = s.brk.hold.state) : OutputLaw t := by
  unfold OutputLaw at *
  rw [h1, h2, h3, h4, h5]
  exact h

@[simp] theorem State.syncRollaway_parts (s : State) :
    s.syncRollaway.brk.still = s.brk.still ∧ (∀ b, s.syncRollaway.brk.get b = s.brk.get b) ∧
      s.syncRollaway.brk.serviceOut = s.brk.serviceOut ∧ s.syncRollaway.brk.tractionCut = s.brk.tractionCut := by
  unfold State.syncRollaway
  split
  · simp
  · refine ⟨rfl, fun b => ?_, rfl, rfl⟩
    cases b <;> rfl

/-! ## Spring brakes -/

@[simp] theorem Brakes.get_put_same (b : Brakes) (i : BrakeId) (x : SpringBrake) : (b.put i x).get i = x := by
  cases i <;> rfl

theorem Brakes.get_put_other (b : Brakes) {i j : BrakeId} (x : SpringBrake) (h : j ≠ i) :
    (b.put i x).get j = b.get j := by
  cases i <;> cases j <;> first | rfl | exact absurd rfl h

@[simp] theorem Brakes.put_still (b : Brakes) (i : BrakeId) (x : SpringBrake) : (b.put i x).still = b.still := by
  cases i <;> rfl

/-- The brake commanded takes the state and its timer, its feedback stays (R89, R90). -/
theorem State.setBrake_same (b : BrakeId) (st : BrakeState) (s : State) :
    ((s.setBrake b st).brk.get b).state = st ∧
      ((s.setBrake b st).brk.get b).feedback = (s.brk.get b).feedback := by
  unfold State.setBrake
  split
  · next h => exact ⟨h, rfl⟩
  · simp

/-- The other brake stays as it was. -/
theorem State.setBrake_other {b c : BrakeId} (h : c ≠ b) (st : BrakeState) (s : State) :
    (s.setBrake b st).brk.get c = s.brk.get c := by
  unfold State.setBrake
  split
  · rfl
  · simp [Brakes.get_put_other _ _ h]

@[simp] theorem State.setBrake_still (b : BrakeId) (st : BrakeState) (s : State) :
    (s.setBrake b st).brk.still = s.brk.still := by
  unfold State.setBrake
  split
  · rfl
  · simp

theorem State.setBrake_law {s : State} (h : OutputLaw s) (b : BrakeId) (st : BrakeState) :
    OutputLaw (s.setBrake b st) := by
  unfold State.setBrake
  split
  · exact h
  · dsimp only
    have hl := State.settleOutputs_law
      (State.flag .brakes (s.withBrk (s.brk.put b { s.brk.get b with state := st, timer := brakeTimer st })))
    have hp := State.syncRollaway_parts
      (State.flag .brakes
        (s.withBrk (s.brk.put b { s.brk.get b with state := st, timer := brakeTimer st }))).settleOutputs
    have ht := congrArg Prod.fst hp.1
    have hr := congrArg SpringBrake.state (hp.2.1 .rack)
    have hh := congrArg SpringBrake.state (hp.2.1 .hold)
    refine hl.congr ?_ ?_ ?_ ?_ ?_ <;>
      simp only [State.syncReadback_frame] <;> first | exact hp.2.2.1 | exact hp.2.2.2 | exact ht | exact hr | exact hh

/-- An apply command de-energizes its valve (R93). -/
theorem State.applyCmd_energized (b : BrakeId) (s : State) :
    ((s.applyCmd b).brk.get b).state.energized = false := by
  unfold State.applyCmd
  split
  · dsimp only
    split
    · rw [(State.setBrake_same b .applied _).1]; rfl
    · rw [(State.setBrake_same b .applying s).1]; rfl
  · dsimp only
    split
    · rw [(State.setBrake_same b .applied _).1]; rfl
    · rw [(State.setBrake_same b .applying s).1]; rfl
  · next h => rw [h]; rfl
  · next h => rw [h]; rfl
  · next h => rw [h]; rfl

@[simp] theorem State.applyCmd_still (b : BrakeId) (s : State) : (s.applyCmd b).brk.still = s.brk.still := by
  unfold State.applyCmd
  split <;> (try rfl) <;> (dsimp only; split <;> simp)

theorem State.applyCmd_law {s : State} (h : OutputLaw s) (b : BrakeId) : OutputLaw (s.applyCmd b) := by
  unfold State.applyCmd
  split <;> (try exact h) <;>
    (dsimp only; split <;> first | exact State.setBrake_law (State.setBrake_law h _ _) _ _ | exact State.setBrake_law h _ _)

/-- An apply command leaves the other brake. -/
theorem State.applyCmd_other {b c : BrakeId} (h : c ≠ b) (s : State) : (s.applyCmd b).brk.get c = s.brk.get c := by
  unfold State.applyCmd
  split <;> (try rfl) <;> (dsimp only; split <;> simp [State.setBrake_other h])

@[simp] theorem State.releaseValve_still (b : BrakeId) (s : State) : (s.releaseValve b).brk.still = s.brk.still := by
  unfold State.releaseValve
  split <;> (try rfl) <;> (dsimp only; split <;> simp)

theorem State.releaseValve_law {s : State} (h : OutputLaw s) (b : BrakeId) : OutputLaw (s.releaseValve b) := by
  unfold State.releaseValve
  split <;> (try exact h) <;>
    (dsimp only; split <;> first | exact State.setBrake_law (State.setBrake_law h _ _) _ _ | exact State.setBrake_law h _ _)

/-! ## Terms -/

/-- Written terms stand, the causes stay, and the outputs are formed whatever they were (R82). -/
theorem State.setTerms_effect (t : Terms) (s : State) :
    (s.setTerms t).brk.terms = t ∧ (s.setTerms t).brk.causes = s.brk.causes ∧
      (s.setTerms t).brk.first = s.brk.first ∧ OutputLaw (s.setTerms t) := by
  have h := State.settleOutputs_still (s.withBrk { s.brk with terms := t })
  have hl := State.settleOutputs_law (s.withBrk { s.brk with terms := t })
  have ha := (State.applyCmd_still .hold (s.withBrk { s.brk with terms := t }).settleOutputs).trans h
  simp only [Brakes.still, State.withBrk_brk, Prod.mk.injEq] at h ha
  unfold State.setTerms
  dsimp only
  split
  · exact ⟨ha.1, ha.2.1, ha.2.2.1, State.applyCmd_law hl .hold⟩
  · exact ⟨h.1, h.2.1, h.2.2.1, hl⟩

/-! ## Answers and searches -/

/-- An answer's octets are its four fields with start, length and CRC-16 about them (R200). -/
theorem Answer.octets_length (a : Answer) : a.octets.length = a.payload.length + 7 := by
  simp [Answer.octets, crcOctets, oct2]

@[simp] theorem State.setRxState_rx (x : RxState) (s : State) : (s.setRxState x).rx = { s.rx with state := x } := by
  unfold State.setRxState
  split
  · next h => rw [← h]
  · simp

/-- An alignment dropped leaves the framer in HUNT, its search at the bit named (R148, R159). -/
theorem State.toHunt_rx (n : Nat) (s : State) : (s.toHunt n).rx = { s.rx.hunting n with state := .hunt } := by
  unfold State.toHunt
  dsimp only
  split <;> simp

/-- A search begun: the framer stands in HUNT with no alignment held or searches on as it stood, from the first bit
(R193). -/
theorem State.beginSearch_rx (s : State) :
    s.beginSearch.rx = if s.rx.state = .hunt then { s.rx with search := 0 } else { s.rx.hunting 0 with state := .hunt } := by
  unfold State.beginSearch
  split
  · simp
  · exact State.toHunt_rx 0 s

/-! ## Folds -/

/-- A fold leaves the state, where the overflow record already is what it makes, or writes the record and reports it
(R5, R42, R47). -/
theorem State.fold_cases (n : Insertion) (s : State) :
    (s.line.overflow = some (foldOverflow s.line.overflow n) ∧ s.fold n = s) ∨
      (s.line.overflow ≠ some (foldOverflow s.line.overflow n) ∧
        s.fold n = (s.withLine { s.line with overflow := some (foldOverflow s.line.overflow n) }).lineChanged) := by
  unfold State.fold
  split
  · next h => exact .inl ⟨h, rfl⟩
  · next h => exact .inr ⟨h, rfl⟩

end Sys2Proof.Machine
end

