-- ==== Sys2Proof/Laws/Tables.lean ====
section
/-! SUPPORT. The laws of the indexed tables: read after write, and that writing and cutting keep the canonical form. -/

namespace Sys2Proof.Machine

variable {α : Type}

/-- An index just written reads as written (R1). -/
@[simp] theorem Table.get_put_same (t : Table α) (i : Nat) (x : α) : (t.put i x).get i = some x := by
  induction t with
  | nil => simp [Table.put, Table.get]
  | cons e rest ih =>
    obtain ⟨j, y⟩ := e
    simp only [Table.put]
    split
    · simp [Table.get]
    · split
      · simp [Table.get]
      · next h => simp [Table.get, h, ih]

/-- Every other index reads as before (R1). -/
theorem Table.get_put_other (t : Table α) {i k : Nat} (x : α) (h : k ≠ i) : (t.put i x).get k = t.get k := by
  induction t with
  | nil => simp [Table.put, Table.get, h]
  | cons e rest ih =>
    obtain ⟨j, y⟩ := e
    simp only [Table.put]
    split
    · simp [Table.get, h]
    · split
      · next h1 => subst h1; simp [Table.get, h]
      · simp [Table.get, ih]

/-- A table in canonical form has every index below its size. -/
theorem Table.lt_of_wf {n : Nat} {t : Table α} (h : t.wf n = true) : ∀ e ∈ t, e.1 < n := by
  induction t with
  | nil => simp
  | cons e rest ih =>
    obtain ⟨i, x⟩ := e
    cases rest with
    | nil => simpa [Table.wf] using h
    | cons d tail =>
      obtain ⟨j, y⟩ := d
      simp only [Table.wf, Bool.and_eq_true, decide_eq_true_eq] at h
      have hr := ih h.2
      intro e he
      rcases List.mem_cons.1 he with rfl | he
      · exact Nat.lt_trans h.1 (hr (j, y) (by simp))
      · exact hr e he

/-- A head whose index is below every other keeps the canonical form. -/
theorem Table.wf_cons {n i : Nat} {x : α} {t : Table α} (hi : i < n) (h : t.wf n = true) (hlt : ∀ e ∈ t, i < e.1) :
    Table.wf n ((i, x) :: t) = true := by
  cases t with
  | nil => simpa [Table.wf] using hi
  | cons d tail => simpa [Table.wf, h] using hlt d (by simp)

/-- The tail of a canonical table is canonical, with every index above the head's. -/
theorem Table.wf_tail {n i : Nat} {x : α} {t : Table α} (h : Table.wf n ((i, x) :: t) = true) :
    t.wf n = true ∧ ∀ e ∈ t, i < e.1 := by
  induction t generalizing i x with
  | nil => simp [Table.wf]
  | cons d tail ih =>
    obtain ⟨j, y⟩ := d
    simp only [Table.wf, Bool.and_eq_true, decide_eq_true_eq] at h
    refine ⟨h.2, fun e he => ?_⟩
    rcases List.mem_cons.1 he with rfl | he
    · exact h.1
    · exact Nat.lt_trans h.1 ((ih h.2).2 e he)

/-- What a write puts into a table. -/
theorem Table.mem_put {t : Table α} {i : Nat} {x : α} {e : Nat × α} (h : e ∈ t.put i x) : e = (i, x) ∨ e ∈ t := by
  induction t with
  | nil => simpa [Table.put] using h
  | cons d rest ih =>
    obtain ⟨j, y⟩ := d
    simp only [Table.put] at h
    split at h
    · simpa using h
    · split at h
      · rcases List.mem_cons.1 h with rfl | h
        · exact .inl rfl
        · exact .inr (List.mem_cons_of_mem _ h)
      · rcases List.mem_cons.1 h with rfl | h
        · exact .inr (by simp)
        · exact (ih h).imp id (List.mem_cons_of_mem _)

/-- A write within the size keeps the canonical form (R1, R3). -/
theorem Table.wf_put {n i : Nat} {t : Table α} (x : α) (hi : i < n) (h : t.wf n = true) : (t.put i x).wf n = true := by
  induction t with
  | nil => simpa [Table.put, Table.wf] using hi
  | cons e rest ih =>
    obtain ⟨j, y⟩ := e
    obtain ⟨ht, hlt⟩ := Table.wf_tail h
    have hj := Table.lt_of_wf h (j, y) (by simp)
    simp only [Table.put]
    split
    · next hij =>
      exact Table.wf_cons hi h fun e he => by
        rcases List.mem_cons.1 he with rfl | he
        · exact hij
        · exact Nat.lt_trans hij (hlt e he)
    · split
      · next hij => subst hij; exact Table.wf_cons hi ht hlt
      · next h1 h2 =>
        exact Table.wf_cons hj (ih ht) fun e he => by
          rcases Table.mem_put he with rfl | he
          · exact Nat.lt_of_le_of_ne (Nat.le_of_not_lt h1) (Ne.symm h2)
          · exact hlt e he

/-- Emptying every index at or above a bound keeps the canonical form (R11). -/
theorem Table.wf_below {n : Nat} (k : Nat) {t : Table α} (h : t.wf n = true) : (t.below k).wf n = true := by
  induction t with
  | nil => rfl
  | cons e rest ih =>
    obtain ⟨i, x⟩ := e
    obtain ⟨ht, hlt⟩ := Table.wf_tail h
    have hi := Table.lt_of_wf h (i, x) (by simp)
    have hr := ih ht
    unfold Table.below at hr ⊢
    rw [List.filter_cons]
    split
    · exact Table.wf_cons hi hr fun e he => hlt e (List.mem_filter.1 he).1
    · exact hr

end Sys2Proof.Machine
end

