-- ==== Sys2Proof/Tests/Slice0.lean ====
section
/-! SUPPORT. Tests: the smoke of WellFormed, figures of the spec's own tables and worked examples, small tests of one step
each, and for every statement with hypotheses a state and operands that meet them. -/

namespace Sys2Proof.Tests

open Sys2Proof Sys2Proof.Machine

-- one theorem after another: many kernel evaluations at once would each ask for a thread
set_option Elab.async false

/-! ## WellFormed -/

/-- A cab message of a cab with a payload. -/
def msg (c : Cab) (payload : List Octet) : CabMsg := { cab := c, tag := 17#8, payload := payload }

/-- A valley message for car 1 with a payload. -/
def vmsg (payload : List Octet) : ValleyMsg := { car := 1#8, order := 9#8, payload := payload }

/-- A payload of a cab message that is one octet too long. -/
def long : List Octet := List.replicate 59 0#8

theorem test_wf_cab_length : (Instr.readStatus (msg .upper long)).wf = false := by decide
theorem test_wf_cab_longest : (Instr.readStatus (msg .upper (List.replicate 58 0#8))).wf = true := by decide
theorem test_wf_valley_length : (Instr.poll (vmsg (List.replicate 39 0#8))).wf = false := by decide
theorem test_wf_entry_by_index : (Instr.readProfileEntry (msg .upper [0#8, 0xFF#8, 0xFF#8])).wf = false := by decide
theorem test_wf_entry_next : (Instr.readProfileEntryNext (msg .upper [0#8, 0#8, 0#8])).wf = false := by decide
theorem test_wf_isolate_on : (Instr.doorIsolateOn (msg .upper [0#8, 0#8])).wf = false := by decide
theorem test_wf_isolate_off : (Instr.doorIsolateOff (msg .upper [0#8, 1#8])).wf = false := by decide
theorem test_wf_gate : (Instr.setGate (msg .upper [1#8])).wf = false := by decide
theorem test_wf_parameter : (Instr.setParameter (msg .upper [0#8])).wf = false := by decide
theorem test_wf_absent_cab : (Instr.absentKindRequest (.cab 24#8 (msg .upper []))).wf = false := by decide
theorem test_wf_absent_valley : (Instr.absentKindRequest (.valley 41#8 (vmsg []))).wf = false := by decide
theorem test_wf_service : (Instr.stopService (vmsg [2#8])).wf = false := by decide
theorem test_wf_emergency : (Instr.stopEmergency (vmsg [1#8])).wf = false := by decide
theorem test_wf_other_car :
    (Instr.valleyMessageOtherCar 41#8 { car := 0#8, order := 0#8, payload := [] }).wf = false := by decide
theorem test_wf_half : (Instr.checkOctetReceived [0#8] 0#8).wf = false := by decide
theorem test_wf_bad_cab : (Instr.badCabMessage .upper (cabOctets 1#8 (msg .upper []))).wf = false := by decide +kernel
theorem test_wf_bad_valley : (Instr.badValleyMessage (valleyOctets 41#8 (vmsg []))).wf = false := by decide +kernel

/-- The table gives no row any bits, so no word spells a command. -/
theorem test_no_word_spells_a_command : decodeTableWord 16 0xFFFF = none := by decide

/-! ## Helpers -/

/-- The state after a command; the state itself where the command gives no next state. -/
def after (c : Instr) (s : State) : State :=
  match exec c s with
  | .next t => t
  | .fault _ => s
  | .refused _ => s

/-- The code of the answer a port sends. -/
def codeOf (c : Cab) (s : State) : Option ResultCode := (s.port c).sending.map Answer.code

/-- A port of an eligible cab. -/
def attend : Port :=
  { Port.atReset with
    link := .active, silence := some 600
    controls := some { key := true, selector := .towardThisEnd, lever := 0, deadman := true, button := false } }

/-- A profile of two segments and two markers, its store check as computed. -/
def shortLine : LineStore :=
  { LineStore.emptied with
    profile := .valid, segCount := 2, mkrCount := 2, lineEnd := 1000, version := 7, verifyTimer := some 10000
    segments := [(0, { start := 0, gradient := 50, limitUp := 400, limitDown := 300, side := .both, shadow := false,
                       station := 1 }),
                 (1, { start := 500, gradient := 200, limitUp := 300, limitDown := 300, side := .a, shadow := true,
                       station := 2 })]
    markers := [(0, 200), (1, 600)] }

@[inherit_doc shortLine]
def line2 : LineStore := { shortLine with storeCheck := shortLine.freshCheck }

/-- A car driven from the upper cab, at standstill at 200 teeth, CONFIRMED, heard and CHECKED, no cause held, the rack brake
RELEASED and the holding brake APPLIED. -/
def driven : State :=
  { State.reset with
    token := Token.plain .upper
    line := line2
    pos := { State.reset.pos with count := 200, confidence := .confirmed }
    contact := { value := 0, state := .live, shadow := false }
    brk := { State.reset.brk with
      rack := { state := .released, timer := none, feedback := .clear }
      hold := { state := .applied, timer := none, feedback := .applied }
      terms := { driver := 0, supervision := 0, vigilance := 0, valley := 0, door := 0, contact := 0, emergency := 0 }
      serviceOut := 0, causes := {}, first := none, long := false }
    valves := { rackReadback := true, holdReadback := false, timer := none }
    upper := attend, lower := attend
    flags := { upper := {}, lower := {} }
    rx := { RadioRx.atReset with state := .checked, align := some 1000, frameNo := some 0 }
    lineCode := { candidate := some 0, run := 3, value := some 0, condition := .live, holdTimer := none }
    mode := { State.reset.mode with mode := .drive } }

/-- The same car in READY with no driving cab. -/
def ready : State :=
  { driven with
    token := Token.nobody
    mode := { driven.mode with mode := .ready } }

/-- The same car moving up at 100 cm/s with its holding brake released. -/
def moving : State :=
  { driven with
    pos := { driven.pos with standstill := false, standTimer := some 1500, dir := some .up, speed := 100,
                             runStart := some 1000, phase := .q3 }
    brk := { driven.brk with hold := { state := .released, timer := none, feedback := .clear }, rollRunning := true
                             tractionCut := false }
    valves := { rackReadback := true, holdReadback := true, timer := none }
    sup := { driven.sup with travel := some .up } }

/-- A load by the upper cab of the same entries. -/
def loading : State :=
  { ready with
    line := { line2 with profile := .loading, loader := some .upper, segCount := 0, mkrCount := 0, lineEnd := 0,
                         version := 0, verifyTimer := none }
    mode := { ready.mode with mode := .config } }

/-- The same car in PARKED with a window open. -/
def parked : State :=
  { ready with
    brk := { ready.brk with rack := { state := .applied, timer := none, feedback := .applied }, rollRunning := true }
    valves := { rackReadback := false, holdReadback := false, timer := none }
    mode := { ready.mode with mode := .parked, modemKey := false, periodTimer := some 10000,
                              window := some { elapsed := 0, closeAt := 2000 } } }

/-- The same car in WAKING. -/
def waking : State :=
  { parked with mode := { parked.mode with mode := .waking, periodTimer := none, window := none, checkTimer := some 1000 } }

/-- A full restriction list of the upper cab's. -/
def full : State :=
  { driven with
    line := { line2 with restrictions := (List.range 16).map fun n =>
      { id := n + 1, start := 10 * n, stop := 10 * n + 5, limit := 700, origin := .cab .upper } } }

/-- The full list with an overflow record that covers 200 to 240 at 100, of a folded count. -/
def saturated (count : Nat) : State :=
  { full with
    line := { full.line with overflow := some { start := 200, stop := 240, limit := 100, folded := count } }
    flags := { upper := {}, lower := {} } }

/-! ## Figures of the spec -/

/-- Table 4-6: 718² = 515,524 and 719² = 516,961. -/
theorem test_root_of_table_4_6 : isqrt 515700 = 718 ∧ isqrt 903660 = 950 ∧ isqrt 10629600 = 3260 := by decide +kernel
/-- 4.7: the gravity term of F_max 200 is 196.2, rounded up to 197. -/
theorem test_gravity_of_4_7 : gravity 200 = 197 := by decide
/-- R25: 10,000,000 / 31,250 = 320, and the measure saturates at 2,000. -/
theorem test_speed_of_table_2_7 : speedOf 31250 = 320 ∧ speedOf 25000 = 400 ∧ speedOf 4999 = 2000 := by decide
/-- R153 by hand: the register after the single bit 1 in the last place is the polynomial 07h. -/
theorem test_crc8_of_one : crc8 [1#8] = 7#8 ∧ crc8 [] = 0#8 := by decide
/-- R13: the check value published for this polynomial, initial value and bit order over the digits 1 to 9. -/
theorem test_crc16_check_value :
    crc16 [0x31#8, 0x32#8, 0x33#8, 0x34#8, 0x35#8, 0x36#8, 0x37#8, 0x38#8, 0x39#8] = 0x29B1#16 := by decide +kernel
/-- R144: 68h and 6Ah carry the pattern 011010, 6Ch does not. -/
theorem test_sync_pattern : goodHeader 0x68#8 = true ∧ goodHeader 0x6A#8 = true ∧ goodHeader 0x6C#8 = false := by decide
/-- R198: the reset state is what POWER_ON_RESET leaves of itself. -/
theorem test_reset_is_power_on : exec .powerOnReset State.reset = .next State.reset := by
  have h : State.reset.restart .powerOn = State.reset := by decide +kernel
  exact congrArg Host.Outcome.next h
/-- Table 12-4: the indication record is 99 octets; Table 12-7: a STATUS payload is 37. -/
theorem test_record_lengths : (driven.indication .upper).length = 99 ∧ driven.statusPayload.length = 37 := by
  decide +kernel
/-- Table 7-3: OPEN_CAB asks for rank 1, AUTHORITY for rank 3 of the valley alone. -/
theorem test_gate_defaults :
    gateDefaults[6]?.map GateEntry.least = some 1 ∧ gateDefaults[33]? = some (gateValley 3) ∧ gateDefaults.length = 48 := by
  decide

/-! ## One step each -/

/-- R185, R141: the key turned OFF takes the token from the driving cab. -/
theorem test_key_off_ends_the_token :
    (after (.cabState (msg .upper [0#8, 0#8, 0#8, 1#8, 0#8])) driven).token = Token.nobody := by decide +kernel
/-- R100: a pressed emergency button adds CAB_EMERGENCY. -/
theorem test_button_adds_the_cause :
    (after (.cabState (msg .lower [1#8, 0#8, 0#8, 1#8, 1#8])) driven).brk.causes.cabEmergency = true := by decide +kernel
/-- R137, 7.5: OPEN_CAB while a cab drives is refused STATE. -/
theorem test_open_cab_twice : codeOf .lower (after (.openCab (msg .lower [])) driven) = some .stateFails := by
  decide +kernel
/-- 7.8: LEND_DRIVE makes the other cab drive. -/
theorem test_lend : (after (.lendDrive (msg .upper [])) driven).token.driving = some .lower := by decide +kernel
/-- 7.5: kind 29 of a cab is ABSENT, and the record names it. -/
theorem test_kind_29 :
    (after (.absentKindRequest (.cab 29#8 (msg .lower []))) driven).refusal =
      some { code := .absent, index := 29, valley := false } := by decide +kernel
/-- 7.5: kind 1 of the valley is of the wrong ORIGIN. -/
theorem test_kind_1_of_the_valley :
    (after (.absentKindRequest (.valley 1#8 (vmsg []))) driven).refusal =
      some { code := .origin, index := 1, valley := true } := by decide +kernel
/-- R98: HOLD_RELEASE sends the holding brake RELEASING. -/
theorem test_hold_release : (after (.holdRelease (msg .upper [])) driven).brk.hold.state = .releasing := by decide +kernel
/-- 6.7: DOOR_RELEASE of side B unlocks both of its leaves. -/
theorem test_door_release :
    (after (.doorRelease (msg .upper [1#8])) driven).doors.states = [0#8, 1#8, 0#8, 0#8, 1#8, 1#8] := by decide +kernel
/-- R123: a leaf is isolated on a LOCKED switch. -/
theorem test_isolate : (after (.doorIsolateOn (msg .upper [0#8, 1#8])) driven).doors.a1.state = .isolated := by
  decide +kernel
/-- 1.6, step 7: a second start above the line end is reported with index and reason. -/
theorem test_failed_commit :
    ((after (.profileCommit (msg .upper (oct2 2 ++ oct2 2 ++ oct3 400 ++ oct2 17))) loading).upper.sending.map
      Answer.payload) = some [0#8, 0#8, 1#8, 3#8] := by decide +kernel
/-- 1.6, step 11: a valid commit goes to READY. -/
theorem test_commit :
    (after (.profileCommit (msg .upper (oct2 2 ++ oct2 2 ++ oct3 1000 ++ oct2 17))) loading).mode.mode = .ready := by
  decide +kernel
/-- R32: a declared position is DECLARED. -/
theorem test_set_position :
    (after (.setPosition (msg .upper (oct3 500))) driven).pos.confidence = .declared := by decide +kernel
/-- 3.4, step 2: an insertion into a full list is folded. -/
theorem test_fold :
    (after (.restrict (vmsg (41#8 :: oct3 210 ++ oct3 230 ++ oct2 150))) full).line.overflow =
      some { start := 210, stop := 230, limit := 150, folded := 1 } := by decide +kernel
/-- R5: a fold that leaves the overflow record as it was sets no LINE_RECORD flag, and one that raises its count does. -/
theorem test_fold_reported :
    (after (.cabRestrict (msg .upper (41#8 :: oct3 210 ++ oct3 230 ++ oct2 150))) (saturated 255)).flags.upper.lineRecord =
        false ∧
      (after (.cabRestrict (msg .upper (41#8 :: oct3 210 ++ oct3 230 ++ oct2 150))) (saturated 254)).flags.upper.lineRecord =
        true := by decide +kernel
/-- R135: SET_PARAMETER 6 = 1,500 holds 1,200 (7.5). -/
theorem test_clamped_parameter :
    (after (.setParameter (msg .upper (1#8 :: 6#8 :: oct2 1500))) loading).params.carCeiling = 1200 := by decide +kernel
/-- R169: an unknown version raises the indication. -/
theorem test_line_version : (after (.line (vmsg (oct2 8))) driven).handler.versionInd = true := by decide +kernel
/-- R80: an authority behind the front end adds EOA_PASSED. -/
theorem test_eoa_passed :
    (after (.authority (vmsg (1#8 :: oct3 150 ++ 3#8 :: oct2 7))) driven).brk.causes.eoaPassed = true := by decide +kernel
/-- R170: a service STOP drives the VALLEY term. -/
theorem test_stop : (after (.stopService (vmsg [1#8])) driven).brk.serviceOut = 100 := by decide +kernel
/-- Table 2-7, steps 1 and 2: a tooth DOWN past the maximum unconfirmed distance. -/
theorem test_tooth_down :
    ((after (.sensorTransition .low .high 26000)
      { moving with pos := { moving.pos with count := 5007, phase := .q0, dir := some .down, runStart := some 1000,
                                             distance := 1500 } }).pos.count,
     (after (.sensorTransition .low .high 26000)
      { moving with pos := { moving.pos with count := 5007, phase := .q0, dir := some .down, runStart := some 1000,
                                             distance := 1500 } }).pos.confidence) = (5006, Confidence.drifting) := by
  decide +kernel
/-- Table 2-7, step 3: the pulse at 206 corrects by -6. -/
theorem test_marker : (after .markerPulse { driven with pos := { driven.pos with count := 206 } }).pos.correction = -6 := by
  decide +kernel
/-- R30: the pulse at 209 is a mismatch in CONFIRMED. -/
theorem test_marker_mismatch :
    (after .markerPulse { driven with pos := { driven.pos with count := 209 } }).pos.confidence = .lost := by
  decide +kernel
/-- 4.7: one evaluation of the worked case. -/
theorem test_worked_case_4_7 :
    ((after .evaluationTimerExpiry
      { moving with
        pos := { moving.pos with count := 5400, dir := some .down, speed := 400 }
        line := { line2 with
          lineEnd := 6000
          segments := [(0, { start := 0, gradient := 60, limitUp := 600, limitDown := 500, side := .none, shadow := false,
                             station := 0 }),
                       (1, { start := 2500, gradient := 120, limitUp := 600, limitDown := 450, side := .none,
                             shadow := false, station := 0 }),
                       (2, { start := 3900, gradient := 150, limitUp := 600, limitDown := 400, side := .none,
                             shadow := false, station := 0 }),
                       (3, { start := 4800, gradient := 200, limitUp := 600, limitDown := 350, side := .none,
                             shadow := false, station := 0 }),
                       (4, { start := 5600, gradient := 240, limitUp := 600, limitDown := 300, side := .none,
                             shadow := false, station := 0 })]
          restrictions := [{ id := 7, start := 4700, stop := 4940, limit := 250, origin := .valley }]
          authority := some { dir := .down, eoa := 3000, number := 1, void := false } } }).sup.targets.map
        fun t => (t.pos, t.vt, t.distance, t.curve)) =
      [(4940, 250, 3000, 718), (4799, 400, 4410, 950), (3899, 450, 13410, 1200), (3000, 0, 22400, 1200),
       (2499, 500, 27410, 1200), (0, 0, 52400, 1200)] := by decide +kernel
/-- R57: the void threshold drives the CONTACT term. -/
theorem test_void : (after .voidThresholdReached driven).brk.terms.contact = 100 := by decide +kernel
/-- R91: a rack brake that reads APPLIED while RELEASED ends APPLIED with the cause held. -/
theorem test_feedback_lost :
    ((after (.brakeFeedbackChange .rack .applied) driven).brk.rack.state,
     (after (.brakeFeedbackChange .rack .applied) driven).brk.causes.brakeFeedback) = (BrakeState.applied, true) := by
  decide +kernel
/-- R122: a lock lost while moving holds the DOOR term. -/
theorem test_lock_lost : (after (.lockedSwitchChange .a2 false) moving).brk.terms.door = 100 := by decide +kernel
/-- R147: a confirmed candidate gives FRAME at the header 384 bits on. -/
theorem test_candidate :
    (after (.candidateTest 100 0x68#8 0x6A#8) State.reset).rx.align = some 484 := by decide +kernel
/-- R148: the third bad header is a loss. -/
theorem test_frame_loss :
    (after (.headerReceived 0#8) { driven with rx := { driven.rx with badHeaders := 2 } }).mon.live.loss.value = 1 := by
  decide +kernel
/-- 8.8: a third octet of code 5 is STOP. -/
theorem test_code_stop :
    (after (.codeOctet 5#8)
      { driven with
        rx := { driven.rx with frameNo := some 2 }
        lineCode := { driven.lineCode with candidate := some 5, run := 2 } }).brk.terms.valley = 100 := by decide +kernel
/-- R160: the first frame after the keying carries the marker, and the remote alarm in HUNT. -/
theorem test_first_frame : (after .transmitFrame State.reset).tx.lastFrame.head? = some 0x6B#8 := by decide +kernel
/-- R193: the window end takes modem power away without a LOSS. -/
theorem test_window_close :
    ((after .windowClose parked).rx.state, (after .windowClose parked).mon.live.loss.value) = (RxState.hunt, 0) := by
  decide +kernel
/-- R195: waking ends in READY with the wake event. -/
theorem test_wake_ends :
    ((after .checkTimerExpiry waking).mode.mode, (after .checkTimerExpiry waking).flags.upper.wake) =
      (CarMode.ready, true) := by decide +kernel
/-- R200: start, length of kind to last payload octet, kind, tag, result code, then payload and CRC. -/
theorem test_answer_octets :
    ((after (.answerSent .lower) { driven with lower := { attend with
        sending := some { kind := 6#8, tag := 17#8, code := .stateFails, payload := [] } } }).lower.lastSent.take 5) =
      [0xA5#8, 3#8, 6#8, 17#8, 6#8] := by decide +kernel
/-- R193: at PARK the framer begins its search. -/
theorem test_park_searches : (after (.park (msg .upper [])) driven).rx.state = .hunt := by decide +kernel
/-- R55: a degrade threshold written above the timer value makes DEGRADED LIVE. -/
theorem test_threshold_written :
    (after (.setParameter (msg .upper (1#8 :: 3#8 :: oct2 10)))
      { loading with contact := { value := 5000, state := .degraded, shadow := false } }).contact.state = .live := by
  decide +kernel
/-- R178: a transfer restarts the timer, whatever AUTO_TRANSFER holds. -/
theorem test_transfer_restarts :
    (after (.transferCounters (msg .lower []))
      { driven with params := { driven.params with autoTransfer := 0 } }).mon.timer = some 1000 := by decide +kernel
/-- R15: a pin reset keeps a profile whose check passes. -/
theorem test_pin_reset : (after .pinReset driven).line.profile = .valid := by decide +kernel

/-! ## Witnesses: a state and operands that meet the hypotheses of each statement -/

theorem witness_StepTakesTheFrontCommand :
    (driven.withPending [.markerPulse, .pinReset]).pending = .markerPulse :: [.pinReset] := rfl

theorem witness_IdleStepMovesTheTimers :
    driven.pending = [] ∧ ∀ e ∈ expiries, e.isDue driven.pass = false := by decide +kernel

theorem witness_CommandsLeaveTheQueue : exec .markerPulse State.reset = .next State.reset := rfl

/-- One row of the gate table by each of steps 1 to 4, for a cab and for the valley. -/
theorem witness_RequestsAreJudgedByTheirGate :
    driven.gates.length = 48 ∧ driven.gates[48]? = none ∧ driven.gates[25]?.map GateEntry.present = some false ∧
    (driven.portFree (msg .lower []) = true ∧ driven.gates[32]?.map GateEntry.origins = some .valley ∧
      (driven.rankHeard .lower = 1 ∧ driven.gates[10]?.map GateEntry.least = some 2) ∧
      ((driven.gates.set 6 (gateCab 1 true false))[6]?.map GateEntry.drive = some true ∧
        driven.token.driving ≠ some .lower)) ∧
    (driven.handlerFree (vmsg []) = true ∧ driven.gates[24]?.map GateEntry.origins = some .cab ∧
      (({ driven with rx := { driven.rx with state := .unchecked } } : State).valleyRank = 1 ∧
        driven.gates[33]?.map GateEntry.least = some 3) ∧
      (driven.gates.set 32 { gateValley 0 with drive := true })[32]?.map GateEntry.drive = some true) := by
  decide +kernel

theorem witness_AbsentKindsAreRefused :
    driven.gates.map (fun g => (g.present, g.origins)) = gateDefaults.map (fun g => (g.present, g.origins)) ∧
    (driven.portFree (msg .upper []) = true ∧ cabRow 25#8 = false ∧ cabRow 32#8 = false ∧ cabRow 41#8 = false ∧
      cabRow 255#8 = false) ∧
    (driven.handlerFree (vmsg []) = true ∧ valleyRow 0#8 = false ∧ valleyRow 24#8 = false ∧ valleyRow 31#8 = false ∧
      valleyRow 42#8 = false) := by decide +kernel

/-- An answer. -/
def answer : Answer := { kind := 1#8, tag := 2#8, code := .ok, payload := [] }

/-- A driven car whose lower port is sending, holds a waiting answer, and has an assembler state and buffer. -/
def sending (a : AsmState) (buffer : List Octet) : State :=
  { driven with lower := { attend with sending := some answer, waiting := some answer, asm := a, buffer := buffer } }

theorem witness_PortsAnswerInTurnAndCountErrors :
    (msg .lower []).payload.length ≤ 58 ∧
    (((sending .hunting []).port .lower).sending = some answer ∧ ((sending .hunting []).port .lower).asm = .hunting ∧
      ((sending .hunting []).port .lower).waiting = some answer) ∧
    ((sending .assembling [0xA5#8]).port .lower).asm ≠ .waiting ∧
    (((sending .waiting (cabOctets 3#8 (msg .lower []))).port .lower).asm = .waiting ∧
      ((sending .waiting (cabOctets 3#8 (msg .lower []))).port .lower).buffer = cabOctets 3#8 (msg .lower []) ∧
      ((sending .waiting (cabOctets 3#8 (msg .lower []))).port .lower).receive = [] ∧
      ((sending .waiting (cabOctets 3#8 (msg .lower []))).port .lower).link = .active ∧
      ((sending .waiting (cabOctets 3#8 (msg .lower []))).port .lower).silence = some 600) ∧
    ((driven.port .upper).asm = .hunting ∧ (driven.port .upper).buffer = [] ∧
      badFraming 0xA5#8 60 0 [0xA5#8, 1#8] = true ∧ badFraming 0xA5#8 60 0 [0xA5#8, 61#8] = true ∧
      badFraming 0xA5#8 60 0 [0xA5#8, 2#8, 0#8, 0#8, 0#8, 0#8] = true ∧ 0xA5#8 ∉ [0xA5#8, 61#8].tail) := by
  decide +kernel

theorem witness_SilenceLosesLinkAndToken :
    ((driven.port .upper).silence = some 600 ∧ driven.line.profile = .valid ∧ TokenLaw driven ∧ DriveLaw driven) ∧
    (((loading.port .upper).silence = some 600 ∧ (loading.port .lower).silence = some 600 ∧
      loading.token.driving = none ∧ loading.line.profile = .loading ∧ loading.line.loader = some .upper ∧
      loading.line.loader ≠ some .lower) ∧ TokenLaw loading ∧ DriveLaw loading) :=
  ⟨⟨by decide +kernel, by decide +kernel, ⟨rfl, rfl⟩, by unfold DriveLaw; decide +kernel⟩,
   by decide +kernel, ⟨rfl, rfl⟩, by unfold DriveLaw; decide +kernel⟩

theorem witness_CabStateReplacesTheRecord :
    driven.admits 0#8 (msg .upper [1#8, 2#8, 100#8, 0#8, 1#8]) = true ∧
    [1#8, 2#8, 100#8, 0#8, 1#8] = octBool true :: 2#8 :: oct 100 :: octBool false :: octBool true :: [] ∧
    selectorOf (2#8).toNat = some .away ∧
    driven.admits 0#8 (msg .upper [1#8, 3#8, 0#8, 0#8, 0#8]) = true ∧ 2 < (3#8).toNat ∧
    driven.admits 0#8 (msg .upper [1#8, 0#8, 101#8, 0#8, 0#8]) = true ∧ 100 < (101#8).toNat ∧
    driven.admits 0#8 (msg .upper [1#8, 0#8, 0#8, 0#8]) = true ∧ [1#8, 0#8, 0#8, 0#8].length < 5 ∧
    (loading.admits 0#8 (msg .upper [0#8, 0#8, 0#8, 0#8, 0#8]) = true ∧ (loading.port .upper).keyOn = true ∧
      loading.line.profile = .loading ∧ loading.line.loader = some .upper) := by decide +kernel

theorem witness_ReadsAnswerWhatIsHeld :
    driven.admits 1#8 (msg .lower []) = true ∧ driven.admits 3#8 (msg .lower []) = true ∧
    driven.admits 4#8 (msg .lower []) = true ∧ driven.admits 5#8 (msg .lower []) = true ∧
    ({ driven with gates := driven.gates.set 1 (gateCab 2 false false) } : State).portFree (msg .lower []) = true ∧
    ({ driven with gates := driven.gates.set 1 (gateCab 2 false false) } : State).cabPasses 1#8 .lower = false := by
  decide +kernel

theorem witness_ReadBackAnswersTheEntry :
    (driven.admits 2#8 (msg .upper [0#8, 0#8, 1#8]) = true ∧ tableOf (0#8).toNat = some .segments ∧
      asksNext [0#8, 0#8, 1#8] = false ∧ num2 0#8 1#8 = 1 ∧ driven.line.readCount .segments = 2) ∧
    (driven.admits 2#8 (msg .upper [1#8, 0xFF#8, 0xFF#8]) = true ∧ asksNext [1#8, 0xFF#8, 0xFF#8] = true ∧
      (driven.port .upper).cursor.index = none) := by decide +kernel

theorem witness_OpenCabTakesTheToken :
    (ready.admits 6#8 (msg .upper []) = true ∧ (ready.port .upper).keyOn = true ∧ ready.token.driving = none ∧
      ready.mode.mode = .ready ∧ ready.pos.standstill = true ∧ ready.token.lending .upper = false) ∧
    (driven.admits 6#8 (msg .lower []) = true ∧ driven.token.driving ≠ none) := by decide +kernel

/-- The car driven by the lower cab, which the upper cab lent the token. -/
def lent : State := { driven with token := Token.lent .upper }

theorem witness_TokenPassesBetweenTheCabs :
    TokenLaw driven ∧ DriveLaw driven ∧ TokenLaw lent ∧ DriveLaw lent ∧
    (driven.admits 7#8 (msg .upper []) = true ∧ driven.token.driving = some .upper ∧ driven.pos.standstill = true) ∧
    (moving.admits 7#8 (msg .upper []) = true ∧ moving.pos.standstill = false) ∧
    (lent.admits 8#8 (msg .lower []) = true ∧ lent.token.driving = some .lower ∧ lent.token.lendLink ≠ none) ∧
    (driven.admits 8#8 (msg .upper []) = true ∧ driven.token.lendLink = none ∧ driven.brk.hold.state = .applied ∧
      driven.eligible .lower = true) ∧
    (lent.admits 9#8 (msg .lower []) = true ∧ lent.token.lendLink = some .upper ∧ lent.pos.standstill = true ∧
      lent.eligible .upper = true) ∧
    (driven.admits 9#8 (msg .upper []) = true ∧ driven.token.lendLink ≠ some .lower) :=
  ⟨⟨rfl, rfl⟩, by unfold DriveLaw; decide +kernel, ⟨rfl, rfl, rfl⟩, by unfold DriveLaw; decide +kernel,
   by decide +kernel⟩

theorem witness_ParkTakesTheCarToParked :
    TokenLaw driven ∧ DriveLaw driven ∧
    (driven.admits 23#8 (msg .upper []) = true ∧ driven.token.driving = some .upper ∧ driven.pos.standstill = true ∧
      driven.doors.allClosed = true ∧ driven.brk.causes.isEmpty = true ∧ driven.rx.state = .checked ∧
      driven.lineCode.condition = .live ∧ driven.mode.modemKey = true) ∧
    (moving.admits 23#8 (msg .upper []) = true ∧ moving.pos.standstill = false) :=
  ⟨⟨rfl, rfl⟩, by unfold DriveLaw; decide +kernel, by decide +kernel⟩

/-- The car at standstill with SENSOR and VALLEY_STOP held, the emergency stop of the valley still standing. -/
def stopped : State :=
  { driven with
    brk := { driven.brk with causes := { sensor := true, valleyStop := true } }
    handler := { driven.handler with stopEmergency := true } }

theorem witness_AcknowledgementRemovesEndedCauses :
    (stopped.admits 10#8 (msg .upper []) = true ∧ stopped.pos.standstill = true ∧
      stopped.brk.causes.has .sensor = true ∧ stopped.handler.stopEmergency = true) ∧
    (moving.admits 10#8 (msg .upper []) = true ∧ moving.pos.standstill = false) ∧
    (driven.admits 10#8 (msg .upper []) = true ∧ driven.brk.causes.isEmpty = true) := by decide +kernel

theorem witness_HoldingBrakeObeysTheCab :
    (driven.admits 11#8 (msg .upper []) = true ∧ driven.token.driving = some .upper ∧ driven.doors.allClosed = true ∧
      driven.doors.sideReleased = false ∧ driven.brk.causes.isEmpty = true ∧ driven.brk.rack.state = .released ∧
      (driven.port .upper).controls.map Controls.selector = some .towardThisEnd) ∧
    (stopped.admits 11#8 (msg .upper []) = true ∧ stopped.brk.causes.isEmpty = false) ∧
    driven.admits 12#8 (msg .lower []) = true := by decide +kernel

/-- The car with its extent at the lower end of the line exactly. -/
def atLowerEnd : State := { driven with pos := { driven.pos with count := 160 } }

theorem witness_DoorReleaseReleasesTheNamedSides :
    (atLowerEnd.admits 13#8 (msg .upper [2#8]) = true ∧ atLowerEnd.mode.mode = .drive ∧
      atLowerEnd.pos.standstill = true ∧ atLowerEnd.brk.hold.state = .applied ∧
      atLowerEnd.extentSpans.all (fun p => decide (p.seg.side = .both) && decide (p.seg.gradient.natAbs ≤ 120)) = true ∧
      atLowerEnd.pos.confidence = .confirmed ∧ sidesOf (2#8).toNat = some [.a, .b] ∧
      atLowerEnd.params.carLength ≤ atLowerEnd.pos.count ∧ atLowerEnd.pos.count ≤ atLowerEnd.line.lineEnd) ∧
    (atLowerEnd.admits 13#8 (msg .upper [3#8]) = true ∧ sidesOf (3#8).toNat = none) ∧
    (moving.admits 13#8 (msg .upper [0#8]) = true ∧ moving.pos.standstill = false) := by decide +kernel

/-- The car with leaf B1 open and side B RELEASED. -/
def openB1 : State :=
  { driven with
    doors := { driven.doors with
      sideB := .released
      b1 := { driven.doors.b1 with state := .opened, locked := false, openEnd := true }
      b2 := { driven.doors.b2 with state := .fault } } }

theorem witness_DoorCloseClosesTheNamedSides :
    (openB1.admits 14#8 (msg .lower [1#8]) = true ∧ sidesOf (1#8).toNat = some [.b] ∧
      ((openB1.doors.leaf .b1).locked = false ∧ (openB1.doors.leaf .b1).edge = false) ∧
      ((openB1.doors.leaf .b2).locked = true ∧ (openB1.doors.leaf .b2).state = .fault) ∧ leafSide .a1 ∉ [SideId.b]) ∧
    (openB1.admits 14#8 (msg .lower [3#8]) = true ∧ 2 < (3#8).toNat) ∧
    openB1.takes 38#8 (vmsg []) = true := by decide +kernel

/-- The car with leaf A1 ISOLATED. -/
def isolated : State :=
  { driven with doors := { driven.doors with a1 := { driven.doors.a1 with state := .isolated } } }

theorem witness_IsolationFollowsTheLockedSwitch :
    (driven.admits 15#8 (msg .upper [4#8, 0#8]) = true ∧ leafOf (4#8).toNat = none) ∧
    (driven.admits 15#8 (msg .upper [0#8, 2#8]) = true ∧ leafOf (0#8).toNat = some .a1) ∧
    (driven.admits 15#8 (msg .upper [0#8, 1#8]) = true ∧ (driven.doors.leaf .a1).locked = true ∧
      (isolated.doors.leaf .a1).state = .isolated ∧ (openB1.doors.leaf .b1).locked = false) ∧
    (isolated.admits 15#8 (msg .upper [0#8, 0#8]) = true ∧ (isolated.doors.leaf .a1).locked = true ∧
      (driven.doors.leaf .a1).state ≠ .isolated) := by decide +kernel

theorem witness_ProfileBeginEmptiesTheLineRecord :
    (ready.admits 16#8 (msg .upper []) = true ∧ ready.line.profile = .valid ∧ ready.pos.standstill = true ∧
      ready.token.driving = none ∧ ready.mode.mode = .ready) ∧
    (loading.admits 16#8 (msg .lower []) = true ∧ loading.line.profile = .loading ∧
      loading.line.loader ≠ some .lower) ∧
    (loading.admits 16#8 (msg .upper []) = true ∧ loading.mode.mode = .config) ∧
    (driven.admits 16#8 (msg .upper []) = true ∧ driven.token.driving ≠ none) := by decide +kernel

/-- A segment entry at the bounds of its ranges. -/
def boundSegment : Segment :=
  { start := 99999, gradient := -480, limitUp := 1200, limitDown := 0, side := .none, shadow := true, station := 63 }

theorem witness_LoadingWritesOneEntry :
    (loading.line.profile = .loading ∧ loading.line.loader = some .upper ∧
      loading.admits 17#8 (msg .upper (oct2 255 ++ boundSegment.store ++ [])) = true ∧
      loading.admits 18#8 (msg .upper (oct2 127 ++ oct3 99999 ++ [])) = true ∧
      loading.admits 17#8 (msg .upper (List.replicate 12 0#8)) = true ∧
      loading.admits 17#8 (msg .upper [1#8, 0#8, 0#8, 0#8, 0#8, 0xFE#8, 0x1F#8, 0#8, 0#8, 0#8, 0#8, 8#8, 64#8]) = true ∧
      (0xFE#8).toNat * 256 + (0x1F#8).toNat < 65536 - 480 ∧
      loading.admits 18#8 (msg .upper [0#8, 128#8, 0#8, 0#8, 0#8]) = true) ∧
    (loading.line.loader ≠ some .lower ∧ loading.admits 17#8 (msg .lower []) = true ∧
      ready.line.profile ≠ .loading ∧ ready.admits 18#8 (msg .upper []) = true) := by decide +kernel

/-- The segments of the load pass under a line end above the second start. -/
theorem segments_pass (lineEnd : Nat) (h : 500 < lineEnd) : ∀ i, i < 2 → loading.line.segmentPasses lineEnd i := by
  intro i hi
  unfold LineStore.segmentPasses
  match i, hi with
  | 0, _ => exact ⟨_, rfl, Nat.zero_lt_of_lt h, fun _ => rfl, fun _ h => absurd h (by decide)⟩
  | 1, _ => exact ⟨_, rfl, h, fun h => absurd h (by decide), fun h _ e => by cases (Option.some.inj e); decide⟩

/-- The markers of the load pass under a line end from the second on. -/
theorem markers_pass (lineEnd : Nat) (h : 600 ≤ lineEnd) : ∀ i, i < 2 → loading.line.markerPasses lineEnd i := by
  intro i hi
  unfold LineStore.markerPasses
  match i, hi with
  | 0, _ => exact ⟨_, rfl, Nat.le_trans (by decide) h, fun _ h => absurd h (by decide)⟩
  | 1, _ => exact ⟨_, rfl, h, fun h _ e => by cases (Option.some.inj e); decide⟩

theorem witness_CommitSealsAValidLoad :
    loading.admits 19#8 (msg .upper (oct2 2 ++ oct2 2 ++ oct3 1000 ++ oct2 65535 ++ [])) = true ∧
    loading.line.profile = .loading ∧ loading.line.loader = some .upper ∧ loading.mode.mode = .config ∧
    (∀ i, i < 2 → loading.line.segmentPasses 1000 i) ∧ (∀ i, i < 2 → loading.line.markerPasses 1000 i) :=
  ⟨by decide +kernel, rfl, rfl, rfl, segments_pass 1000 (by decide), markers_pass 1000 (by decide)⟩

/-- The load with its second segment alone, at index 0. -/
def notAtZero : LineStore :=
  { loading.line with segments := (loading.line.segments.drop 1).map fun e => (0, e.2) }

/-- The load with its second start brought down to the first. -/
def notRising : LineStore :=
  { loading.line with segments := loading.line.segments.map fun e => (e.1, { e.2 with start := 0 }) }

/-- A commit out of place, one out of range, and one for each reason of Table 1-4 in each table. -/
theorem witness_FailedCommitKeepsTheLoad :
    ((ready.admits 19#8 (msg .upper (oct2 2 ++ oct2 2 ++ oct3 1000 ++ oct2 7 ++ [])) = true ∧
      ready.line.profile ≠ .loading) ∧
    (loading.admits 19#8 (msg .lower (oct2 2 ++ oct2 2 ++ oct3 1000 ++ oct2 7 ++ [])) = true ∧
      loading.line.loader ≠ some .lower) ∧
    (loading.admits 19#8 (msg .upper (oct2 257 ++ oct2 129 ++ oct3 99 ++ oct2 0 ++ [])) = true ∧ 256 < 257 ∧ 99 < 100) ∧
    loading.admits 19#8 (msg .upper (oct2 256 ++ oct2 128 ++ oct3 99999 ++ oct2 1 ++ [])) = true) ∧
    ((∀ j, j < 2 → loading.line.segmentPasses 99999 j) ∧ loading.line.segmentFails 99999 2 0#8) ∧
    notAtZero.segmentFails 1000 0 1#8 ∧ notRising.segmentFails 1000 1 2#8 ∧ loading.line.segmentFails 500 1 3#8 ∧
    ((∀ j, j < 2 → loading.line.markerPasses 99999 j) ∧ loading.line.markerFails 99999 2 0#8) ∧
    ({ loading.line with markers := [(0, 300), (1, 300)] } : LineStore).markerFails 1000 1 2#8 ∧
    loading.line.markerFails 599 1 3#8 := by
  refine ⟨by decide +kernel, ⟨segments_pass _ (by decide), .inl ⟨rfl, by decide +kernel⟩⟩,
    .inr ⟨_, rfl, .inl ⟨rfl, rfl, by decide⟩⟩, .inr ⟨_, rfl, .inr (.inl ⟨rfl, by decide, _, rfl, by decide⟩)⟩,
    .inr ⟨_, rfl, .inr (.inr ⟨rfl, fun h => absurd h (by decide), fun h _ e => ?_, by decide⟩)⟩,
    ⟨markers_pass _ (by decide), .inl ⟨rfl, by decide +kernel⟩⟩,
    .inr ⟨_, rfl, .inl ⟨rfl, by decide, _, rfl, by decide⟩⟩,
    .inr ⟨_, rfl, .inr ⟨rfl, fun h _ e => ?_, by decide⟩⟩⟩
  · cases (Option.some.inj e); decide
  · cases (Option.some.inj e); decide

theorem witness_SetPositionDeclaresTheCount :
    (driven.admits 20#8 (msg .upper (oct3 160 ++ [])) = true ∧ driven.pos.standstill = true ∧
      driven.line.profile = .valid ∧ driven.params.carLength = 160 ∧ driven.line.lineEnd = 1000) ∧
    driven.admits 20#8 (msg .upper (oct3 159 ++ [])) = true ∧
    (moving.admits 20#8 (msg .upper (oct3 160 ++ [])) = true ∧ moving.pos.standstill = false) := by decide +kernel

theorem witness_InsertionStoresTheClippedEntry :
    (driven.line.profile = .valid ∧ RestrictionLaw driven ∧ driven.line.restrictions.length < 16) ∧
    (RestrictionLaw full ∧ (∃ r ∈ full.line.restrictions, r.id = 16) ∧ 999 < driven.line.lineEnd) ∧
    driven.admits 21#8 (msg .lower (oct 255 :: oct3 999 ++ oct3 99999 ++ oct2 65535 ++ [])) = true ∧
    driven.takes 34#8 (vmsg (oct 1 :: oct3 0 ++ oct3 1 ++ oct2 0 ++ [])) = true ∧
    (loading.admits 21#8 (msg .upper (oct 1 :: oct3 0 ++ oct3 1 ++ oct2 0 ++ [])) = true ∧
      loading.takes 34#8 (vmsg (oct 1 :: oct3 0 ++ oct3 1 ++ oct2 0 ++ [])) = true ∧ loading.line.profile ≠ .valid) ∧
    (driven.admits 21#8 (msg .upper (oct 0 :: oct3 1000 ++ oct3 1000 ++ oct2 0 ++ [])) = true ∧
      driven.takes 34#8 (vmsg (oct 0 :: oct3 100000 ++ oct3 100000 ++ oct2 0 ++ [])) = true ∧
      driven.line.lineEnd ≤ 1000) :=
  ⟨⟨by decide +kernel, by unfold RestrictionLaw; decide +kernel, by decide +kernel⟩,
   ⟨by unfold RestrictionLaw; decide +kernel, by decide +kernel, by decide +kernel⟩, by decide +kernel,
   by decide +kernel, by decide +kernel, by decide +kernel⟩

theorem witness_FullInsertionFoldsIntoTheOverflow :
    full.line.profile = .valid ∧ 16 ≤ full.line.restrictions.length ∧ (∀ r ∈ full.line.restrictions, r.id ≠ 17) ∧
    0 < full.line.lineEnd ∧
    full.admits 21#8 (msg .upper (oct 17 :: oct3 0 ++ oct3 99999 ++ oct2 1500 ++ [])) = true ∧
    full.takes 34#8 (vmsg (oct 17 :: oct3 0 ++ oct3 99999 ++ oct2 1500 ++ [])) = true ∧
    full.admits 21#8 (msg .upper (oct 17 :: oct3 5 ++ oct3 5 ++ oct2 1500 ++ [])) = true ∧
    full.takes 34#8 (vmsg (oct 17 :: oct3 1000 ++ oct3 1001 ++ oct2 1500 ++ [])) = true ∧
    full.line.lineEnd ≤ 1000 ∧
    (saturated 255).line.overflow =
      some (foldOverflow (saturated 255).line.overflow { id := 17, start := 210, stop := 230, limit := 150 }) ∧
    (saturated 255).admits 21#8 (msg .upper (oct 17 :: oct3 210 ++ oct3 230 ++ oct2 150 ++ [])) = true ∧
    (saturated 255).takes 34#8 (vmsg (oct 17 :: oct3 210 ++ oct3 230 ++ oct2 150 ++ [])) = true := by decide +kernel

theorem witness_LiftsRemoveWhatTheyName :
    (full.admits 22#8 (msg .upper [16#8]) = true ∧ full.line.profile = .valid ∧
      full.line.restriction 16 = some { id := 16, start := 150, stop := 155, limit := 700, origin := .cab .upper }) ∧
    (full.admits 22#8 (msg .lower [16#8]) = true ∧ full.line.restriction 17 = none) ∧
    (full.takes 35#8 (vmsg [1#8]) = true ∧
      full.line.restriction 1 = some { id := 1, start := 0, stop := 5, limit := 700, origin := .cab .upper }) ∧
    full.takes 39#8 (vmsg []) = true := by decide +kernel

/-- The driven car under an authority, UP to 900. -/
def authorized : State :=
  { driven with line := { line2 with authority := some { dir := .up, eoa := 900, number := 4, void := false } } }

/-- One payload for each answer of the order of R49. -/
theorem witness_AuthorityIsJudgedInOrder :
    driven.takes 33#8 (vmsg (oct (dirNum (some .up)) :: oct3 1000 ++ oct 255 :: oct2 7 ++ [])) = true ∧
    (loading.takes 33#8 (vmsg (oct (dirNum (some .up)) :: oct3 1000 ++ oct 4 :: oct2 7 ++ [])) = true ∧
      loading.line.profile ≠ .valid) ∧
    (authorized.takes 33#8 (vmsg (oct (dirNum (some .down)) :: oct3 16777215 ++ oct 4 :: oct2 65535 ++ [])) = true) ∧
    driven.takes 33#8 (vmsg (oct (dirNum (some .down)) :: oct3 1001 ++ oct 5 :: oct2 8 ++ [])) = true ∧
    driven.pos.confidence = .confirmed ∧ driven.line.version = 7 ∧ driven.line.lineEnd = 1000 := by decide +kernel

theorem witness_SetGateWritesOneUnlockedEntry :
    (loading.admits 24#8 (msg .upper [0#8, 13#8, 2#8, 1#8]) = true ∧ loading.mode.mode = .config ∧
      loading.gates[13]?.map (fun g => (g.present, g.locked)) = some (true, false)) ∧
    (loading.gates[48]? = none ∧ loading.gates[47]?.map GateEntry.present = some false ∧
      loading.gates[10]?.map GateEntry.locked = some true) ∧
    (driven.admits 24#8 (msg .upper [0#8, 13#8, 3#8, 2#8]) = true ∧ driven.mode.mode ≠ .config) := by decide +kernel

theorem witness_SetParameterClampsAndReorders :
    SetupLaw loading ∧ loading.admits 24#8 (msg .upper (1#8 :: 19#8 :: oct2 65535 ++ [])) = true ∧
    loading.mode.mode = .config ∧ loading.admits 24#8 (msg .upper (1#8 :: 20#8 :: oct2 0 ++ [])) = true ∧
    loading.admits 24#8 (msg .upper (1#8 :: 18#8 :: oct2 2 ++ [])) = true ∧
    loading.admits 24#8 (msg .upper (1#8 :: 18#8 :: oct2 1 ++ [])) = true ∧
    loading.admits 24#8 (msg .upper (1#8 :: 3#8 :: oct2 10 ++ [])) = true ∧
    driven.admits 24#8 (msg .upper (1#8 :: 0#8 :: oct2 20 ++ [])) = true ∧ driven.mode.mode ≠ .config := by
  refine ⟨⟨by decide +kernel, fun n hn => ?_⟩, by decide +kernel⟩
  have h : ∀ k : Fin 20, ∃ r ∈ paramRanges[k.1]?, r.1 ≤ loading.params.get k.1 ∧ loading.params.get k.1 ≤ r.2 := by
    decide +kernel
  exact h ⟨n, hn⟩

theorem witness_LineKeepsTheVersionHeard :
    driven.takes 32#8 (vmsg (oct2 65535 ++ [])) = true ∧ driven.takes 32#8 (vmsg (oct2 0 ++ [])) = true := by
  decide +kernel

theorem witness_StopOrdersHoldTheCar :
    driven.takes 36#8 (vmsg [1#8]) = true ∧ driven.takes 36#8 (vmsg [2#8]) = true ∧
    driven.takes 36#8 (vmsg [3#8]) = true ∧ driven.takes 37#8 (vmsg []) = true := by decide +kernel

/-- The car with three slots taken, a STATUS waiting in the second. -/
def queued : State :=
  { driven with
    reports := { State.reset.reports with queue := State.reset.reports.queue ++ State.reset.reports.queue.take 1 } }

/-- The same car with the contact VOID and one report, an ALARM, in its queue. -/
def unheard : State :=
  { driven with
    contact := { value := 600000, state := .void, shadow := false }
    reports := { State.reset.reports with queue := State.reset.reports.queue.take 1 } }

theorem witness_WakeAndPollAnswerTheValley :
    ((parked.takes 40#8 (vmsg []) = true ∧ parked.mode.mode = .parked) ∧
    (driven.takes 40#8 (vmsg []) = true ∧ driven.mode.mode ≠ .parked) ∧
    (unheard.takes 41#8 (vmsg []) = true ∧ unheard.reports.queue.length ≤ 1 ∧ unheard.reports.backlog = [] ∧
      (∀ x ∈ unheard.reports.queue, x.isWaitingStatus = false)) ∧
    queued.takes 41#8 (vmsg []) = true ∧ queued.contact.state = .live) ∧
    (∃ l y r, queued.reports.queue = l ++ y :: r ∧ y.isWaitingStatus = true ∧
      (∀ z ∈ l ++ r, z.isWaitingStatus = false)) :=
  ⟨by decide +kernel, State.reset.reports.queue.take 1, _, State.reset.reports.queue.take 1, rfl, by decide +kernel,
   by decide +kernel⟩

theorem witness_OtherAndBadMessagesGiveNoOrder :
    (parked.rx.state ≠ .hunt ∧ parked.handler.buffer = [] ∧ (15#8 : Octet) ≠ 0#8 ∧
      (15#8 : Octet) ≠ oct parked.params.carId) ∧
    (badFraming 0xC3#8 40 1 [0xC3#8, 1#8] = true ∧ badFraming 0xC3#8 40 1 [0xC3#8, 41#8] = true ∧
      0xC3#8 ∉ [0xC3#8, 41#8].tail) := by decide +kernel

theorem witness_ToothArrivalCountsAndMeasures :
    (moving.pos.phase, phaseOf .low .low) = (Phase.q3, Phase.q0) ∧
    (driven.pos.phase, phaseOf .low .high) = (Phase.q0, Phase.q3) ∧
    (moving.pos.runStart = some 1000 ∧ moving.pos.dir = some .up ∧ 1000 < 1001) ∧
    (driven.pos.runStart = none ∧ driven.pos.standstill = true) ∧
    (moving.line.profile = .valid ∧
      ({ moving with pos := { moving.pos with count := 1000 } } : State).line.lineEnd < min 99999 (1000 + 1)) := by
  decide +kernel

theorem witness_UncountedStepsAndSensorFaults :
    (driven.pos.phase, phaseOf .high .low) ∈
      [(Phase.q0, Phase.q1), (.q1, .q0), (.q1, .q2), (.q2, .q1), (.q2, .q3), (.q3, .q2)] ∧
    (driven.pos.phase, phaseOf .high .high) ∈ [(Phase.q0, Phase.q2), (.q2, .q0), (.q1, .q3), (.q3, .q1)] ∧
    (moving.pos.phase, phaseOf .high .low) ∈ [(Phase.q0, Phase.q2), (.q2, .q0), (.q1, .q3), (.q3, .q1)] := by
  decide +kernel

/-- 400 teeth lies as far from the marker at 200 as from that at 600. -/
def between : State := { driven with pos := { driven.pos with count := 400, confidence := .lost } }

theorem witness_MarkerPulseMatchesOrLoses :
    State.reset.pos.confidence = .unknown ∧ State.reset.line.profile ≠ .valid ∧
    (between.line.profile = .valid ∧ between.pos.confidence ≠ .unknown ∧ 4 * between.params.markerWindow = 32 ∧
      (∃ e ∈ between.line.markers, e.2 = 200) ∧
      (∀ e ∈ between.line.markers, ((between.pos.count : Int) - (200 : Nat)).natAbs ≤
          ((between.pos.count : Int) - e.2).natAbs ∧
        (((between.pos.count : Int) - (200 : Nat)).natAbs = ((between.pos.count : Int) - e.2).natAbs → 200 ≤ e.2)) ∧
      (between.line.markers.map (·.2)).Pairwise (· < ·)) ∧
    ({ driven with line := { line2 with markers := [] } } : State).line.markers = [] := by decide +kernel

theorem witness_StandstillIsDeclared : moving.pos.standTimer = some 1500 := by decide +kernel

theorem witness_EvaluationJudgesTheSpeed :
    moving.sup.travel = moving.travelNow ∧ moving.line.profile = .valid ∧ moving.travelNow = some .up ∧
    State.reset.sup.travel = State.reset.travelNow ∧ State.reset.line.profile ≠ .valid ∧
    ready.sup.travel = ready.travelNow ∧ ready.travelNow = none := by decide +kernel

/-- The car with an authority up to 100, behind its front end. -/
def past : State := { driven with line := { line2 with authority := some { dir := .up, eoa := 100, number := 1, void := false } } }

/-- The passing of an EOA is met, with the mark clear, and is not. -/
theorem witness_EoaIsPassed : past.eoaIsPassed ∧ past.sup.passedMark = false ∧ ¬ driven.eoaIsPassed :=
  ⟨⟨_, rfl, by decide +kernel⟩, rfl, fun h => by
    obtain ⟨a, h, _⟩ := h
    cases (show (none : Option Authority) = some a from h)⟩

theorem witness_TargetListIsThatOfTheLine :
    moving.line.profile = .valid ∧ moving.travelNow = some .up ∧ moving.sup.travel = some .up ∧
    moving.pos.confidence = .confirmed := by decide +kernel

theorem witness_CurvesAreRoundedToTheLowerSpeed :
    (moving.line.profile = .valid ∧ moving.travelNow = some .up ∧ moving.sup.travel = some .up) ∧
    (981 * 200 ≤ 1000 * 197 ∧ 1000 * 197 < 981 * 200 + 1000) ∧
    (moving.pos.speed * moving.params.reaction ≤ 10 * 150 ∧
      10 * 150 < moving.pos.speed * moving.params.reaction + 10) := by decide +kernel

theorem witness_ShadowTestFollowsTheFrontEnd :
    ((moving.pos.phase, phaseOf .low .low) = (Phase.q3, Phase.q0) ∧
      (driven.pos.phase, phaseOf .low .high) = (Phase.q0, Phase.q3)) ∧
    (driven.admits 20#8 (msg .upper (oct3 600 ++ [])) = true ∧ driven.pos.standstill = true ∧
      driven.line.profile = .valid ∧ driven.params.carLength ≤ 600 ∧ 600 ≤ driven.line.lineEnd ∧
      driven.line.lineEnd ≤ 99999) := by decide +kernel

theorem witness_RollawayWatchCountsTeeth :
    ((moving.pos.phase, phaseOf .low .low) = (Phase.q3, Phase.q0) ∧ moving.brk.rollRunning = true ∧
      moving.mode.mode = .drive ∧ moving.brk.hold.state ≠ .applied ∧ moving.doors.sideReleased = false) ∧
    ((parked.pos.phase, phaseOf .low .high) = (Phase.q0, Phase.q3) ∧ parked.brk.rollRunning = true ∧
      parked.mode.mode = .parked ∧ parked.doors.sideReleased = false) ∧
    (ready.mode.mode = .ready ∧ ready.brk.hold.state = .applied ∧ ready.brk.hold.feedback = .applied ∧
      ready.brk.rollRunning = false) ∧
    (({ moving with brk := { moving.brk with hold := { state := .applying, timer := some 800, feedback := .clear } } } :
      State).brk.hold.feedback = .clear) := by decide +kernel

theorem witness_ContactThresholdsMoveTheContactState :
    (driven.contact.state = .live ∧ driven.contact.shadow = false) ∧
    State.reset.contact.state ≠ .live ∧ driven.contact.state ≠ .void ∧ State.reset.contact.state = .void := by
  decide +kernel

/-- The car with its rack brake in a state and feedback. -/
def rackIn (st : BrakeState) (fb : Feedback) : State :=
  { driven with brk := { driven.brk with rack := { state := st, timer := none, feedback := fb } } }

theorem witness_FeedbackAndTimersMoveTheBrakes :
    (driven.brk.get .rack).feedback ≠ .applied ∧ (driven.brk.get .hold).feedback ≠ .clear ∧
    (((rackIn .releasing .applied).brk.get .rack).state = .releasing ∧
      ((rackIn .releasing .applied).brk.get .rack).feedback = .applied) ∧
    (((rackIn .applying .clear).brk.get .rack).state = .applying ∧
      ((rackIn .applying .clear).brk.get .rack).feedback = .clear) ∧
    (driven.brk.get .rack).state ≠ .releasing ∧ (driven.brk.get .rack).state ≠ .applying ∧
    ({ moving with brk := { moving.brk with vigTimer := some 0 } } : State).brk.vigTimer = some 0 ∧
    ({ driven with brk := { driven.brk with holdTimer := some 0, serviceOut := 1 } } : State).brk.holdTimer = some 0 := by
  decide +kernel

/-- The car with leaf A1 in a state, its switches and edge clear, two reversals counted. -/
def leafIn (st : LeafState) : State :=
  { driven with
    doors := { driven.doors with
      sideA := .released
      a1 := { state := st, timer := none, reversals := 2, locked := false, openEnd := false, edge := false } } }

theorem witness_LeavesFollowTheirInputsAndTimers :
    (driven.doors.leaf .a1).state = .closedLocked ∧ (isolated.doors.leaf .a1).state = .isolated ∧
    ((leafIn .closing).doors.leaf .a1).state = .closing ∧ ((leafIn .obstructed).doors.leaf .a1).state = .obstructed ∧
    ((leafIn .fault).doors.leaf .a1).state = .fault ∧ ((leafIn .opening).doors.leaf .a1).state = .opening ∧
    (((leafIn .reversing).doors.leaf .a1).state = .reversing ∧ ((leafIn .reversing).doors.leaf .a1).locked = false ∧
      ((leafIn .reversing).doors.leaf .a1).edge = false) ∧
    (((leafIn .closing).doors.leaf .a1).openEnd = false ∧ ((leafIn .closing).doors.leaf .a1).reversals < 3) ∧
    ((leafIn .opened).doors.leaf .a1).state = .opened ∧
    ((leafIn .closedUnlocked).doors.side (leafSide .a1) = .released ∧
      ((leafIn .closedUnlocked).doors.leaf .a1).state = .closedUnlocked) ∧
    (driven.doors.leaf .b2).state = .closedLocked := by decide +kernel

/-- The car with its framer in UNCHECKED, the offline hunt running, or in FRAME with both timers. -/
def inFrame (st : RxState) (offHunt : Bool) : State :=
  { driven with
    rx := { RadioRx.atReset with
      state := st, align := some 1000, offHunt := offHunt, offSearch := 1000
      offTimer := some 1, fallTimer := some 1, superCand := some 7 } }

theorem witness_AlignmentIsSoughtAndFound :
    (State.reset.rx.state = .hunt ∧ State.reset.mode.modemPower = true ∧ State.reset.rx.search ≤ 0 ∧
      (0x6B#8).toNat / 4 = 26 ∧ ¬ (0x6C#8).toNat / 4 = 26) ∧
    ((inFrame .unchecked true).rx.state = .unchecked ∧ (inFrame .unchecked true).rx.offHunt = true ∧
      (inFrame .unchecked true).rx.offSearch ≤ 1001 ∧ (inFrame .unchecked true).rx.align = some 1000 ∧
      1001 % 192 ≠ 1000 % 192) ∧
    ((inFrame .frame false).rx.offTimer = some 1 ∧ (inFrame .frame false).rx.fallTimer = some 1 ∧
      (inFrame .frame false).rx.state = .frame) := by decide +kernel

theorem witness_ThirdBadHeaderIsAFrameLoss :
    (0#8).toNat / 4 ≠ 26 ∧ driven.rx.align = some 1000 ∧ driven.rx.state ≠ .hunt ∧ driven.rx.badHeaders < 2 ∧
    2 ≤ ({ driven with rx := { driven.rx with badHeaders := 2 } } : State).rx.badHeaders ∧ driven.rx.state = .checked ∧
    driven.lineCode.condition = .live := by decide +kernel

theorem witness_GoodHeadersSeekAndKeepTheSuperframe :
    ((0x6A#8).toNat / 4 = 26 ∧ (0x6A#8).getLsbD 1 = true ∧ (inFrame .frame false).rx.align = some 1000 ∧
      (inFrame .frame false).rx.superCand = some 7) ∧
    ((0x68#8).toNat / 4 = 26 ∧ (0x68#8).getLsbD 1 = false ∧ driven.rx.state = .checked ∧ driven.rx.frameNo = some 0 ∧
      driven.rx.violatedPrev = false ∧ ({ driven.rx with violatedPrev := true } : RadioRx).violatedPrev = true) := by
  decide +kernel

/-- The car at the check octet of a whole half, seven failures counted in fifteen judgements. -/
def halfDue : State := { driven with rx := { driven.rx with halfWhole := true, judged := 15, failed := 7 } }

theorem witness_HalvesAreJudgedByTheirCheck :
    (halfDue.rx.state = .checked ∧ halfDue.rx.frameNo = some 0 ∧ halfDue.rx.halfWhole = true ∧ halfDue.rx.judged < 16 ∧
      halfDue.rx.failed < 8) ∧
    ({ halfDue.rx with frameNo := some 5 } : RadioRx).frameNo = some 5 := by decide +kernel

theorem witness_LineCodeIsDebouncedAndHeld :
    ({ driven with rx := { driven.rx with frameNo := some 6 } } : State).rx.state = .checked ∧
    ({ driven with rx := { driven.rx with frameNo := some 6 } } : State).rx.frameNo = some 6 ∧
    ({ driven with lineCode := { driven.lineCode with condition := .held, holdTimer := some 0 } } :
      State).lineCode.holdTimer = some 0 := by decide +kernel

theorem witness_FramesCarryHeaderReportAndOverhead :
    parked.mode.modemKey = false ∧ ({ parked with tx := { parked.tx with frameNo := none } } : State).tx.frameNo = none ∧
    ({ driven with tx := { driven.tx with frameNo := some 7 } } : State).tx.frameNo = some 7 ∧
    ({ driven with reports := Reports.atReset } : State).reports.queue = [] ∧
    (∃ x rest, queued.reports.queue = x :: rest ∧ x.sending = false ∧ x.number = none ∧ x.octets.length = 16 ∧
      ({ x with report := .status State.resetStatus, number := some 1 } : Slot).octets.length = 44 ∧
      ({ x with number := some 9, sending := true, given := 0 } : Slot).octets.length ≤ 22) ∧
    (∀ x ∈ queued.reports.queue, x.sending = true → x.given < x.octets.length) :=
  ⟨by decide +kernel, by decide +kernel, by decide +kernel, by decide +kernel,
   ⟨_, _, rfl, by decide +kernel, by decide +kernel, by decide +kernel, by decide +kernel, by decide +kernel⟩,
   by decide +kernel⟩

/-- A slot with a STATUS of which 21 octets were sent. -/
def statusSlot : Slot :=
  { report := .status State.resetStatus, carId := 1#8, number := some 1, sending := true, given := 21 }

/-- The reports with that slot at the head. -/
def statusSending : Reports := { queue := [statusSlot], backlog := [], number := 1, timer := some 500 }

theorem witness_ReportAndTransferTimersAct :
    (∃ x rest, statusSending.queue = x :: rest ∧ x.sending = true ∧ x.given + 22 < x.octets.length) ∧
    (State.reset.reports.timer = some 500 ∧ State.reset.mon.timer = some 1000) ∧
    (statusSending.queue.length < 4 ∧ (∀ x ∈ statusSending.queue, x.isWaitingStatus = false)) ∧
    (4 ≤ (List.replicate 4 statusSlot).length ∧
      (∀ x ∈ List.replicate 4 statusSlot, x.isWaitingStatus = false)) ∧
    (∃ l x r, queued.reports.queue = l ++ x :: r ∧ x.isWaitingStatus = true ∧
      (∀ y ∈ l ++ r, y.isWaitingStatus = false)) :=
  ⟨⟨_, _, rfl, rfl, by decide +kernel⟩, by decide +kernel, by decide +kernel, by decide +kernel,
   State.reset.reports.queue.take 1, _, State.reset.reports.queue.take 1, rfl, by decide +kernel, by decide +kernel⟩

/-- The cause of a valley stop as its ALARM carries it. -/
def stopFirst : FirstCause := { kind := .valleyStop, count := 200, speed := 0, mode := .drive }

/-- The car with a queue of three ALARMs and a STATUS that waits, or with a backlog of a kind. -/
def crowded (backlog : List Alarm) : State :=
  { queued with
    reports := { queued.reports with queue := queued.reports.queue ++ queued.reports.queue.take 1, backlog := backlog } }

theorem witness_AlarmsArePlacedAndReportsCut :
    ((driven.takes 36#8 (vmsg [2#8]) = true ∧ driven.contact.state = .live ∧ driven.brk.causes.isEmpty = true ∧
      stopFirst = { kind := .valleyStop, count := driven.pos.count, speed := driven.pos.speed, mode := driven.mode.mode } ∧
      driven.brk.causes.valleyStop = false ∧ driven.reports.backlog = [] ∧ driven.reports.queue.length < 4) ∧
    ((crowded []).takes 36#8 (vmsg [2#8]) = true ∧ (crowded []).reports.queue.length = 4) ∧
    ((crowded [{ kind := .valleyStop, first := stopFirst, repeats := 255 }]).reports.backlog ≠ []) ∧
    (driven.admits 23#8 (msg .upper []) = true ∧ driven.token.driving = some .upper ∧ driven.pos.standstill = true ∧
      driven.doors.allClosed = true ∧ driven.mode.mode = .drive ∧ driven.mode.modemKey = true ∧ driven.pos.speed = 0 ∧
      driven.line.authority = none)) ∧
    (∃ l y r, (crowded []).reports.queue = l ++ y :: r ∧ y.isWaitingStatus = true ∧
      (∀ z ∈ l ++ r, z.isWaitingStatus = false)) ∧
    (∃ x rest, statusSending.queue = x :: rest ∧ x.sending = true) :=
  ⟨by decide +kernel,
   ⟨State.reset.reports.queue.take 1, _, (crowded []).reports.queue.drop 2, rfl, by decide +kernel, by decide +kernel⟩,
   _, _, rfl, rfl⟩

theorem witness_WatchAndWakingTimersAct :
    (parked.mode.periodTimer = some 10000 ∧ parked.mode.window = some { elapsed := 0, closeAt := 2000 } ∧
      parked.mode.modemPower = true ∧ parked.rx.state = .checked ∧ parked.lineCode.condition = .live) ∧
    (waking.mode.checkTimer = some 1000 ∧ waking.mode.mode = .waking ∧ waking.doors.sideReleased = false ∧
      waking.brk.rack.state.energized = false ∧ waking.brk.hold.state.energized = false ∧
      waking.brk.rack.state = .applied ∧ waking.brk.hold.state = .applied ∧ waking.doors.allClosed = true) ∧
    driven.line.verifyTimer = some 10000 ∧ driven.line.freshCheck = driven.line.storeCheck := by decide +kernel

/-- The car with one bit of its store check changed, its readback timer running. -/
def spoilt : State :=
  { driven with
    line := { line2 with storeCheck := line2.storeCheck ^^^ 1#16 }
    valves := { driven.valves with timer := some 0 } }

theorem witness_ResetsSetEveryBlock :
    spoilt.valves.timer ≠ none ∧ spoilt.line.verifyTimer ≠ none ∧ spoilt.line.freshCheck ≠ spoilt.line.storeCheck ∧
    (decide (ResetKind.pin ≠ .powerOn) && decide (driven.line.profile = .valid)
      && decide (driven.line.freshCheck = driven.line.storeCheck)) = true := by decide +kernel

theorem witness_StepsKeepTheOutputs :
    OutputLaw driven ∧ step (driven.withPending [.markerPulse]) = .next (after .markerPulse driven) :=
  ⟨by unfold OutputLaw; decide +kernel, rfl⟩

theorem witness_StepsKeepCausesAndTerms : CauseLaw driven ∧ TermLaw driven :=
  ⟨by unfold CauseLaw; decide +kernel, by unfold TermLaw; decide +kernel⟩

theorem witness_StepsKeepTheCar : CarLaw driven :=
  ⟨by unfold RackLaw; decide +kernel, by unfold HoldLaw; decide +kernel, by unfold SideLaw; decide +kernel,
   ⟨rfl, rfl⟩, by unfold DriveLaw; decide +kernel, fun c h => by cases c <;> revert h <;> decide +kernel,
   by unfold ConfigLaw; decide +kernel, by unfold ModeTimerLaw; decide +kernel⟩

theorem witness_StepsKeepTheStores : StoreLaw driven := by
  refine ⟨by unfold TableLaw; decide +kernel, by unfold RestrictionLaw; decide +kernel,
    by unfold MarginLaw; decide +kernel, by unfold RangeLaw; decide +kernel, by decide +kernel, fun n hn => ?_⟩
  have h : ∀ k : Fin 20, ∃ r ∈ paramRanges[k.1]?, r.1 ≤ driven.params.get k.1 ∧ driven.params.get k.1 ≤ r.2 := by
    decide +kernel
  exact h ⟨n, hn⟩

end Sys2Proof.Tests
end

/-! SUPPORT. A cab request judged at once: the port takes the message, the gate passes it, and the owner's reply becomes
the answer (R131 to R133, R183). -/

namespace Sys2Proof.Machine

/-! ## Ports -/

@[simp] theorem State.withPort_frame (c : Cab) (p : Port) (s : State) :
    (s.withPort c p).params = s.params ∧ (s.withPort c p).gates = s.gates ∧
      (s.withPort c p).token = s.token ∧ (s.withPort c p).refusal = s.refusal ∧
      (s.withPort c p).line = s.line ∧ (s.withPort c p).pos = s.pos ∧
      (s.withPort c p).contact = s.contact ∧ (s.withPort c p).sup = s.sup ∧
      (s.withPort c p).brk = s.brk ∧ (s.withPort c p).valves = s.valves ∧
      (s.withPort c p).doors = s.doors ∧ (s.withPort c p).flags = s.flags ∧
      (s.withPort c p).rx = s.rx ∧ (s.withPort c p).lineCode = s.lineCode ∧
      (s.withPort c p).tx = s.tx ∧ (s.withPort c p).handler = s.handler ∧
      (s.withPort c p).reports = s.reports ∧ (s.withPort c p).mon = s.mon ∧
      (s.withPort c p).mode = s.mode ∧ (s.withPort c p).pending = s.pending := by
  cases c <;> simp [State.withPort]

@[simp] theorem State.withPort_port_same (c : Cab) (p : Port) (s : State) : (s.withPort c p).port c = p := by
  cases c <;> rfl

@[simp] theorem State.withPort_port_other (c : Cab) (p : Port) (s : State) :
    (s.withPort c p).port (otherCab c) = s.port (otherCab c) := by
  cases c <;> rfl

/-- A port written twice holds what was written last, whatever became of the refusal record between. -/
theorem State.withPort_withRefusal_withPort (c : Cab) (p q : Port) (r : Option Refused) (s : State) :
    ((s.withPort c p).withRefusal r).withPort c q = (s.withRefusal r).withPort c q := by
  cases c <;> rfl

/-- Both ports stand where the two records do. -/
theorem State.port_congr {s t : State} (hu : t.upper = s.upper) (hl : t.lower = s.lower) (c : Cab) :
    t.port c = s.port c := by
  cases c
  · exact hu
  · exact hl

/-- The slot an answer takes does not depend on how the port is asked (R183). -/
theorem Port.post_eq_withAnswer (p : Port) (a : Answer) : p.post a = p.withAnswer a := by
  unfold Port.post Port.withAnswer
  cases p.sending <;> rfl

/-! ## A message found valid -/

/-- A message found valid makes the link ACTIVE and leaves the control inputs (R184). -/
@[simp] theorem Port.heard_keyOn_link (p : Port) : p.heard.keyOn = p.keyOn ∧ p.heard.link = .active := ⟨rfl, rfl⟩

/-- The port of a message found valid, and nothing else, changes (R183, R184). -/
theorem State.heard_eq (c : Cab) (s : State) : s.heard c = s.withPort c (s.port c).heard := rfl

@[simp] theorem State.heard_frame (c : Cab) (s : State) :
    (s.heard c).params = s.params ∧ (s.heard c).gates = s.gates ∧
      (s.heard c).token = s.token ∧ (s.heard c).refusal = s.refusal ∧
      (s.heard c).line = s.line ∧ (s.heard c).pos = s.pos ∧
      (s.heard c).contact = s.contact ∧ (s.heard c).sup = s.sup ∧
      (s.heard c).brk = s.brk ∧ (s.heard c).valves = s.valves ∧
      (s.heard c).doors = s.doors ∧ (s.heard c).flags = s.flags ∧
      (s.heard c).rx = s.rx ∧ (s.heard c).lineCode = s.lineCode ∧
      (s.heard c).tx = s.tx ∧ (s.heard c).handler = s.handler ∧
      (s.heard c).reports = s.reports ∧ (s.heard c).mon = s.mon ∧
      (s.heard c).mode = s.mode ∧ (s.heard c).pending = s.pending := by
  simp [State.heard_eq]

@[simp] theorem State.heard_port_same (c : Cab) (s : State) : (s.heard c).port c = (s.port c).heard := by
  simp [State.heard_eq]

@[simp] theorem State.heard_port_other (c : Cab) (s : State) :
    (s.heard c).port (otherCab c) = s.port (otherCab c) := by
  simp [State.heard_eq]

/-! ## The gate -/

/-- The cab is judged at the rank of a link just made ACTIVE (R127, R184). -/
theorem State.cabRank_heard (c : Cab) (s : State) : (s.heard c).cabRank c = s.rankHeard c := by
  simp [State.cabRank, State.rankHeard, State.eligible]

/-- Origins that are not the valley's alone allow a cab (R131, step 2). -/
theorem GateOrigins.allows_cab {g : GateOrigins} (c : Cab) (h : g ≠ .valley) : g.allows (.cab c) = true := by
  cases g
  case valley => exact absurd rfl h
  all_goals rfl

/-- A message that passes steps 1 to 4 finds no failure at the gate (R131). -/
theorem State.gateCheck_heard {s : State} {kind : Octet} {c : Cab} (h : s.cabPasses kind c = true) :
    (s.heard c).gateCheck kind (.cab c) = none := by
  unfold State.cabPasses at h
  unfold State.gateCheck
  simp only [State.heard_frame]
  cases hg : s.gates[kind.toNat]? with
  | none => simp [hg] at h
  | some g =>
    simp only [hg, Bool.and_eq_true, Bool.or_eq_true, Bool.not_eq_true', decide_eq_true_eq] at h
    obtain ⟨⟨⟨hpresent, horigins⟩, hrank⟩, hdrive⟩ := h
    have hr : ¬ (s.heard c).rank (.cab c) < g.least := by
      simpa only [State.rank, State.cabRank_heard, Nat.not_lt] using hrank
    have hd : (g.drive && !(s.heard c).drives (.cab c)) = false := by
      rcases hdrive with hdrive | hdrive <;> simp [State.drives, hdrive]
    simp [hpresent, GateOrigins.allows_cab c horigins, hr, hd]

/-! ## Judging and answering -/

/-- What an admitted message meets: a free port, a payload of a message, and a gate it passes. -/
theorem State.admits_iff {s : State} {kind : Octet} {m : CabMsg} :
    s.admits kind m = true ↔
      (s.port m.cab).asm = .hunting ∧ (s.port m.cab).waiting = none ∧ m.payload.length ≤ 58 ∧
        s.cabPasses kind m.cab = true := by
  simp [State.admits, State.portFree, and_assoc]

/-- An admitted message is judged by its owner on the port it has just made ACTIVE (R183). -/
theorem State.cabCommand_admitted {s : State} {kind : Octet} {m : CabMsg} (h : s.admits kind m = true)
    (own : State → Reply) : s.cabCommand m kind own = (s.heard m.cab).serve kind m own := by
  obtain ⟨hasm, hwaiting, hlength, -⟩ := State.admits_iff.1 h
  simp [State.cabCommand, hasm, hwaiting, hlength]

/-- An admitted message's answer carries the owner's reply, composed after the refusal record is written (R132, R133,
R183). -/
theorem State.cabCommand_reply {s : State} {kind : Octet} {m : CabMsg} {own : State → Reply} {r : Reply} {t : State}
    (h : s.admits kind m = true) (hown : own (s.heard m.cab) = r) (ht : r.st.noteResult r.code kind (.cab m.cab) = t) :
    s.cabCommand m kind own =
      t.withPort m.cab
        ((t.port m.cab).withAnswer { kind := kind, tag := m.tag, code := r.code, payload := r.body t }) := by
  obtain ⟨-, -, -, hgate⟩ := State.admits_iff.1 h
  subst hown ht
  rw [State.cabCommand_admitted h]
  simp [State.serve, State.judge, State.gateCheck_heard hgate, Port.post_eq_withAnswer]

/-- An owner that refuses without payload leaves the answer and the refusal record (R133). -/
theorem State.cabCommand_refused {s : State} {kind : Octet} {m : CabMsg} {own : State → Reply} {code : ResultCode}
    (h : s.admits kind m = true) (hown : own (s.heard m.cab) = refuse code (s.heard m.cab))
    (hcode : code.accepted = false) : s.cabCommand m kind own = s.refused kind m code := by
  have hnote : (s.heard m.cab).noteResult code kind (.cab m.cab) =
      (s.heard m.cab).withRefusal (some { code := code, index := kind.toNat, valley := false }) := by
    simp [State.noteResult, hcode, Origin.isValley]
  have hport : ∀ (t : State) (r : Option Refused), (t.withRefusal r).port m.cab = t.port m.cab := fun t r =>
    State.port_congr rfl rfl m.cab
  rw [State.cabCommand_reply h hown hnote]
  simp only [hport, State.heard_port_same, State.refused, State.answer, State.answered, refuse]
  exact State.withPort_withRefusal_withPort ..

/-- An owner that accepts without payload, leaving its own port as it was heard, leaves its state with the answer OK in
that port (R132, R183). -/
theorem State.cabCommand_accepted {s t : State} {kind : Octet} {m : CabMsg} {own : State → Reply}
    (h : s.admits kind m = true) (hown : own (s.heard m.cab) = accept t)
    (hport : t.port m.cab = (s.port m.cab).heard) :
    s.cabCommand m kind own = t.withPort m.cab (s.answered kind m .ok []) := by
  rw [State.cabCommand_reply h hown rfl]
  simp [accept, State.noteResult, ResultCode.accepted, hport, State.answered]

/-- A state that leaves the other port, with the answer in the message's own, answers the message. -/
theorem answers_withPort {s t : State} {kind : Octet} {m : CabMsg} {code : ResultCode} {payload : List Octet}
    (hother : t.port (otherCab m.cab) = s.port (otherCab m.cab)) :
    Answers s (t.withPort m.cab (s.answered kind m code payload)) kind m code payload :=
  ⟨State.withPort_port_same .., (State.withPort_port_other ..).trans hother⟩

/-! ## The flags of both cabs -/

/-- A flag added is held; every other is held as before (R187). -/
theorem FlagSet.has_add (f : FlagSet) (k j : FlagKind) : (f.add k).has j = (decide (j = k) || f.has j) := by
  cases k <;> cases j <;> rfl

/-- A change reported is flagged to both cabs (R187). -/
theorem flagged_flag (k : FlagKind) (s : State) : Flagged (s.flag k) k := by
  simp [Flagged, State.flag, CabFlags.add, FlagSet.has_add]

/-- A report takes no flag away (R187). -/
theorem Flagged.flag {s : State} {j : FlagKind} (h : Flagged s j) (k : FlagKind) : Flagged (s.flag k) j := by
  obtain ⟨hu, hl⟩ := h
  simp [Flagged, State.flag, CabFlags.add, FlagSet.has_add, hu, hl]

/-- What is flagged is read from the flags alone. -/
theorem Flagged.congr {s t : State} {k : FlagKind} (h : Flagged s k) (hf : t.flags = s.flags) : Flagged t k := by
  unfold Flagged
  rw [hf]
  exact h

end Sys2Proof.Machine

/-! SUPPORT. Loading one entry (R7, R8): a segment's store form reads back as the segment, a marker's as its
position. -/

namespace Sys2Proof.Machine

/-! ## Numbers in octets -/

/-- Two octets carry the number put into them (R199). -/
theorem num2_oct2 {n : Nat} (h : n < 65536) : num2 (oct (n / 256)) (oct n) = n := by
  simp only [num2, oct, BitVec.toNat_ofNat]
  omega

/-- Three octets carry the number put into them (R199). -/
theorem num3_oct3 {n : Nat} (h : n < 16777216) : num3 (oct (n / 65536)) (oct (n / 256)) (oct n) = n := by
  simp only [num3, oct, BitVec.toNat_ofNat]
  omega

/-- Two octets carry the signed number put into them in two's complement (R199). -/
theorem int2_octInt2 {i : Int} (hlo : -32768 ≤ i) (hhi : i < 32768) :
    int2 (oct ((i % 65536).toNat / 256)) (oct (i % 65536).toNat) = i := by
  have hn : num2 (oct ((i % 65536).toNat / 256)) (oct (i % 65536).toNat) = (i % 65536).toNat :=
    num2_oct2 (by omega)
  have hsign : (oct ((i % 65536).toNat / 256)).toNat = (i % 65536).toNat / 256 := by
    simp only [oct, BitVec.toNat_ofNat]
    omega
  unfold int2
  rw [hn, hsign]
  split <;> omega

/-! ## Reading an entry -/

/-- The flags octet of a store form is below 8 and gives the side and the shadow flag back (R13). -/
theorem flagsOctet_reads (side : PlatformSide) (shadow : Bool) :
    (oct ((if shadow then 4 else 0) + side.num)).toNat < 8 ∧
      sideOf (oct ((if shadow then 4 else 0) + side.num)).toNat = side ∧
      decide (4 ≤ (oct ((if shadow then 4 else 0) + side.num)).toNat) = shadow := by
  cases side <;> cases shadow <;> decide

/-- A segment in its ranges reads back from its store form, whatever octets follow (R7, R13). -/
theorem segmentOf_store {g : Segment} (rest : List Octet) (hstart : g.start ≤ 99999) (hlo : -480 ≤ g.gradient)
    (hhi : g.gradient ≤ 480) (hup : g.limitUp ≤ 1200) (hdown : g.limitDown ≤ 1200) (hstation : g.station ≤ 63) :
    segmentOf (g.store ++ rest) = some g := by
  obtain ⟨hflags, hside, hshadow⟩ := flagsOctet_reads g.side g.shadow
  have hst : (oct g.station).toNat = g.station := by
    simp only [oct, BitVec.toNat_ofNat]
    omega
  simp [segmentOf, Segment.store, oct3, octInt2, oct2, num3_oct3 (n := g.start) (by omega),
    int2_octInt2 (i := g.gradient) (by omega) (by omega), num2_oct2 (n := g.limitUp) (by omega),
    num2_oct2 (n := g.limitDown) (by omega), hflags, hside, hshadow, hst, hstart, hlo, hhi, hup, hdown, hstation]

/-- A request's index and segment in their ranges are read as carried (R7). -/
theorem readSegment_carried {i : Nat} {g : Segment} (rest : List Octet) (hi : i ≤ 255) (hstart : g.start ≤ 99999)
    (hlo : -480 ≤ g.gradient) (hhi : g.gradient ≤ 480) (hup : g.limitUp ≤ 1200) (hdown : g.limitDown ≤ 1200)
    (hstation : g.station ≤ 63) : readSegment (oct2 i ++ g.store ++ rest) = some (i, g) := by
  have hseg := segmentOf_store rest hstart hlo hhi hup hdown hstation
  simp [readSegment, oct2, num2_oct2 (n := i) (by omega), hi, hseg]

/-- A request's index and position in their ranges are read as carried (R8). -/
theorem readMarker_carried {i p : Nat} (rest : List Octet) (hi : i ≤ 127) (hp : p ≤ 99999) :
    readMarker (oct2 i ++ oct3 p ++ rest) = some (i, p) := by
  simp [readMarker, oct2, oct3, num2_oct2 (n := i) (by omega), num3_oct3 (n := p) (by omega), hi, hp, positionMax]

/-- Fewer than eleven octets are no store form of a segment (R13). -/
theorem segmentOf_short {l : List Octet} (h : l.length < 11) : segmentOf l = none := by
  unfold segmentOf
  split
  · simp only [List.length_cons] at h
    omega
  · rfl

/-- A payload too short for index and segment is not read (R7). -/
theorem readSegment_short {l : List Octet} (h : l.length < 13) : readSegment l = none := by
  unfold readSegment
  split
  · next rest =>
    have hrest : rest.length < 11 := by
      simp only [List.length_cons] at h
      omega
    simp [segmentOf_short hrest]
  · rfl

/-- An index or a field out of its range is not read (R7). -/
theorem readSegment_outOfRange {i1 i2 p1 p2 p3 g1 g2 u1 u2 d1 d2 f st : Octet} {rest : List Octet}
    (h : 255 < i1.toNat * 256 + i2.toNat ∨ 99999 < p1.toNat * 65536 + p2.toNat * 256 + p3.toNat ∨
      (g1.toNat < 128 ∧ 480 < g1.toNat * 256 + g2.toNat) ∨
      (128 ≤ g1.toNat ∧ g1.toNat * 256 + g2.toNat < 65536 - 480) ∨
      1200 < u1.toNat * 256 + u2.toNat ∨ 1200 < d1.toNat * 256 + d2.toNat ∨ 7 < f.toNat ∨ 63 < st.toNat) :
    readSegment (i1 :: i2 :: p1 :: p2 :: p3 :: g1 :: g2 :: u1 :: u2 :: d1 :: d2 :: f :: st :: rest) = none := by
  simp only [readSegment, segmentOf, ite_eq_right_iff, Option.map_eq_none_iff]
  rintro hi ⟨hstart, hlo, hhi, hup, hdown, hflags, hstation⟩
  simp only [num2, num3, int2] at hi hstart hlo hhi hup hdown
  split at hlo <;> omega

/-- A payload too short for index and position is not read (R8). -/
theorem readMarker_short {l : List Octet} (h : l.length < 5) : readMarker l = none := by
  unfold readMarker
  split
  · simp only [List.length_cons] at h
    omega
  · rfl

/-- An index or a position out of its range is not read (R8). -/
theorem readMarker_outOfRange {i1 i2 p1 p2 p3 : Octet} {rest : List Octet}
    (h : 127 < i1.toNat * 256 + i2.toNat ∨ 99999 < p1.toNat * 65536 + p2.toNat * 256 + p3.toNat) :
    readMarker (i1 :: i2 :: p1 :: p2 :: p3 :: rest) = none := by
  simp only [readMarker, ite_eq_right_iff]
  rintro ⟨hi, hp⟩
  simp only [num2, num3, positionMax] at hi hp
  omega

/-! ## Owners -/

/-- In a load of its own a cab's loading request is taken (R7, R8, R9). -/
theorem State.loadRefusal_own {s : State} {c : Cab} (hload : s.line.profile = .loading)
    (hown : s.line.loader = some c) : s.loadRefusal c = none := by
  simp [State.loadRefusal, hload, hown]

/-- Outside a load of its own a cab's loading request is refused: BUSY in the other's, else STATE (R7, R8, R9). -/
theorem State.loadRefusal_other {s : State} {c : Cab} (h : s.line.profile ≠ .loading ∨ s.line.loader ≠ some c) :
    s.loadRefusal c = some (if s.line.profile = .loading then .busy else .stateFails) := by
  unfold State.loadRefusal
  split
  · next hload =>
    have hother : s.line.loader ≠ some c := h.resolve_left (not_not_intro hload)
    simp [hother]
  · rfl

/-- Whether a loading request is taken is read from the line record, which hearing the message leaves. -/
@[simp] theorem State.loadRefusal_heard (s : State) (c d : Cab) : (s.heard d).loadRefusal c = s.loadRefusal c := by
  simp [State.loadRefusal]

/-- A load's refusals are no acceptances (R132). -/
theorem loadCode_not_accepted (p : Prop) [Decidable p] :
    (if p then ResultCode.busy else .stateFails).accepted = false := by
  split <;> rfl

/-- The state a loading request leaves: the line record as written, its flags, and the answer OK (R7, R8). -/
def State.loaded (s : State) (kind : Octet) (m : CabMsg) (l : LineStore) : State :=
  (((s.heard m.cab).withLine l).flag .lineRecord).withPort m.cab (s.answered kind m .ok [])

/-- An owner that writes the line record and reports it leaves the state named for it. -/
theorem State.cabCommand_loaded {s : State} {kind : Octet} {m : CabMsg} {own : State → Reply} {l : LineStore}
    (h : s.admits kind m = true)
    (hown : own (s.heard m.cab) = accept (((s.heard m.cab).withLine l).flag .lineRecord)) :
    s.cabCommand m kind own = s.loaded kind m l :=
  State.cabCommand_accepted h hown
    ((State.port_congr (s := s.heard m.cab) (by simp) (by simp) m.cab).trans (State.heard_port_same m.cab s))

/-- A loaded entry is answered OK and reported to both cabs, and only the line record changes with them (R7, R8). -/
theorem State.loaded_effect (s : State) (kind : Octet) (m : CabMsg) (l : LineStore) :
    Answers s (s.loaded kind m l) kind m .ok [] ∧ (s.loaded kind m l).line = l ∧
      Flagged (s.loaded kind m l) .lineRecord ∧ SameSetup s (s.loaded kind m l) ∧
      SameRadio s (s.loaded kind m l) ∧ SameHandler s (s.loaded kind m l) ∧
      (s.loaded kind m l).token = s.token ∧ (s.loaded kind m l).refusal = s.refusal ∧
      (s.loaded kind m l).pos = s.pos ∧ (s.loaded kind m l).sup = s.sup ∧
      (s.loaded kind m l).contact = s.contact ∧ (s.loaded kind m l).brk = s.brk ∧
      (s.loaded kind m l).doors = s.doors ∧ (s.loaded kind m l).mode = s.mode := by
  have hother : (((s.heard m.cab).withLine l).flag .lineRecord).port (otherCab m.cab) = s.port (otherCab m.cab) :=
    (State.port_congr (s := s.heard m.cab) (by simp) (by simp) _).trans (State.heard_port_other m.cab s)
  have hflag : Flagged (s.loaded kind m l) .lineRecord :=
    (flagged_flag .lineRecord ((s.heard m.cab).withLine l)).congr (by simp [State.loaded])
  refine ⟨answers_withPort hother, ?_, hflag, ?_⟩
  · simp [State.loaded]
  · simp [State.loaded, SameSetup, SameRadio, SameHandler]

/-! ## The commands -/

/-- A segment taken is written at its index (R7). -/
theorem exec_profileSegment_taken {s : State} {m : CabMsg} {i : Nat} {g : Segment} (h : s.admits 17#8 m = true)
    (hload : s.loadRefusal m.cab = none) (hread : readSegment m.payload = some (i, g)) :
    exec (.profileSegment m) s =
      .next (s.loaded 17#8 m { s.line with segments := s.line.segments.put i g }) :=
  congrArg Host.Outcome.next (State.cabCommand_loaded h (by simp [ownProfileSegment, hload, hread]))

/-- A marker taken is written at its index (R8). -/
theorem exec_profileMarker_taken {s : State} {m : CabMsg} {i p : Nat} (h : s.admits 18#8 m = true)
    (hload : s.loadRefusal m.cab = none) (hread : readMarker m.payload = some (i, p)) :
    exec (.profileMarker m) s =
      .next (s.loaded 18#8 m { s.line with markers := s.line.markers.put i p }) :=
  congrArg Host.Outcome.next (State.cabCommand_loaded h (by simp [ownProfileMarker, hload, hread]))

/-- A segment that is not read is refused RANGE (R7). -/
theorem exec_profileSegment_range {s : State} {m : CabMsg} (h : s.admits 17#8 m = true)
    (hload : s.loadRefusal m.cab = none) (hread : readSegment m.payload = none) :
    exec (.profileSegment m) s = .next (s.refused 17#8 m .range) :=
  congrArg Host.Outcome.next (State.cabCommand_refused h (by simp [ownProfileSegment, hload, hread]) rfl)

/-- A marker that is not read is refused RANGE (R8). -/
theorem exec_profileMarker_range {s : State} {m : CabMsg} (h : s.admits 18#8 m = true)
    (hload : s.loadRefusal m.cab = none) (hread : readMarker m.payload = none) :
    exec (.profileMarker m) s = .next (s.refused 18#8 m .range) :=
  congrArg Host.Outcome.next (State.cabCommand_refused h (by simp [ownProfileMarker, hload, hread]) rfl)

/-- A segment outside a load of its own is refused (R7). -/
theorem exec_profileSegment_refused {s : State} {m : CabMsg} {code : ResultCode} (h : s.admits 17#8 m = true)
    (hload : s.loadRefusal m.cab = some code) (hcode : code.accepted = false) :
    exec (.profileSegment m) s = .next (s.refused 17#8 m code) :=
  congrArg Host.Outcome.next (State.cabCommand_refused h (by simp [ownProfileSegment, hload]) hcode)

/-- A marker outside a load of its own is refused (R8). -/
theorem exec_profileMarker_refused {s : State} {m : CabMsg} {code : ResultCode} (h : s.admits 18#8 m = true)
    (hload : s.loadRefusal m.cab = some code) (hcode : code.accepted = false) :
    exec (.profileMarker m) s = .next (s.refused 18#8 m code) :=
  congrArg Host.Outcome.next (State.cabCommand_refused h (by simp [ownProfileMarker, hload]) hcode)

/-- Settles O20: what the payload carries is read exactly when it is in range, and the load decides who may write. -/
theorem loadingWritesOneEntry : Obligations.LoadingWritesOneEntry := by
  unfold Obligations.LoadingWritesOneEntry
  intro s m
  refine ⟨fun hprofile hloader => ?_, fun hother => ?_⟩
  · have hload := State.loadRefusal_own hprofile hloader
    refine ⟨?segment, ?marker, ?segmentRange, ?markerRange⟩
    case segment =>
      intro i g rest h hi hstart hlo hhi hup hdown hstation hpayload
      have hread : readSegment m.payload = some (i, g) :=
        hpayload ▸ readSegment_carried rest hi hstart hlo hhi hup hdown hstation
      obtain ⟨hanswers, hline, hrest⟩ :=
        s.loaded_effect 17#8 m { s.line with segments := s.line.segments.put i g }
      refine ⟨_, exec_profileSegment_taken h hload hread, hanswers, ?_, ?_, fun j hj => ?_, hrest⟩
      · rw [hline]
      · rw [hline]; exact Table.get_put_same ..
      · rw [hline]; exact Table.get_put_other _ _ hj
    case marker =>
      intro i p rest h hi hp hpayload
      have hread : readMarker m.payload = some (i, p) := hpayload ▸ readMarker_carried rest hi hp
      obtain ⟨hanswers, hline, hrest⟩ :=
        s.loaded_effect 18#8 m { s.line with markers := s.line.markers.put i p }
      refine ⟨_, exec_profileMarker_taken h hload hread, hanswers, ?_, ?_, fun j hj => ?_, hrest⟩
      · rw [hline]
      · rw [hline]; exact Table.get_put_same ..
      · rw [hline]; exact Table.get_put_other _ _ hj
    case segmentRange =>
      rintro h (hshort | ⟨i1, i2, p1, p2, p3, g1, g2, u1, u2, d1, d2, f, st, rest, hpayload, hout⟩)
      · exact exec_profileSegment_range h hload (readSegment_short hshort)
      · exact exec_profileSegment_range h hload (hpayload ▸ readSegment_outOfRange hout)
    case markerRange =>
      rintro h (hshort | ⟨i1, i2, p1, p2, p3, rest, hpayload, hout⟩)
      · exact exec_profileMarker_range h hload (readMarker_short hshort)
      · exact exec_profileMarker_range h hload (hpayload ▸ readMarker_outOfRange hout)
  · have hload := State.loadRefusal_other hother
    exact ⟨fun h => exec_profileSegment_refused h hload (loadCode_not_accepted _),
      fun h => exec_profileMarker_refused h hload (loadCode_not_accepted _)⟩

end Sys2Proof.Machine

/-! SUPPORT. The beginning of a load (R6): the entry into CONFIG, and what the change of the profile state makes of the
line record, the flags, the valves, supervision and the shadow test. -/

namespace Sys2Proof.Machine

/-! ## What only rises and only falls -/

/-- From `s` to `t` every flag stays set, no valve becomes energized, and without an authority the line record stays. -/
structure Subdued (s t : State) : Prop where
  flags : ∀ k, Flagged s k → Flagged t k
  valves : ∀ b, (s.brk.get b).state.energized = false → (t.brk.get b).state.energized = false
  line : s.line.authority = none → t.line = s.line

theorem Subdued.refl (s : State) : Subdued s s := ⟨fun _ h => h, fun _ h => h, fun _ => rfl⟩

theorem Subdued.trans {s t u : State} (h : Subdued s t) (g : Subdued t u) : Subdued s u where
  flags k hk := g.flags k (h.flags k hk)
  valves b hb := g.valves b (h.valves b hb)
  line ha := by
    have ht := h.line ha
    exact (g.line (ht ▸ ha)).trans ht

/-- A change of other blocks alone. -/
theorem Subdued.of_eq {s t : State} (hf : t.flags = s.flags) (hb : ∀ b, t.brk.get b = s.brk.get b)
    (hl : t.line = s.line) : Subdued s t where
  flags _ hk := hk.congr hf
  valves b h := (hb b).symm ▸ h
  line _ := hl

theorem State.withSup_subdued (x : Supervision) (s : State) : Subdued s (s.withSup x) :=
  .of_eq rfl (fun _ => rfl) rfl

theorem State.withContact_subdued (x : Contact) (s : State) : Subdued s (s.withContact x) :=
  .of_eq rfl (fun _ => rfl) rfl

theorem State.withHandler_subdued (x : Handler) (s : State) : Subdued s (s.withHandler x) :=
  .of_eq rfl (fun _ => rfl) rfl

theorem State.withTerms_subdued (t : Terms) (s : State) : Subdued s (s.withBrk { s.brk with terms := t }) :=
  .of_eq rfl (fun b => by cases b <;> rfl) rfl

theorem State.withCauses_subdued (c : CauseSet) (f : Option FirstCause) (s : State) :
    Subdued s (s.withBrk { s.brk with causes := c, first := f }) :=
  .of_eq rfl (fun b => by cases b <;> rfl) rfl

/-! ## Outputs, brakes and causes -/

theorem State.flag_subdued (k : FlagKind) (s : State) : Subdued s (s.flag k) where
  flags _ hj := hj.flag k
  valves b hb := by simpa using hb
  line _ := by simp

theorem State.settleOutputs_subdued (s : State) : Subdued s s.settleOutputs := by
  refine ⟨fun k hk => ?_, fun b hb => by simpa using hb, fun _ => by simp⟩
  unfold State.settleOutputs
  dsimp only
  split
  · exact hk
  · exact (show Flagged (s.withBrk _) k from hk).flag .brakes

/-- A de-energizing state taken by a brake (R89). -/
theorem State.setBrake_subdued {st : BrakeState} (hst : st.energized = false) (b : BrakeId) (s : State) :
    Subdued s (s.setBrake b st) := by
  refine ⟨fun k hk => ?_, fun c hc => ?_, fun _ => by simp⟩
  · unfold State.setBrake
    split
    · exact hk
    · have hflag := Flagged.flag
        (s := s.withBrk (s.brk.put b { s.brk.get b with state := st, timer := brakeTimer st })) hk .brakes
      exact ((State.settleOutputs_subdued _).flags k hflag).congr (by simp)
  · by_cases hcb : c = b
    · rw [hcb, (State.setBrake_same b st s).1]
      exact hst
    · rw [State.setBrake_other hcb]
      exact hc

theorem State.applyCmd_subdued (b : BrakeId) (s : State) : Subdued s (s.applyCmd b) := by
  have happlying := State.setBrake_subdued (st := .applying) rfl b s
  have happlied := happlying.trans (State.setBrake_subdued (st := .applied) rfl b _)
  unfold State.applyCmd
  split
  case h_1 => dsimp only; split <;> assumption
  case h_2 => dsimp only; split <;> assumption
  all_goals exact .refl s

theorem State.setTerms_subdued (t : Terms) (s : State) : Subdued s (s.setTerms t) := by
  have hset : Subdued s (s.withBrk { s.brk with terms := t }).settleOutputs :=
    .trans (State.withTerms_subdued t s) (State.settleOutputs_subdued _)
  unfold State.setTerms
  dsimp only
  split
  · exact hset.trans (State.applyCmd_subdued .hold _)
  · exact hset

theorem State.joinCause_subdued (k : CauseKind) (s : State) : Subdued s (s.joinCause k) := by
  have happly : ∀ t : State, Subdued t (if t.pos.standstill then t.applyCmd .hold else t) := fun t => by
    split
    · exact State.applyCmd_subdued .hold t
    · exact .refl t
  have halarm : ∀ t : State, Subdued t (t.offerAlarm k) := fun t => .of_eq (by simp) (by simp) (by simp)
  unfold State.joinCause
  exact .trans (State.withCauses_subdued _ _ s) <| .trans (State.flag_subdued .causes _) <|
    .trans (State.setTerms_subdued _ _) <| .trans (State.applyCmd_subdued .rack _) <| .trans (happly _) (halarm _)

theorem State.addCause_subdued {k : CauseKind} (hk : k ≠ .rollaway) (s : State) : Subdued s (s.addCause k) := by
  unfold State.addCause
  dsimp only
  rw [if_neg (fun h => hk h.1)]
  split
  · exact .refl s
  · exact State.joinCause_subdued k s

/-! ## Supervision -/

theorem State.eoaTest_subdued (s : State) : Subdued s s.eoaTest := by
  unfold State.eoaTest
  split
  · exact State.withSup_subdued _ s
  · split
    · split
      · exact .refl s
      · exact (State.addCause_subdued (by decide) s).trans (State.withSup_subdued _ _)
    · exact State.withSup_subdued _ s

theorem State.setSupState_subdued (x : SupState) (s : State) : Subdued s (s.setSupState x) := by
  have hterm : Subdued s (((s.withSup { s.sup with state := x }).flag .supervision).setTerms
      { ((s.withSup { s.sup with state := x }).flag .supervision).brk.terms with supervision := x.term }) :=
    .trans (State.withSup_subdued _ s) <| .trans (State.flag_subdued .supervision _) (State.setTerms_subdued _ _)
  unfold State.setSupState
  split
  · exact .refl s
  · dsimp only
    split
    · exact hterm.trans (State.addCause_subdued (by decide) _)
    · exact hterm

theorem State.evalCore_subdued (s : State) : Subdued s s.evalCore :=
  .trans (State.withSup_subdued _ s) <| .trans (State.eoaTest_subdued s.measureLimits) (State.setSupState_subdued _ _)

theorem State.voidAuthority_subdued (s : State) : Subdued s s.voidAuthority := by
  unfold State.voidAuthority
  split
  · next a ha =>
    exact ⟨fun k hk => (show Flagged (s.withLine _) k from hk).flag .lineRecord, fun b hb => by simpa using hb,
      fun hnone => absurd (ha.symm.trans hnone) (by simp)⟩
  · exact .refl s

theorem State.setContactState_subdued (x : ContactState) (s : State) : Subdued s (s.setContactState x) := by
  have hvoid : ∀ t : State, Subdued t (if x = .void then t.voidAuthority else t) := fun t => by
    split
    · exact State.voidAuthority_subdued t
    · exact .refl t
  unfold State.setContactState
  split
  · exact .refl s
  · exact .trans (State.withContact_subdued _ s) <| .trans (State.flag_subdued .radio _) <| .trans (hvoid _) <|
      .trans (State.setTerms_subdued _ _) (State.evalCore_subdued _)

theorem State.judgeContact_subdued (s : State) : Subdued s s.judgeContact := by
  unfold State.judgeContact
  split
  · exact .refl s
  · exact State.setContactState_subdued _ s

theorem State.setShadow_subdued (x : Bool) (s : State) : Subdued s (s.setShadow x) := by
  unfold State.setShadow
  split
  · exact .refl s
  · exact .trans (State.withContact_subdued _ s) (State.judgeContact_subdued _)

theorem State.shadowTest_subdued (s : State) : Subdued s s.shadowTest := by
  unfold State.shadowTest
  split
  · split
    · exact State.setShadow_subdued _ s
    · exact .refl s
  · exact State.setShadow_subdued false s

theorem State.evaluate_subdued (s : State) : Subdued s s.evaluate := by
  unfold State.evaluate
  dsimp only
  split
  · exact State.evalCore_subdued s
  · exact (State.evalCore_subdued s).trans (State.shadowTest_subdued _)

theorem State.judgeVersion_subdued (s : State) : Subdued s s.judgeVersion := by
  have hset : ∀ v : Bool, Subdued s (if s.handler.versionInd = v then s
      else (s.withHandler { s.handler with versionInd := v }).flag .lineRecord) := fun v => by
    split
    · exact .refl s
    · exact .trans (State.withHandler_subdued _ s) (State.flag_subdued .lineRecord _)
  exact hset _

theorem State.profileChanged_subdued (s : State) : Subdued s s.profileChanged :=
  .trans (State.judgeVersion_subdued s) <| .trans (State.flag_subdued .lineRecord _) <|
    .trans (State.shadowTest_subdued _) (State.evaluate_subdued _)

/-! ## Supervision without a committed profile -/

/-- A supervision state taken leaves every other part of supervision (R78). -/
theorem State.setSupState_sup (x : SupState) (s : State) : (s.setSupState x).sup = { s.sup with state := x } := by
  unfold State.setSupState
  split
  · next h => rw [← h]
  · dsimp only
    split <;> simp

/-- Without an authority the EOA test clears its mark and adds no cause (R80). -/
theorem State.eoaTest_noAuthority {s : State} (h : s.line.authority = none) :
    s.eoaTest = s.withSup { s.sup with passedMark := false } := by
  simp [State.eoaTest, h]

/-- An evaluation without a committed profile and without an authority: P is 0 by NO_PROFILE (R66). -/
theorem State.evalCore_noProfile {s : State} (hprofile : s.line.profile ≠ .valid) (hauth : s.line.authority = none) :
    s.evalCore.sup.permitted = 0 ∧ s.evalCore.sup.limiting = .noProfile := by
  have hm : s.measureLimits.line.authority = none := by simpa using hauth
  simp only [State.evalCore, State.setSupState_sup, State.eoaTest_noAuthority hm]
  simp [State.measureLimits, State.limitNow, hprofile]

@[simp] theorem State.setContactState_shadow (x : ContactState) (s : State) :
    (s.setContactState x).contact.shadow = s.contact.shadow := by
  unfold State.setContactState
  split
  · rfl
  · dsimp only
    split <;> simp

@[simp] theorem State.judgeContact_shadow (s : State) : s.judgeContact.contact.shadow = s.contact.shadow := by
  unfold State.judgeContact
  split <;> simp

/-- The shadow test takes the value given (R54). -/
@[simp] theorem State.setShadow_shadow (x : Bool) (s : State) : (s.setShadow x).contact.shadow = x := by
  unfold State.setShadow
  split
  · next h => exact h
  · simp

/-- Without a committed profile the shadow test is clear (R54). -/
theorem State.shadowTest_noProfile {s : State} (hprofile : s.line.profile ≠ .valid) :
    s.shadowTest = s.setShadow false := by
  simp [State.shadowTest, hprofile]

/-- A shadow test that stands as it would be made is left alone (R56). -/
theorem State.setShadow_self (s : State) : s.setShadow s.contact.shadow = s := by
  simp [State.setShadow]

/-- Without a committed profile and with the shadow test clear, an evaluation is its core: the shadow test after a
change of direction finds nothing to change (R54, R60). -/
theorem State.evaluate_noProfile {s : State} (hprofile : s.line.profile ≠ .valid)
    (hshadow : s.contact.shadow = false) :
    s.evaluate = s.evalCore := by
  have hp : s.evalCore.line.profile ≠ .valid := by simpa using hprofile
  have hs : s.evalCore.setShadow false = s.evalCore := by
    have hself := State.setShadow_self s.evalCore
    simpa [hshadow] using hself
  unfold State.evaluate
  dsimp only
  rw [State.shadowTest_noProfile hp, hs, ite_self]

/-- The VERSION indication follows the last line version and the committed one (R169). -/
theorem State.judgeVersion_versionInd (s : State) :
    s.judgeVersion.handler.versionInd = true ↔
      ∃ v, s.handler.lineVersion = some v ∧ v ≠ s.line.committedVersion := by
  have hset : ∀ v : Bool, (if s.handler.versionInd = v then s
      else (s.withHandler { s.handler with versionInd := v }).flag .lineRecord).handler.versionInd = v := fun v => by
    split
    · next h => exact h
    · simp
  rw [show s.judgeVersion.handler.versionInd = _ from hset _]
  cases s.handler.lineVersion <;> simp

/-- After a judgement of the VERSION indication nothing of a profile's change touches the handler (R169). -/
theorem State.profileChanged_handler (s : State) : s.profileChanged.handler = s.judgeVersion.handler := by
  simp [State.profileChanged]

/-- A change into a profile state other than VALID, without an authority: the shadow test is clear and P is 0 by
NO_PROFILE (R5, R54, R66). -/
theorem State.profileChanged_noProfile {s : State} (hprofile : s.line.profile ≠ .valid)
    (hauth : s.line.authority = none) :
    s.profileChanged.contact.shadow = false ∧ s.profileChanged.sup.permitted = 0 ∧
      s.profileChanged.sup.limiting = .noProfile := by
  have hline : (s.judgeVersion.flag .lineRecord).line = s.line := by simp
  have htest : (s.judgeVersion.flag .lineRecord).shadowTest = (s.judgeVersion.flag .lineRecord).setShadow false :=
    State.shadowTest_noProfile (by rwa [hline])
  have hkept : ((s.judgeVersion.flag .lineRecord).setShadow false).line = s.line :=
    ((State.setShadow_subdued false _).line (by rwa [hline])).trans hline
  have hshadow : ((s.judgeVersion.flag .lineRecord).setShadow false).contact.shadow = false :=
    State.setShadow_shadow false _
  unfold State.profileChanged
  rw [htest, State.evaluate_noProfile (by rwa [hkept]) hshadow]
  exact ⟨by simp, State.evalCore_noProfile (by rwa [hkept]) (by rwa [hkept])⟩

/-- A change of the profile state is flagged to both cabs (R5). -/
theorem State.profileChanged_flagged (s : State) : Flagged s.profileChanged .lineRecord :=
  ((State.shadowTest_subdued _).trans (State.evaluate_subdued _)).flags _ (flagged_flag .lineRecord s.judgeVersion)

/-! ## The entry into CONFIG -/

/-- The modem outputs follow the car mode and leave it (R191). -/
theorem State.modemFor_mode (m : CarMode) (s : State) : (s.modemFor m).mode.mode = s.mode.mode := by
  have hon : ∀ t : State, t.powerOn.mode.mode = t.mode.mode := fun t => by
    unfold State.powerOn
    split <;> simp
  have hkey : ∀ t : State, t.keyOn.mode.mode = t.mode.mode := fun t => by
    unfold State.keyOn
    split <;> simp
  have hoff : ∀ t : State, t.keyOff.mode.mode = t.mode.mode := fun t => by
    unfold State.keyOff
    split <;> simp
  cases m <;> simp only [State.modemFor, hon, hkey, hoff]

/-- The change of mode with both spring brakes commanded to apply, before the modem outputs follow (R94, R95). -/
def State.configBrakes (s : State) : State :=
  (((s.withMode (ModeCtl.timersFor .config { s.mode with mode := .config })).flag .mode).applyCmd .rack).applyCmd .hold

/-- From READY the entry into CONFIG applies both spring brakes, then the modem outputs and the rollaway watch follow
(R191). -/
theorem State.changeMode_config {s : State} (h : s.mode.mode = .ready) :
    s.changeMode .config = (s.configBrakes.modemFor .config).syncRollaway := by
  simp [State.changeMode, State.enterMode, State.configBrakes, h, CarMode.running]

/-- In CONFIG a change to CONFIG is none. -/
theorem State.changeMode_config_self {s : State} (h : s.mode.mode = .config) : s.changeMode .config = s := by
  simp [State.changeMode, State.enterMode, State.releaseRack, h, CarMode.running]

/-- Both valves are de-energized and MODE is flagged on the entry into CONFIG (R94, R95, R187). -/
theorem State.configBrakes_effect (s : State) :
    (∀ b, (s.configBrakes.brk.get b).state.energized = false) ∧ Flagged s.configBrakes .mode := by
  refine ⟨fun b => ?_, ?_⟩
  · cases b
    case rack => exact (State.applyCmd_subdued .hold _).valves .rack (State.applyCmd_energized .rack _)
    case hold => exact State.applyCmd_energized .hold _
  · exact ((State.applyCmd_subdued .rack _).trans (State.applyCmd_subdued .hold _)).flags _ (flagged_flag .mode _)

/-- An entry into CONFIG from READY: the doors stay, both valves are de-energized and MODE is flagged (R94, R95,
R191). -/
theorem State.changeMode_config_effect {s : State} (h : s.mode.mode = .ready) :
    (s.changeMode .config).mode.mode = .config ∧ (s.changeMode .config).doors = s.doors ∧
      (∀ b, ((s.changeMode .config).brk.get b).state.energized = false) ∧ Flagged (s.changeMode .config) .mode := by
  obtain ⟨hvalves, hflag⟩ := s.configBrakes_effect
  rw [State.changeMode_config h]
  refine ⟨?_, ?_, fun b => ?_, hflag.congr (by simp)⟩
  · simp [State.modemFor_mode, State.configBrakes, ModeCtl.timersFor]
  · simp [State.configBrakes]
  · simpa using hvalves b

/-- The modes a load begins from end in CONFIG with the doors as they were (R6). -/
theorem State.changeMode_config_of_mayBegin {s : State} (h : s.mode.mode = .ready ∨ s.mode.mode = .config) :
    (s.changeMode .config).mode.mode = .config ∧ (s.changeMode .config).doors = s.doors := by
  rcases h with h | h
  · obtain ⟨hmode, hdoors, -, -⟩ := State.changeMode_config_effect h
    exact ⟨hmode, hdoors⟩
  · rw [State.changeMode_config_self h]
    exact ⟨h, rfl⟩

/-! ## PROFILE_BEGIN -/

/-- The line record as a load begins: nothing held, the requester the loader (R6). -/
def LineStore.begun (c : Cab) : LineStore :=
  { profile := .loading, loader := some c, segCount := 0, mkrCount := 0, lineEnd := 0, version := 0, storeCheck := 0#16,
    segments := [], markers := [], verifyTimer := none, restrictions := [], overflow := none, authority := none }

/-- A load begins with the line record emptied, then the mode and the readers of the profile follow (R6). -/
theorem State.beginLoad_eq (c : Cab) (s : State) :
    s.beginLoad c = ((s.withLine (LineStore.begun c)).changeMode .config).profileChanged := rfl

/-- What a load's beginning leaves alone (R6). -/
theorem State.beginLoad_frame (c : Cab) (s : State) :
    SameSetup s (s.beginLoad c) ∧ (s.beginLoad c).refusal = s.refusal ∧ (s.beginLoad c).pos = s.pos ∧
      (s.beginLoad c).token = s.token ∧ (s.beginLoad c).lineCode = s.lineCode ∧ (s.beginLoad c).mon = s.mon ∧
      (s.beginLoad c).upper = s.upper ∧ (s.beginLoad c).lower = s.lower := by
  simp [State.beginLoad_eq, SameSetup]

/-- What a load's beginning makes of the line record, supervision, the shadow test, the VERSION indication and the flags
(R5, R6, R54, R66, R169). -/
theorem State.beginLoad_effect (c : Cab) (s : State) :
    (s.beginLoad c).line = LineStore.begun c ∧ (s.beginLoad c).sup.permitted = 0 ∧
      (s.beginLoad c).sup.limiting = .noProfile ∧ (s.beginLoad c).contact.shadow = false ∧
      ((s.beginLoad c).handler.versionInd = true ↔ ∃ v, s.handler.lineVersion = some v ∧ v ≠ 0) ∧
      Flagged (s.beginLoad c) .lineRecord := by
  have hline : ((s.withLine (LineStore.begun c)).changeMode .config).line = LineStore.begun c := by simp
  have hversion : (LineStore.begun c).committedVersion = 0 := rfl
  have hauth : ((s.withLine (LineStore.begun c)).changeMode .config).line.authority = none := by rw [hline]; rfl
  obtain ⟨hshadow, hpermitted, hlimiting⟩ :=
    State.profileChanged_noProfile (by rw [hline]; exact ProfileState.noConfusion) hauth
  rw [State.beginLoad_eq]
  refine ⟨?_, hpermitted, hlimiting, hshadow, ?_, State.profileChanged_flagged _⟩
  · rw [(State.profileChanged_subdued _).line hauth, hline]
  · rw [State.profileChanged_handler, State.judgeVersion_versionInd, hline, hversion]
    simp

/-- A load's beginning enters CONFIG with the doors as they were (R6). -/
theorem State.beginLoad_mode (c : Cab) {s : State} (h : s.mode.mode = .ready ∨ s.mode.mode = .config) :
    (s.beginLoad c).mode.mode = .config ∧ (s.beginLoad c).doors = s.doors := by
  have hmode := State.changeMode_config_of_mayBegin (s := s.withLine (LineStore.begun c)) h
  simpa [State.beginLoad_eq] using hmode

/-- A load begun in READY flags MODE and leaves both valves de-energized (R94, R95, R187). -/
theorem State.beginLoad_fromReady (c : Cab) {s : State} (h : s.mode.mode = .ready) :
    Flagged (s.beginLoad c) .mode ∧ (s.beginLoad c).brk.rack.state.energized = false ∧
      (s.beginLoad c).brk.hold.state.energized = false := by
  obtain ⟨-, -, hvalves, hflag⟩ := State.changeMode_config_effect (s := s.withLine (LineStore.begun c)) h
  have hsub := State.profileChanged_subdued ((s.withLine (LineStore.begun c)).changeMode .config)
  exact ⟨hsub.flags _ hflag, hsub.valves .rack (hvalves .rack), hsub.valves .hold (hvalves .hold)⟩

/-- The state conditions of PROFILE_BEGIN (R6). -/
theorem State.mayBegin_iff (s : State) :
    s.mayBegin = true ↔ s.pos.standstill = true ∧ s.token.driving = none ∧
      (s.mode.mode = .ready ∨ s.mode.mode = .config) := by
  simp [State.mayBegin, and_assoc]

/-- The state conditions are not touched by the message being heard. -/
@[simp] theorem State.mayBegin_heard (c : Cab) (s : State) : (s.heard c).mayBegin = s.mayBegin := by
  simp [State.mayBegin]

/-- An admitted PROFILE_BEGIN that is neither refused BUSY nor STATE begins the load and is answered OK (R6). -/
theorem exec_profileBegin_taken {s : State} {m : CabMsg} (h : s.admits 16#8 m = true)
    (hfree : ¬ (s.line.profile = .loading ∧ s.line.loader ≠ some m.cab)) (hmay : s.mayBegin = true) :
    exec (.profileBegin m) s =
      .next (((s.heard m.cab).beginLoad m.cab).withPort m.cab (s.answered 16#8 m .ok [])) := by
  obtain ⟨-, -, -, -, -, -, hupper, hlower⟩ := (s.heard m.cab).beginLoad_frame m.cab
  exact congrArg Host.Outcome.next (State.cabCommand_accepted h (by simp [ownProfileBegin, hfree, hmay])
    ((State.port_congr hupper hlower m.cab).trans (State.heard_port_same m.cab s)))

/-- In the other cab's load PROFILE_BEGIN is refused BUSY (R6). -/
theorem exec_profileBegin_busy {s : State} {m : CabMsg} (h : s.admits 16#8 m = true)
    (hbusy : s.line.profile = .loading ∧ s.line.loader ≠ some m.cab) :
    exec (.profileBegin m) s = .next (s.refused 16#8 m .busy) :=
  congrArg Host.Outcome.next (State.cabCommand_refused h (by simp [ownProfileBegin, hbusy]) rfl)

/-- Where its state conditions fail PROFILE_BEGIN is refused STATE (R6). -/
theorem exec_profileBegin_stateFails {s : State} {m : CabMsg} (h : s.admits 16#8 m = true)
    (hfree : ¬ (s.line.profile = .loading ∧ s.line.loader ≠ some m.cab)) (hmay : ¬ s.mayBegin = true) :
    exec (.profileBegin m) s = .next (s.refused 16#8 m .stateFails) :=
  congrArg Host.Outcome.next (State.cabCommand_refused h (by simp [ownProfileBegin, hfree, hmay]) rfl)

/-- Settles O19: BUSY before STATE, and the load begun is the line record emptied, CONFIG entered, and the profile's
readers run without a committed profile. -/
theorem profileBeginEmptiesTheLineRecord : Obligations.ProfileBeginEmptiesTheLineRecord := by
  unfold Obligations.ProfileBeginEmptiesTheLineRecord
  intro s m h
  split
  case isTrue hbusy => exact exec_profileBegin_busy h hbusy
  case isFalse hfree =>
    split
    case isFalse hstate => exact exec_profileBegin_stateFails h hfree (mt (State.mayBegin_iff s).1 hstate)
    case isTrue hstate =>
      have hmode : (s.heard m.cab).mode = s.mode := by simp
      obtain ⟨hsetup, hrefusal, hpos, htoken, hcode, hmon, hupper, hlower⟩ := (s.heard m.cab).beginLoad_frame m.cab
      obtain ⟨hline, hpermitted, hlimiting, hshadow, hversion, hflag⟩ := (s.heard m.cab).beginLoad_effect m.cab
      obtain ⟨hconfig, hdoors⟩ :=
        State.beginLoad_mode m.cab (s := s.heard m.cab) (by rw [hmode]; exact hstate.2.2)
      have hother := (State.port_congr hupper hlower (otherCab m.cab)).trans (State.heard_port_other m.cab s)
      refine ⟨_, exec_profileBegin_taken h hfree ((State.mayBegin_iff s).2 hstate), answers_withPort hother, ?_⟩
      simp only [SameSetup, State.heard_frame] at hsetup hrefusal hpos htoken hcode hmon hversion hdoors
      simp only [State.withPort_frame, SameSetup]
      refine ⟨hline, hconfig, hpermitted, hlimiting, hshadow, hversion, hflag.congr (by simp), fun hready => ?_,
        hsetup, hrefusal, hpos, htoken, hdoors, hcode, hmon⟩
      obtain ⟨hmodeFlag, hvalves⟩ :=
        State.beginLoad_fromReady m.cab (s := s.heard m.cab) (by rw [hmode]; exact hready)
      exact ⟨hmodeFlag.congr (by simp), hvalves⟩

end Sys2Proof.Machine

/-! SUPPORT. The declaration of a position (R32): the withdrawal of both sides (R113, R114), supervision of a car that
builds no targets and holds no authority, and what the declaration makes of the car. -/

namespace Sys2Proof.Machine

/-! ## The withdrawal of a side -/

theorem State.withDoors_subdued (x : Doors) (s : State) : Subdued s (s.withDoors x) :=
  .of_eq rfl (fun _ => rfl) rfl

theorem State.setLeaf_subdued (i : LeafId) (x : LeafState) (r : Nat) (s : State) : Subdued s (s.setLeaf i x r) := by
  have hflag : ∀ d : Doors, Subdued s ((s.withDoors d).flag .doors) := fun d =>
    (State.withDoors_subdued d s).trans (State.flag_subdued .doors _)
  unfold State.setLeaf
  dsimp only
  split
  · exact hflag _
  · exact (hflag _).trans (State.applyCmd_subdued .hold _)

theorem State.lockLoss_subdued (s : State) : Subdued s s.lockLoss := by
  unfold State.lockLoss
  split
  · exact .refl s
  · exact State.setTerms_subdued _ s

theorem State.settleLeaf_subdued (i : LeafId) (n : Nat) (s : State) : Subdued s (s.settleLeaf i n) := by
  induction n generalizing s with
  | zero => exact .refl s
  | succ n ih =>
    unfold State.settleLeaf
    dsimp only
    split
    · exact .refl s
    · next x r _ =>
      have hleaf := State.setLeaf_subdued i x r s
      split
      · exact hleaf.trans ((State.lockLoss_subdued _).trans (ih _))
      · exact hleaf.trans (ih _)

theorem State.withdrawLeaf_subdued (i : LeafId) (s : State) : Subdued s (s.withdrawLeaf i) := by
  have henter : Subdued s (s.enterLeaf i .closing 0) :=
    (State.setLeaf_subdued i .closing 0 s).trans (State.settleLeaf_subdued i 10 _)
  unfold State.withdrawLeaf
  split
  case h_1 | h_2 | h_3 | h_4 => exact henter
  all_goals exact .refl s

theorem State.withdrawLeaves_subdued (d : SideId) (s : State) : Subdued s (s.withdrawLeaves d) := by
  cases d <;> exact (State.withdrawLeaf_subdued _ s).trans (State.withdrawLeaf_subdued _ _)

theorem State.setSide_locked_subdued (d : SideId) (s : State) : Subdued s (s.setSide d .locked) := by
  unfold State.setSide
  split
  · exact .refl s
  · exact (State.withDoors_subdued _ s).trans (State.flag_subdued .doors _)

theorem State.withdrawSide_subdued (d : SideId) (s : State) : Subdued s (s.withdrawSide d) := by
  unfold State.withdrawSide
  split
  · exact .refl s
  · exact (State.setSide_locked_subdued d s).trans (State.withdrawLeaves_subdued d _)

/-- A withdrawal takes no flag away, energizes no valve and leaves the line record (R113, R114). -/
theorem State.withdrawAll_subdued (s : State) : Subdued s s.withdrawAll :=
  (State.withdrawSide_subdued .a s).trans (State.withdrawSide_subdued .b _)

@[simp] theorem Doors.putLeaf_side (d : Doors) (i : LeafId) (x : Leaf) (j : SideId) :
    (d.putLeaf i x).side j = d.side j := by
  cases i <;> cases j <;> rfl

@[simp] theorem Doors.putSide_side_same (d : Doors) (j : SideId) (x : SideState) : (d.putSide j x).side j = x := by
  cases j <;> rfl

theorem Doors.putSide_side_other (d : Doors) {j k : SideId} (x : SideState) (h : k ≠ j) :
    (d.putSide j x).side k = d.side k := by
  cases j <;> cases k
  case a.a | b.b => exact absurd rfl h
  all_goals rfl

@[simp] theorem State.setLeaf_side (i : LeafId) (x : LeafState) (r : Nat) (s : State) (j : SideId) :
    (s.setLeaf i x r).doors.side j = s.doors.side j := by
  unfold State.setLeaf
  dsimp only
  split <;> simp

@[simp] theorem State.settleLeaf_side (i : LeafId) (n : Nat) (s : State) (j : SideId) :
    (s.settleLeaf i n).doors.side j = s.doors.side j := by
  induction n generalizing s with
  | zero => rfl
  | succ n ih =>
    unfold State.settleLeaf
    dsimp only
    split
    · rfl
    · rw [ih]
      split <;> simp

@[simp] theorem State.withdrawLeaf_side (i : LeafId) (s : State) (j : SideId) :
    (s.withdrawLeaf i).doors.side j = s.doors.side j := by
  unfold State.withdrawLeaf
  split <;> simp [State.enterLeaf]

/-- The leaves of a side close without a change of either side's state (R113). -/
@[simp] theorem State.withdrawLeaves_side (d : SideId) (s : State) (j : SideId) :
    (s.withdrawLeaves d).doors.side j = s.doors.side j := by
  cases d <;> simp [State.withdrawLeaves, SideId.leaves]

@[simp] theorem State.setSide_locked_side_same (d : SideId) (s : State) :
    (s.setSide d .locked).doors.side d = .locked := by
  unfold State.setSide
  split
  · assumption
  · simp

theorem State.setSide_locked_side_other {d j : SideId} (h : j ≠ d) (s : State) :
    (s.setSide d .locked).doors.side j = s.doors.side j := by
  unfold State.setSide
  split
  · rfl
  · simp [Doors.putSide_side_other _ _ h]

/-- A withdrawn side is LOCKED (R114). -/
@[simp] theorem State.withdrawSide_side_same (d : SideId) (s : State) :
    (s.withdrawSide d).doors.side d = .locked := by
  unfold State.withdrawSide
  split
  · assumption
  · simp

/-- The withdrawal of a side leaves the state of the other (R114). -/
theorem State.withdrawSide_side_other {d j : SideId} (h : j ≠ d) (s : State) :
    (s.withdrawSide d).doors.side j = s.doors.side j := by
  unfold State.withdrawSide
  split
  · rfl
  · simp [State.setSide_locked_side_other h]

/-- Both sides LOCKED is no side released (R109). -/
theorem Doors.sideReleased_eq_false_iff (d : Doors) : d.sideReleased = false ↔ ∀ j, d.side j = .locked := by
  have hlocked : ∀ x : SideState, ¬ x = .released ↔ x = .locked := fun x => by cases x <;> decide
  constructor
  · intro h j
    simp only [Doors.sideReleased, Bool.or_eq_false_iff, decide_eq_false_iff_not, hlocked] at h
    obtain ⟨ha, hb⟩ := h
    cases j
    case a => exact ha
    case b => exact hb
  · intro h
    simp only [Doors.sideReleased, Bool.or_eq_false_iff, decide_eq_false_iff_not, hlocked]
    exact ⟨h .a, h .b⟩

/-- After the withdrawal of both sides neither is released (R114). -/
@[simp] theorem State.withdrawAll_sideReleased (s : State) : s.withdrawAll.doors.sideReleased = false := by
  rw [Doors.sideReleased_eq_false_iff]
  intro j
  cases j
  case a => exact (State.withdrawSide_side_other (by decide) _).trans (State.withdrawSide_side_same .a s)
  case b => exact State.withdrawSide_side_same .b _

/-! ## Supervision that builds no targets -/

/-- No authority is held and confidence builds no targets (R68, R80). -/
def State.Targetless (s : State) : Prop := s.line.authority = none ∧ s.pos.confidence.buildsTargets = false

/-- Supervision shows no target, and the mark of a passed EOA is clear. -/
def Supervision.Clear (x : Supervision) : Prop := x.targets = [] ∧ x.passedMark = false

/-- What keeps the line record of a car without an authority, and its position, keeps it without targets. -/
theorem State.Targetless.of_subdued {s t : State} (h : s.Targetless) (hsub : Subdued s t) (hpos : t.pos = s.pos) :
    t.Targetless :=
  ⟨(congrArg LineStore.authority (hsub.line h.1)).trans h.1, by rw [hpos]; exact h.2⟩

/-- Under a confidence that builds no targets the target list is empty, whatever the direction of travel (R68). -/
theorem State.Targetless.targetsNow {s : State} (h : s.Targetless) : s.targetsNow = [] := by
  obtain ⟨-, hbuilds⟩ := h
  have hlist : ∀ d, s.targetList d = [] := fun d => by simp [State.targetList, hbuilds]
  unfold State.targetsNow
  split
  · split <;> simp [hlist]
  · rfl

/-- An evaluation of a car without targets and authority finds none and clears the mark (R68, R80). -/
theorem State.Targetless.evalCore {s : State} (h : s.Targetless) : s.evalCore.sup.Clear := by
  have hauth : s.measureLimits.line.authority = none := by simpa using h.1
  have hmeasured : s.measureLimits.sup.targets = [] := h.targetsNow
  simp [Supervision.Clear, State.evalCore, State.setSupState_sup, State.eoaTest_noAuthority hauth, hmeasured]

/-- A change of the contact state shows no target where none was shown: it ends in an evaluation (R57). -/
theorem State.Targetless.setContactState {s : State} (h : s.Targetless) (hclear : s.sup.Clear) (x : ContactState) :
    (s.setContactState x).sup.Clear := by
  unfold State.setContactState
  split
  · exact hclear
  · dsimp only
    refine State.Targetless.evalCore ?_
    have hvoid : ∀ t : State, t.Targetless → (if x = .void then t.voidAuthority else t).Targetless := fun t ht => by
      split
      · exact ht.of_subdued (State.voidAuthority_subdued t) (by simp)
      · exact ht
    have hflag : ((s.withContact { s.contact with state := x }).flag .radio).Targetless :=
      h.of_subdued ((State.withContact_subdued _ s).trans (State.flag_subdued .radio _)) (by simp)
    exact (hvoid _ hflag).of_subdued (State.setTerms_subdued _ _) (by simp)

/-- A shadow test taken shows no target where none was shown (R54, R56). -/
theorem State.Targetless.setShadow {s : State} (h : s.Targetless) (hclear : s.sup.Clear) (x : Bool) :
    (s.setShadow x).sup.Clear := by
  have hjudge : ∀ c : Contact, (s.withContact c).judgeContact.sup.Clear := fun c => by
    unfold State.judgeContact
    split
    · exact hclear
    · exact State.Targetless.setContactState (s := s.withContact c) h hclear _
  unfold State.setShadow
  split
  · exact hclear
  · exact hjudge _

/-- The shadow test made again shows no target where none was shown (R54). -/
theorem State.Targetless.shadowTest {s : State} (h : s.Targetless) (hclear : s.sup.Clear) :
    s.shadowTest.sup.Clear := by
  unfold State.shadowTest
  split
  · split
    · exact h.setShadow hclear _
    · exact hclear
  · exact h.setShadow hclear false

/-- An evaluation with the shadow test it may call for shows no target (R54, R60, R68). -/
theorem State.Targetless.evaluate {s : State} (h : s.Targetless) : s.evaluate.sup.Clear := by
  unfold State.evaluate
  dsimp only
  split
  · exact h.evalCore
  · exact (h.of_subdued (State.evalCore_subdued s) (by simp)).shadowTest h.evalCore

/-! ## The declaration -/

/-- The authority is removed, a change of the line record where one was held (R52). -/
def State.dropAuthority (s : State) : State :=
  if s.line.authority.isSome then (s.withLine { s.line with authority := none }).flag .lineRecord else s

/-- The position unit as it declares a position (R32). -/
def Position.declaredAt (x : Position) (p : Nat) : Position :=
  { x with count := p, confidence := .declared, distance := 0, correction := 0 }

/-- The declaration before supervision reads it: the position, the authority and both sides (R32, R52, R114). -/
def State.declareOnly (p : Nat) (s : State) : State :=
  if s.pos.confidence = .confirmed then (s.withPos (s.pos.declaredAt p)).dropAuthority.withdrawAll
  else (s.withPos (s.pos.declaredAt p)).dropAuthority

/-- Supervision evaluates the declared position, then the shadow test is made (R32; log 42). -/
theorem State.declarePosition_eq (p : Nat) (s : State) :
    s.declarePosition p = (s.declareOnly p).evaluate.shadowTest := rfl

@[simp] theorem State.dropAuthority_frame (s : State) :
    s.dropAuthority.params = s.params ∧ s.dropAuthority.gates = s.gates ∧
      s.dropAuthority.token = s.token ∧ s.dropAuthority.refusal = s.refusal ∧
      s.dropAuthority.pos = s.pos ∧ s.dropAuthority.contact = s.contact ∧
      s.dropAuthority.sup = s.sup ∧ s.dropAuthority.brk = s.brk ∧
      s.dropAuthority.valves = s.valves ∧ s.dropAuthority.doors = s.doors ∧
      s.dropAuthority.upper = s.upper ∧ s.dropAuthority.lower = s.lower ∧
      s.dropAuthority.rx = s.rx ∧ s.dropAuthority.lineCode = s.lineCode ∧
      s.dropAuthority.tx = s.tx ∧ s.dropAuthority.handler = s.handler ∧
      s.dropAuthority.reports = s.reports ∧ s.dropAuthority.mon = s.mon ∧
      s.dropAuthority.mode = s.mode ∧ s.dropAuthority.pending = s.pending := by
  unfold State.dropAuthority
  split <;> simp

/-- Of the line record only the authority goes (R52). -/
@[simp] theorem State.dropAuthority_line (s : State) :
    s.dropAuthority.line = { s.line with authority := none } := by
  unfold State.dropAuthority
  split
  · simp
  · next h => rw [← Option.not_isSome_iff_eq_none.1 h]

/-- An authority removed is flagged to both cabs (R47, R52). -/
theorem State.dropAuthority_flagged {s : State} (h : s.line.authority.isSome = true) :
    Flagged s.dropAuthority .lineRecord := by
  unfold State.dropAuthority
  rw [if_pos h]
  exact flagged_flag .lineRecord _

@[simp] theorem State.declareOnly_frame (p : Nat) (s : State) :
    (s.declareOnly p).params = s.params ∧ (s.declareOnly p).gates = s.gates ∧
      (s.declareOnly p).token = s.token ∧ (s.declareOnly p).refusal = s.refusal ∧
      (s.declareOnly p).line = { s.line with authority := none } ∧
      (s.declareOnly p).pos = s.pos.declaredAt p ∧
      (s.declareOnly p).upper = s.upper ∧ (s.declareOnly p).lower = s.lower ∧
      (s.declareOnly p).rx = s.rx ∧ (s.declareOnly p).lineCode = s.lineCode ∧
      (s.declareOnly p).tx = s.tx ∧ (s.declareOnly p).handler = s.handler ∧
      (s.declareOnly p).mon = s.mon ∧ (s.declareOnly p).mode = s.mode ∧
      (s.declareOnly p).pending = s.pending := by
  unfold State.declareOnly
  split <;> simp

/-- A declared position builds no targets, and no authority is left (R52, R68). -/
theorem State.declareOnly_targetless (p : Nat) (s : State) : (s.declareOnly p).Targetless := by
  simp [State.Targetless, Position.declaredAt, Confidence.buildsTargets]

/-- Reading a declaration, supervision takes no flag away and leaves the line record without its authority (R52). -/
theorem State.declarePosition_subdued (p : Nat) (s : State) : Subdued (s.declareOnly p) (s.declarePosition p) :=
  (State.evaluate_subdued _).trans (State.shadowTest_subdued _)

/-- What a declaration leaves alone (R32). -/
theorem State.declarePosition_frame (p : Nat) (s : State) :
    SameSetup s (s.declarePosition p) ∧ SameRadio s (s.declarePosition p) ∧
      (s.declarePosition p).token = s.token ∧ (s.declarePosition p).refusal = s.refusal ∧
      (s.declarePosition p).handler = s.handler ∧ (s.declarePosition p).mon = s.mon ∧
      (s.declarePosition p).mode = s.mode ∧ (s.declarePosition p).upper = s.upper ∧
      (s.declarePosition p).lower = s.lower := by
  simp [State.declarePosition_eq, SameSetup, SameRadio]

/-- What a declaration makes of the position unit and the line record (R32, R52). -/
theorem State.declarePosition_record (p : Nat) (s : State) :
    (s.declarePosition p).pos = s.pos.declaredAt p ∧
      (s.declarePosition p).line = { s.line with authority := none } ∧
      (s.line.authority.isSome = true → Flagged (s.declarePosition p) .lineRecord) := by
  have hsub := State.declarePosition_subdued p s
  refine ⟨by simp [State.declarePosition_eq], ?_, fun h => hsub.flags _ ?_⟩
  · rw [hsub.line (State.declareOnly_targetless p s).1]
    simp
  · have hdrop : Flagged (s.withPos (s.pos.declaredAt p)).dropAuthority .lineRecord := State.dropAuthority_flagged h
    unfold State.declareOnly
    split
    · exact (State.withdrawAll_subdued _).flags _ hdrop
    · exact hdrop

/-- A declaration that ends CONFIRMED leaves no side released (R114). -/
theorem State.declarePosition_sideReleased (p : Nat) {s : State} (h : s.pos.confidence = .confirmed) :
    (s.declarePosition p).doors.sideReleased = false := by
  simp [State.declarePosition_eq, State.declareOnly, h]

/-- After a declaration supervision shows no target (R68, R80). -/
theorem State.declarePosition_clear (p : Nat) (s : State) : (s.declarePosition p).sup.Clear := by
  have h := State.declareOnly_targetless p s
  exact (h.of_subdued (State.evaluate_subdued _) (by simp)).shadowTest h.evaluate

/-! ## SET_POSITION -/

/-- A position of three octets is read as carried, whatever octets follow (R32, R199). -/
theorem readPosition_carried {p : Nat} (rest : List Octet) (h : p ≤ 16777215) :
    readPosition (oct3 p ++ rest) = some p := by
  simp [readPosition, oct3, num3_oct3 (n := p) (by omega)]

/-- On a moving car or without a committed profile SET_POSITION is refused STATE (R32). -/
theorem exec_setPosition_stateFails {s : State} {m : CabMsg} (h : s.admits 20#8 m = true)
    (hstate : s.pos.standstill = false ∨ s.line.profile ≠ .valid) :
    exec (.setPosition m) s = .next (s.refused 20#8 m .stateFails) :=
  congrArg Host.Outcome.next (State.cabCommand_refused h (by simp [ownSetPosition, hstate]) rfl)

/-- A position below the car length or above the line end is refused RANGE (R32). -/
theorem exec_setPosition_range {s : State} {m : CabMsg} {p : Nat} (h : s.admits 20#8 m = true)
    (hstate : ¬ (s.pos.standstill = false ∨ s.line.profile ≠ .valid)) (hread : readPosition m.payload = some p)
    (hrange : p < s.params.carLength ∨ s.line.lineEnd < p) :
    exec (.setPosition m) s = .next (s.refused 20#8 m .range) := by
  have hout : ¬ (s.params.carLength ≤ p ∧ p ≤ s.line.lineEnd) := by omega
  exact congrArg Host.Outcome.next (State.cabCommand_refused h (by simp [ownSetPosition, hstate, hread, hout]) rfl)

/-- A position on the line is declared and answered OK (R32). -/
theorem exec_setPosition_taken {s : State} {m : CabMsg} {p : Nat} (h : s.admits 20#8 m = true)
    (hstate : ¬ (s.pos.standstill = false ∨ s.line.profile ≠ .valid)) (hread : readPosition m.payload = some p)
    (hrange : ¬ (p < s.params.carLength ∨ s.line.lineEnd < p)) :
    exec (.setPosition m) s =
      .next (((s.heard m.cab).declarePosition p).withPort m.cab (s.answered 20#8 m .ok [])) := by
  have hin : s.params.carLength ≤ p ∧ p ≤ s.line.lineEnd := by omega
  obtain ⟨-, -, -, -, -, -, -, hupper, hlower⟩ := (s.heard m.cab).declarePosition_frame p
  exact congrArg Host.Outcome.next (State.cabCommand_accepted h (by simp [ownSetPosition, hstate, hread, hin])
    ((State.port_congr hupper hlower m.cab).trans (State.heard_port_same m.cab s)))

/-- Settles O23: STATE before RANGE, and the position declared is one no target is built from, the authority gone and
the sides withdrawn where CONFIRMED was left. -/
theorem setPositionDeclaresTheCount : Obligations.SetPositionDeclaresTheCount := by
  unfold Obligations.SetPositionDeclaresTheCount
  intro s m p rest h hp hpayload
  have hread : readPosition m.payload = some p := hpayload ▸ readPosition_carried rest hp
  split
  case isTrue hstate => exact exec_setPosition_stateFails h hstate
  case isFalse hstate =>
    split
    case isTrue hrange => exact exec_setPosition_range h hstate hread hrange
    case isFalse hrange =>
      obtain ⟨hsetup, hradio, htoken, hrefusal, hhandler, hmon, hmode, hupper, hlower⟩ :=
        (s.heard m.cab).declarePosition_frame p
      obtain ⟨hpos, hline, hflag⟩ := (s.heard m.cab).declarePosition_record p
      obtain ⟨htargets, hmark⟩ := (s.heard m.cab).declarePosition_clear p
      have hdoors := State.declarePosition_sideReleased p (s := s.heard m.cab)
      have hother := (State.port_congr hupper hlower (otherCab m.cab)).trans (State.heard_port_other m.cab s)
      refine ⟨_, exec_setPosition_taken h hstate hread hrange, answers_withPort hother, ?_⟩
      simp only [SameSetup, SameRadio, State.heard_frame] at hsetup hradio htoken hrefusal hhandler hmon hmode
      simp only [State.heard_frame] at hpos hline hflag hdoors
      simp only [State.withPort_frame, SameSetup, SameRadio]
      exact ⟨hpos, hline, fun ha => (hflag ha).congr (by simp), hdoors, htargets, hmark, hsetup, hradio, htoken,
        hrefusal, hhandler, hmon, hmode⟩

end Sys2Proof.Machine

/-! SUPPORT. The acknowledgement of the emergency causes (R101 to R103): a withdrawal of the doors, which the rack brake's
release may make (R114), keeps the cause set, its first-cause record, the EMERGENCY term and the rack brake. -/

namespace Sys2Proof.Machine

/-! ## Answers with a payload -/

/-- An owner that accepts with a payload, leaving its own port as it was heard, leaves its state with the answer OK and
that payload in the port (R132, R183). -/
theorem State.cabCommand_acceptedWith {s t : State} {kind : Octet} {m : CabMsg} {own : State → Reply}
    {body : State → List Octet} (h : s.admits kind m = true) (hown : own (s.heard m.cab) = acceptWith body t)
    (hport : t.port m.cab = (s.port m.cab).heard) :
    s.cabCommand m kind own = t.withPort m.cab (s.answered kind m .ok (body t)) := by
  rw [State.cabCommand_reply h hown rfl]
  simp [acceptWith, State.noteResult, ResultCode.accepted, hport, State.answered]

/-- An owner that refuses with a payload leaves the answer with it and the refusal record (R132, R133). -/
theorem State.cabCommand_refusedWith {s : State} {kind : Octet} {m : CabMsg} {own : State → Reply} {code : ResultCode}
    {body : State → List Octet} {payload : List Octet} (h : s.admits kind m = true)
    (hown : own (s.heard m.cab) = { st := s.heard m.cab, code := code, body := body })
    (hcode : code.accepted = false) (hbody : ∀ r, body ((s.heard m.cab).withRefusal r) = payload) :
    s.cabCommand m kind own =
      (s.withRefusal (some { code := code, index := kind.toNat, valley := false })).answer kind m code payload := by
  have hnote : (s.heard m.cab).noteResult code kind (.cab m.cab) =
      (s.heard m.cab).withRefusal (some { code := code, index := kind.toNat, valley := false }) := by
    simp [State.noteResult, hcode, Origin.isValley]
  have hport : ∀ (t : State) (r : Option Refused), (t.withRefusal r).port m.cab = t.port m.cab := fun t r =>
    State.port_congr rfl rfl m.cab
  rw [State.cabCommand_reply h hown hnote]
  simp only [hport, State.heard_port_same, State.answer, State.answered, hbody]
  exact State.withPort_withRefusal_withPort ..

/-! ## The emergency part of the brake unit -/

/-- The cause set, its first-cause record and the EMERGENCY term (R87, R99, R103). -/
def Brakes.emergency (b : Brakes) : CauseSet × Option FirstCause × Nat := (b.causes, b.first, b.terms.emergency)

/-- What a door withdrawal leaves of the brake unit: the rack brake and the emergency part. -/
def Brakes.besideDoors (b : Brakes) : SpringBrake × CauseSet × Option FirstCause × Nat := (b.rack, b.emergency)

/-- A spring brake's movement leaves the emergency part. -/
theorem Brakes.emergency_of_still {b c : Brakes} (h : b.still = c.still) : b.emergency = c.emergency := by
  simp only [Brakes.still, Prod.mk.injEq] at h
  obtain ⟨hterms, hcauses, hfirst, -⟩ := h
  simp [Brakes.emergency, hterms, hcauses, hfirst]

theorem Brakes.besideDoors_eq_iff {b c : Brakes} :
    b.besideDoors = c.besideDoors ↔ b.get .rack = c.get .rack ∧ b.emergency = c.emergency := by
  simp [Brakes.besideDoors, Brakes.get]

/-- The holding brake's apply command leaves the rack brake and the emergency part (R93). -/
@[simp] theorem State.applyCmd_hold_besideDoors (s : State) :
    (s.applyCmd .hold).brk.besideDoors = s.brk.besideDoors :=
  Brakes.besideDoors_eq_iff.2
    ⟨State.applyCmd_other (by decide) s, Brakes.emergency_of_still (State.applyCmd_still .hold s)⟩

/-- Writing demand terms moves no more than the holding brake (R82, R96). -/
@[simp] theorem State.setTerms_rack (t : Terms) (s : State) : (s.setTerms t).brk.rack = s.brk.rack := by
  have hsettled : (s.withBrk { s.brk with terms := t }).settleOutputs.brk.get .rack = s.brk.rack :=
    State.settleOutputs_brake _ .rack
  unfold State.setTerms
  dsimp only
  split
  · exact (State.applyCmd_other (by decide) _).trans hsettled
  · exact hsettled

/-- Written demand terms leave the cause set and its first-cause record (R82). -/
@[simp] theorem State.setTerms_emergency (t : Terms) (s : State) :
    (s.setTerms t).brk.emergency = (s.brk.causes, s.brk.first, t.emergency) := by
  obtain ⟨hterms, hcauses, hfirst, -⟩ := State.setTerms_effect t s
  simp [Brakes.emergency, hterms, hcauses, hfirst]

@[simp] theorem State.setTerms_causes (t : Terms) (s : State) : (s.setTerms t).brk.causes = s.brk.causes :=
  congrArg Prod.fst (State.setTerms_emergency t s)

/-! ## A withdrawal of the doors -/

@[simp] theorem State.setLeaf_besideDoors (i : LeafId) (x : LeafState) (r : Nat) (s : State) :
    (s.setLeaf i x r).brk.besideDoors = s.brk.besideDoors := by
  unfold State.setLeaf
  dsimp only
  split <;> simp

/-- The DOOR term alone is held at a lost lock (R86). -/
@[simp] theorem State.lockLoss_besideDoors (s : State) : s.lockLoss.brk.besideDoors = s.brk.besideDoors := by
  unfold State.lockLoss
  split
  · rfl
  · exact Brakes.besideDoors_eq_iff.2 ⟨State.setTerms_rack _ s, State.setTerms_emergency _ s⟩

@[simp] theorem State.settleLeaf_besideDoors (i : LeafId) (n : Nat) (s : State) :
    (s.settleLeaf i n).brk.besideDoors = s.brk.besideDoors := by
  induction n generalizing s with
  | zero => rfl
  | succ n ih =>
    unfold State.settleLeaf
    dsimp only
    split
    · rfl
    · rw [ih]
      split <;> simp

@[simp] theorem State.withdrawLeaf_besideDoors (i : LeafId) (s : State) :
    (s.withdrawLeaf i).brk.besideDoors = s.brk.besideDoors := by
  unfold State.withdrawLeaf
  split <;> simp [State.enterLeaf]

@[simp] theorem State.withdrawSide_besideDoors (d : SideId) (s : State) :
    (s.withdrawSide d).brk.besideDoors = s.brk.besideDoors := by
  have hleaves : ∀ t : State, (t.withdrawLeaves d).brk.besideDoors = t.brk.besideDoors := fun t => by
    cases d <;> simp [State.withdrawLeaves, SideId.leaves]
  have hside : (s.setSide d .locked).brk = s.brk := by
    unfold State.setSide
    split <;> simp
  unfold State.withdrawSide
  split
  · rfl
  · rw [hleaves, hside]

/-- The withdrawals a departure from APPLIED makes leave the rack brake and the emergency part (R114). -/
@[simp] theorem State.leftApplied_besideDoors (b : BrakeId) (s : State) :
    (s.leftApplied b).brk.besideDoors = s.brk.besideDoors := by
  unfold State.leftApplied State.withdrawAll
  split
  · simp
  · split <;> simp

theorem State.leftApplied_subdued (b : BrakeId) (s : State) : Subdued s (s.leftApplied b) := by
  unfold State.leftApplied
  split
  · exact State.withdrawAll_subdued s
  · split
    · exact State.withdrawAll_subdued s
    · exact .refl s

/-! ## A release command -/

/-- A brake's change of state takes no flag away (R187). -/
theorem Flagged.setBrake {s : State} {k : FlagKind} (h : Flagged s k) (b : BrakeId) (x : BrakeState) :
    Flagged (s.setBrake b x) k := by
  unfold State.setBrake
  split
  · exact h
  · have hflag := Flagged.flag
      (s := s.withBrk (s.brk.put b { s.brk.get b with state := x, timer := brakeTimer x })) h .brakes
    exact ((State.settleOutputs_subdued _).flags k hflag).congr (by simp)

theorem Flagged.releaseValve {s : State} {k : FlagKind} (h : Flagged s k) (b : BrakeId) :
    Flagged (s.releaseValve b) k := by
  unfold State.releaseValve
  split
  case h_1 | h_2 =>
    dsimp only
    split
    · exact (h.setBrake b _).setBrake b _
    · exact h.setBrake b _
  all_goals exact h

/-- A release command energizes the valve of a brake that is not in FAULT (R93). -/
theorem State.releaseValve_energized {b : BrakeId} {s : State} (h : (s.brk.get b).state ≠ .fault) :
    ((s.releaseValve b).brk.get b).state.energized = true := by
  unfold State.releaseValve
  split
  case h_1 | h_2 =>
    dsimp only
    split <;> simp [(State.setBrake_same b _ _).1, BrakeState.energized]
  case h_3 hst | h_4 hst => rw [hst]; rfl
  case h_5 hst => exact absurd hst h

/-- A release command is the valve's part, then the withdrawals where the brake has left APPLIED (R93, R114). -/
theorem State.releaseCmd_cases (b : BrakeId) (s : State) :
    s.releaseCmd b = s.releaseValve b ∨ s.releaseCmd b = (s.releaseValve b).leftApplied b := by
  unfold State.releaseCmd
  dsimp only
  split
  · exact .inr rfl
  · exact .inl rfl

/-- The withdrawals change nothing of what the valve's part makes of the rack brake and the emergency part (R114). -/
theorem State.releaseCmd_besideDoors (b : BrakeId) (s : State) :
    (s.releaseCmd b).brk.besideDoors = (s.releaseValve b).brk.besideDoors := by
  rcases State.releaseCmd_cases b s with h | h <;> simp [h]

theorem Flagged.releaseCmd {s : State} {k : FlagKind} (h : Flagged s k) (b : BrakeId) : Flagged (s.releaseCmd b) k := by
  rcases State.releaseCmd_cases b s with hcmd | hcmd <;> rw [hcmd]
  · exact h.releaseValve b
  · exact (State.leftApplied_subdued b _).flags k (h.releaseValve b)

/-- The rack brake's release leaves the emergency part and takes no flag away; with the set empty in READY or DRIVE it
energizes the valve of a rack brake not in FAULT (R94). -/
theorem State.releaseRack_effect (s : State) :
    s.releaseRack.brk.emergency = s.brk.emergency ∧ (∀ k, Flagged s k → Flagged s.releaseRack k) ∧
      (s.brk.causes.isEmpty = true → s.mode.mode.running = true → s.brk.rack.state ≠ .fault →
        s.releaseRack.brk.rack.state.energized = true) := by
  unfold State.releaseRack
  split
  · obtain ⟨hrack, hemergency⟩ := Brakes.besideDoors_eq_iff.1 (State.releaseCmd_besideDoors .rack s)
    refine ⟨hemergency.trans (Brakes.emergency_of_still (State.releaseValve_still .rack s)),
      fun k hk => hk.releaseCmd .rack, fun _ _ hfault => ?_⟩
    exact (congrArg (·.state.energized) hrack).trans (State.releaseValve_energized (b := .rack) hfault)
  · next hnot => exact ⟨rfl, fun _ hk => hk, fun hempty hrunning => absurd ⟨hempty, hrunning⟩ hnot⟩

/-! ## The causes left -/

/-- Two sets that hold the same kinds are the same set (R99). -/
theorem CauseSet.ext_has {c d : CauseSet} (h : ∀ k, c.has k = d.has k) : c = d := by
  cases c
  cases d
  simp only [CauseSet.mk.injEq]
  exact ⟨h .overspeed, h .eoaPassed, h .valleyStop, h .driveLost, h .cabEmergency, h .rollaway, h .brakeFeedback,
    h .restart, h .sensor, h .lineEnd⟩

/-- A kind is left where it is held and its condition lasts (R101, R102). -/
theorem State.causesLeft_has (s : State) (k : CauseKind) :
    s.causesLeft.has k = (s.brk.causes.has k && s.lasts k) := by
  cases k <;> simp [State.causesLeft, CauseSet.has, State.lasts]

/-- An acknowledgement removes a kind where a held kind's condition has ended (R102). -/
theorem State.causesLeft_ne_iff (s : State) :
    s.causesLeft ≠ s.brk.causes ↔ ∃ k, s.brk.causes.has k = true ∧ s.lasts k = false := by
  constructor
  · intro hremoves
    refine Classical.byContradiction fun hnone => hremoves (CauseSet.ext_has fun k => ?_)
    rw [s.causesLeft_has]
    cases hk : s.brk.causes.has k
    · rfl
    · cases hl : s.lasts k
      · exact absurd ⟨k, hk, hl⟩ hnone
      · rfl
  · rintro ⟨k, hk, hl⟩ heq
    have hleft := s.causesLeft_has k
    rw [heq, hk, hl] at hleft
    exact absurd hleft (by decide)

/-- The kinds with a condition of their own are three (R101). -/
theorem State.lasts_iff (s : State) (k : CauseKind) :
    s.lasts k = true ↔
      ((k = .valleyStop ∧ s.handler.stopEmergency = true) ∨
       (k = .brakeFeedback ∧ (s.brk.rack.state = .fault ∨ s.brk.hold.state = .fault)) ∨
       (k = .cabEmergency ∧ (s.upper.buttonPressed = true ∨ s.lower.buttonPressed = true))) := by
  cases k <;> simp [State.lasts]

/-- A message heard touches no condition of a cause (R101, R184). -/
@[simp] theorem State.lasts_heard (c : Cab) (s : State) (k : CauseKind) : (s.heard c).lasts k = s.lasts k := by
  cases c <;> cases k <;> rfl

/-- READY and DRIVE are the running modes (R94). -/
theorem CarMode.running_iff (x : CarMode) : x.running = true ↔ x = .ready ∨ x = .drive := by
  cases x <;> simp [CarMode.running]

/-! ## The acknowledgement -/

/-- The cause set as the acknowledgement leaves it, with CAUSES flagged (R102). -/
def State.removeEnded (first : Option FirstCause) (s : State) : State :=
  (s.withBrk { s.brk with causes := s.causesLeft, first := first }).flag .causes

@[simp] theorem State.removeEnded_brk (first : Option FirstCause) (s : State) :
    (s.removeEnded first).brk = { s.brk with causes := s.causesLeft, first := first } := by
  simp [State.removeEnded]

@[simp] theorem State.removeEnded_mode (first : Option FirstCause) (s : State) :
    (s.removeEnded first).mode = s.mode := by
  simp [State.removeEnded]

/-- With kinds left the acknowledgement changes the set alone (R102, R103). -/
theorem State.acknowledge_kept {s : State} (h : s.causesLeft.isEmpty = false) :
    s.acknowledge = s.removeEnded s.brk.first := by
  simp [State.acknowledge, State.removeEnded, h]

/-- With an emptied set the first-cause record goes, EMERGENCY returns to 0 and the rack brake is released (R87, R94,
R102, R103). -/
theorem State.acknowledge_emptied {s : State} (h : s.causesLeft.isEmpty = true) :
    s.acknowledge =
      ((s.removeEnded none).setTerms { s.brk.terms with emergency := 0 }).releaseRack := by
  simp [State.acknowledge, State.removeEnded, h]

/-- What an acknowledgement leaves alone (R102). -/
theorem State.acknowledge_frame (s : State) :
    SameSetup s s.acknowledge ∧ SameRadio s s.acknowledge ∧ SameHandler s s.acknowledge ∧
      s.acknowledge.token = s.token ∧ s.acknowledge.refusal = s.refusal ∧ s.acknowledge.pos = s.pos ∧
      s.acknowledge.line = s.line ∧ s.acknowledge.sup = s.sup ∧ s.acknowledge.contact = s.contact ∧
      s.acknowledge.mode = s.mode ∧ s.acknowledge.upper = s.upper ∧ s.acknowledge.lower = s.lower := by
  cases h : s.causesLeft.isEmpty
  · simp [State.acknowledge_kept h, State.removeEnded, SameSetup, SameRadio, SameHandler]
  · simp [State.acknowledge_emptied h, State.removeEnded, SameSetup, SameRadio, SameHandler]

/-- What an acknowledgement that empties the set makes of the brake unit (R87, R94, R102, R103). -/
theorem State.acknowledge_emptied_effect {s : State} (h : s.causesLeft.isEmpty = true) :
    s.acknowledge.brk.emergency = (s.causesLeft, none, 0) ∧ Flagged s.acknowledge .causes ∧
      (s.mode.mode.running = true → s.brk.rack.state ≠ .fault → s.acknowledge.brk.rack.state.energized = true) := by
  obtain ⟨hemergency, hflags, henergized⟩ :=
    State.releaseRack_effect ((s.removeEnded none).setTerms { s.brk.terms with emergency := 0 })
  rw [State.acknowledge_emptied h]
  refine ⟨hemergency.trans (by simp), hflags _ ((State.setTerms_subdued _ _).flags _ (flagged_flag .causes _)),
    fun hrunning hfault => henergized (by simpa using h) (by simpa using hrunning) (by simpa using hfault)⟩

/-- The set an acknowledgement leaves, and its flag, whether or not the set empties (R102). -/
theorem State.acknowledge_causes (s : State) :
    s.acknowledge.brk.causes = s.causesLeft ∧ Flagged s.acknowledge .causes := by
  cases h : s.causesLeft.isEmpty
  · rw [State.acknowledge_kept h]
    exact ⟨by simp, flagged_flag .causes _⟩
  · obtain ⟨hemergency, hflag, -⟩ := State.acknowledge_emptied_effect h
    exact ⟨congrArg Prod.fst hemergency, hflag⟩

/-- The acknowledgement's effect where the set empties, read from the set it leaves (R87, R94, R102, R103). -/
theorem State.acknowledge_of_isEmpty {s : State} (h : s.acknowledge.brk.causes.isEmpty = true) :
    s.acknowledge.brk.first = none ∧ s.acknowledge.brk.terms.emergency = 0 ∧
      ((s.mode.mode = .ready ∨ s.mode.mode = .drive) → s.brk.rack.state ≠ .fault →
        s.acknowledge.brk.rack.state.energized = true) := by
  rw [s.acknowledge_causes.1] at h
  obtain ⟨hemergency, -, henergized⟩ := State.acknowledge_emptied_effect h
  simp only [Brakes.emergency, Prod.mk.injEq] at hemergency
  obtain ⟨-, hfirst, hterm⟩ := hemergency
  exact ⟨hfirst, hterm, fun hmode => henergized ((CarMode.running_iff _).2 hmode)⟩

/-- The acknowledgement's effect where kinds are left, read from the set it leaves (R102, R103). -/
theorem State.acknowledge_of_kept {s : State} (h : s.acknowledge.brk.causes.isEmpty = false) :
    s.acknowledge.brk.first = s.brk.first ∧ s.acknowledge.brk.rack = s.brk.rack ∧
      s.acknowledge.brk.terms = s.brk.terms := by
  rw [s.acknowledge_causes.1] at h
  simp [State.acknowledge_kept h]

/-! ## EMERGENCY_ACK -/

/-- At standstill the owner accepts where a kind is removed (R102). -/
theorem ownEmergencyAck_taken {s : State} (hstill : s.pos.standstill = true)
    (hremoves : s.causesLeft ≠ s.brk.causes) :
    ownEmergencyAck s = acceptWith (fun t => t.brk.causes.octets) s.acknowledge :=
  if_pos ⟨hstill, hremoves⟩

/-- On a moving car, or where no kind is removed, the owner refuses with the set (R102). -/
theorem ownEmergencyAck_stateFails {s : State}
    (h : ¬ (s.pos.standstill = true ∧ s.causesLeft ≠ s.brk.causes)) :
    ownEmergencyAck s = { st := s, code := .stateFails, body := fun t => t.brk.causes.octets } :=
  if_neg h

/-- At standstill, with a held kind whose condition has ended, EMERGENCY_ACK is answered OK with the set it leaves
(R102). -/
theorem exec_emergencyAck_taken {s : State} {m : CabMsg} (h : s.admits 10#8 m = true)
    (hstill : s.pos.standstill = true) (hended : ∃ k, s.brk.causes.has k = true ∧ s.lasts k = false) :
    exec (.emergencyAck m) s =
      .next ((s.heard m.cab).acknowledge.withPort m.cab
        (s.answered 10#8 m .ok (s.heard m.cab).acknowledge.brk.causes.octets)) := by
  have hremoves : (s.heard m.cab).causesLeft ≠ (s.heard m.cab).brk.causes :=
    (State.causesLeft_ne_iff _).2 (by simpa using hended)
  obtain ⟨-, -, -, -, -, -, -, -, -, -, hupper, hlower⟩ := (s.heard m.cab).acknowledge_frame
  exact congrArg Host.Outcome.next (State.cabCommand_acceptedWith (own := ownEmergencyAck)
    (body := fun t => t.brk.causes.octets) h (ownEmergencyAck_taken (by simpa using hstill) hremoves)
    ((State.port_congr hupper hlower m.cab).trans (State.heard_port_same m.cab s)))

/-- On a moving car, or where no held kind's condition has ended, EMERGENCY_ACK is refused STATE with the set (R102). -/
theorem exec_emergencyAck_stateFails {s : State} {m : CabMsg} (h : s.admits 10#8 m = true)
    (hfails : s.pos.standstill = false ∨ ∀ k, s.brk.causes.has k = true → s.lasts k = true) :
    exec (.emergencyAck m) s =
      .next ((s.withRefusal (some { code := .stateFails, index := 10, valley := false })).answer 10#8 m .stateFails
        s.brk.causes.octets) := by
  have hnot : ¬ ((s.heard m.cab).pos.standstill = true ∧ (s.heard m.cab).causesLeft ≠ (s.heard m.cab).brk.causes) := by
    rintro ⟨hstill, hremoves⟩
    obtain ⟨k, hk, hended⟩ := (State.causesLeft_ne_iff _).1 hremoves
    simp only [State.heard_frame, State.lasts_heard] at hstill hk hended
    rcases hfails with hmoving | hlasts
    · simp [hmoving] at hstill
    · simp [hlasts k hk] at hended
  exact congrArg Host.Outcome.next
    (State.cabCommand_refusedWith h (ownEmergencyAck_stateFails hnot) rfl (fun _ => by simp))

/-- Settles O14: the kinds left are those held whose condition lasts, and the release of the rack brake that follows an
emptied set adds no cause and raises no EMERGENCY term. -/
theorem acknowledgementRemovesEndedCauses : Obligations.AcknowledgementRemovesEndedCauses := by
  unfold Obligations.AcknowledgementRemovesEndedCauses
  intro s m holds h hholds
  have hlasts : ∀ k, holds k ↔ s.lasts k = true := fun k => (hholds k).trans (s.lasts_iff k).symm
  simp only [hlasts, Bool.not_eq_true]
  refine ⟨fun hstill hended => ?_, exec_emergencyAck_stateFails h⟩
  obtain ⟨hsetup, hradio, hhandler, htoken, hrefusal, hpos, hline, hsup, hcontact, hmode, hupper, hlower⟩ :=
    (s.heard m.cab).acknowledge_frame
  obtain ⟨hcauses, hflag⟩ := (s.heard m.cab).acknowledge_causes
  have hemptied := State.acknowledge_of_isEmpty (s := s.heard m.cab)
  have hkept := State.acknowledge_of_kept (s := s.heard m.cab)
  have hleft : ∀ k, (s.heard m.cab).acknowledge.brk.causes.has k = true ↔
      s.brk.causes.has k = true ∧ s.lasts k = true := fun k => by
    simp [hcauses, State.causesLeft_has]
  have hother := (State.port_congr hupper hlower (otherCab m.cab)).trans (State.heard_port_other m.cab s)
  refine ⟨_, exec_emergencyAck_taken h hstill hended, ?_⟩
  simp only [SameSetup, SameRadio, SameHandler, State.heard_frame]
    at hsetup hradio hhandler htoken hrefusal hpos hline hsup hcontact hmode hemptied hkept
  simp only [State.withPort_frame, SameSetup, SameRadio, SameHandler]
  exact ⟨answers_withPort hother, hleft, hemptied, hkept, hflag.congr (by simp), hsetup, hradio, hhandler, htoken,
    hrefusal, hpos, hline, hsup, hcontact, hmode⟩

end Sys2Proof.Machine

/-! SUPPORT. A gate entry written (R134): what its index names, the settings carried, and the entry as it then stands. -/

namespace Sys2Proof.Machine

/-! ## The entry named -/

/-- An index that names an entry tells whether that entry is present and whether it is locked (R134). -/
theorem State.gate_of_getElem? {s : State} {i : Nat} {g : GateEntry} (h : s.gates[i]? = some g) :
    s.gatePresent i = g.present ∧ s.gateLocked i = (g.present && g.locked) := by
  simp [State.gatePresent, State.gateLocked, h]

/-- An index beyond the table names no entry (R134). -/
theorem State.gate_of_getElem?_none {s : State} {i : Nat} (h : s.gates[i]? = none) :
    s.gatePresent i = false ∧ s.gateLocked i = false := by
  simp [State.gatePresent, State.gateLocked, h]

/-- A message heard leaves the table the index is looked up in. -/
@[simp] theorem State.gate_heard (c : Cab) (i : Nat) (s : State) :
    (s.heard c).gatePresent i = s.gatePresent i ∧ (s.heard c).gateLocked i = s.gateLocked i := by
  simp [State.gatePresent, State.gateLocked]

/-- The record answered for an entry just written: its settings as carried (R134). -/
theorem gateBody_written {s t : State} {i : Octet} {g : GateEntry} {least drive : Octet}
    (hget : s.gates[i.toNat]? = some g) (hpresent : g.present = true) (hlocked : g.locked = false)
    (hdrive : drive.toNat ≤ 1)
    (ht : t.gates = s.gates.set i.toNat { g with least := least.toNat, drive := decide (drive = 1#8) }) :
    gateBody i.toNat t = [i, 1#8, least, drive, oct g.origins.num, 0#8] := by
  obtain ⟨hlt, -⟩ := List.getElem?_eq_some_iff.1 hget
  have hoct : ∀ x : Octet, oct x.toNat = x := fun x => by simp [oct]
  have hsetting : (if drive = 1#8 then 1#8 else 0#8) = drive := by
    rcases (by bv_omega : drive = 0#8 ∨ drive = 1#8) with rfl | rfl <;> rfl
  simp [gateBody, ht, hlt, hoct, hsetting, hpresent, hlocked, octBool]

/-! ## The settings carried -/

/-- A drive-required setting is neither yes nor no above 1 (R134). -/
theorem boolOf_eq_none {n : Nat} (h : 1 < n) : boolOf n = none := by
  match n, h with
  | n + 2, _ => rfl

/-- A drive-required setting of 0 or 1 is yes where it is 1 (R134). -/
theorem boolOf_octet {x : Octet} (h : x.toNat ≤ 1) : boolOf x.toNat = some (decide (x = 1#8)) := by
  rcases (by bv_omega : x = 0#8 ∨ x = 1#8) with rfl | rfl <;> rfl

/-! ## SET_GATE -/

/-- An index that names no present entry is out of range (R134). -/
theorem setGateEntry_absent {s : State} {i : Nat} (least drive : Nat) (h : s.gatePresent i = false) :
    setGateEntry i least drive s = refuse .range s := by
  simp [setGateEntry, h]

/-- A setting that is neither yes nor no, or a least rank no cab holds, is out of range (R134). -/
theorem setGateEntry_outOfRange {s : State} {i least drive : Nat} (h : 1 < drive ∨ 2 < least) :
    setGateEntry i least drive s = refuse .range s := by
  unfold setGateEntry
  split
  · rfl
  · rcases h with hdrive | hleast
    · rw [boolOf_eq_none hdrive]
    · split
      · rfl
      · rw [if_pos hleast]

/-- Settings within their ranges are written into a present entry (R134). -/
theorem setGateEntry_written {s : State} {i least : Nat} {drive : Octet} {g : GateEntry}
    (hget : s.gates[i]? = some g) (hpresent : g.present = true) (hdrive : drive.toNat ≤ 1) (hleast : least ≤ 2) :
    setGateEntry i least drive.toNat s =
      acceptWith (gateBody i)
        (s.withGates (s.gates.set i { g with least := least, drive := decide (drive = 1#8) })) := by
  simp [setGateEntry, State.gatePresent, writeGate, hget, hpresent, boolOf_octet hdrive, Nat.not_lt.2 hleast]

/-- Outside CONFIG the owner refuses STATE (R134). -/
theorem ownSetGate_notConfig {s : State} (payload : List Octet) (h : s.mode.mode ≠ .config) :
    ownSetGate payload s = refuse .stateFails s :=
  if_pos h

/-- In CONFIG the lock of the entry named is judged before the ranges (R134). -/
theorem ownSetGate_config {s : State} {i least drive : Octet} {rest : List Octet} (h : s.mode.mode = .config) :
    ownSetGate (0#8 :: i :: least :: drive :: rest) s =
      if s.gateLocked i.toNat = true then refuse .stateFails s
      else setGateEntry i.toNat least.toNat drive.toNat s := by
  simp [ownSetGate, h]

/-- A SET_GATE its owner refuses leaves the answer and the refusal record (R133, R134). -/
theorem exec_setGate_refused {s : State} {m : CabMsg} {code : ResultCode} (h : s.admits 24#8 m = true)
    (hown : ownSetGate m.payload (s.heard m.cab) = refuse code (s.heard m.cab)) (hcode : code.accepted = false) :
    exec (.setGate m) s = .next (s.refused 24#8 m code) :=
  congrArg Host.Outcome.next (State.cabCommand_refused h hown hcode)

/-- A SET_GATE its owner accepts writes the gate table and nothing else, and is answered with the entry (R132, R134). -/
theorem exec_setGate_accepted {s : State} {m : CabMsg} {i : Nat} {l : List GateEntry} (h : s.admits 24#8 m = true)
    (hown : ownSetGate m.payload (s.heard m.cab) = acceptWith (gateBody i) ((s.heard m.cab).withGates l)) :
    exec (.setGate m) s =
      .next ((s.withGates l).answer 24#8 m .ok (gateBody i ((s.heard m.cab).withGates l))) := by
  have hports : ∀ (t : State) (c : Cab), (t.withGates l).port c = t.port c := fun _ c => State.port_congr rfl rfl c
  have hwritten : ∀ (c : Cab) (p : Port), ((s.heard c).withGates l).withPort c p = (s.withGates l).withPort c p :=
    fun c _ => by cases c <;> rfl
  refine congrArg Host.Outcome.next ((State.cabCommand_acceptedWith h hown (by simp [hports])).trans ?_)
  rw [hwritten, State.answer, State.answered, State.answered, hports]

/-- Settles O28: mode, lock, presence and ranges are judged in that order, and the settings written are read back in the
answer. -/
theorem setGateWritesOneUnlockedEntry : Obligations.SetGateWritesOneUnlockedEntry := by
  unfold Obligations.SetGateWritesOneUnlockedEntry
  intro s m i least drive rest h hpayload
  split
  case isTrue hmode =>
    exact exec_setGate_refused h (ownSetGate_notConfig _ (by simpa using hmode)) rfl
  case isFalse hmode =>
    have hown := ownSetGate_config (s := s.heard m.cab) (i := i) (least := least) (drive := drive) (rest := rest)
      (by simpa using hmode)
    rw [← hpayload] at hown
    simp only [State.gate_heard] at hown
    split
    case h_1 hget =>
      obtain ⟨habsent, hfree⟩ := State.gate_of_getElem?_none hget
      exact exec_setGate_refused h (by simp [hown, hfree, setGateEntry_absent, habsent]) rfl
    case h_2 g hget =>
      obtain ⟨hpres, hlock⟩ := State.gate_of_getElem? hget
      split
      case isTrue habsent =>
        exact exec_setGate_refused h (by simp [hown, hlock, setGateEntry_absent, hpres, habsent]) rfl
      case isFalse hpresent =>
        rw [Bool.not_eq_false] at hpresent
        split
        case isTrue hlocked =>
          exact exec_setGate_refused h (by simp [hown, hlock, hpresent, hlocked]) rfl
        case isFalse hlocked =>
          rw [Bool.not_eq_true] at hlocked
          rw [hlock, hpresent, hlocked, Bool.and_false, if_neg Bool.false_ne_true] at hown
          split
          case isTrue hrange =>
            exact exec_setGate_refused h (hown.trans (setGateEntry_outOfRange hrange)) rfl
          case isFalse hrange =>
            obtain ⟨hdrive, hleast⟩ := not_or.1 hrange
            rw [Nat.not_lt] at hdrive hleast
            have hget' : (s.heard m.cab).gates[i.toNat]? = some g := by simpa using hget
            have hwrite := hown.trans (setGateEntry_written hget' hpresent hdrive hleast)
            rw [exec_setGate_accepted h hwrite, gateBody_written hget' hpresent hlocked hdrive rfl]
            simp

end Sys2Proof.Machine

/-! SUPPORT. The opening of a cab (R137): the entry into DRIVE from READY moves no spring brake and no door, and the
readers of the token (R136) release no spring brake and give the DRIVER term the new cab's lever. -/

namespace Sys2Proof.Machine

/-! ## Spring brakes that are only applied -/

/-- From `b` to `c` no spring brake is released: one whose valve is energized stands in the state it stood in. -/
def Brakes.Unreleased (b c : Brakes) : Prop :=
  ∀ i, (c.get i).state.energized = true → (c.get i).state = (b.get i).state

theorem Brakes.Unreleased.trans {b c d : Brakes} (h : b.Unreleased c) (g : c.Unreleased d) : b.Unreleased d := by
  intro i hi
  have hstay := g i hi
  exact hstay.trans (h i (hstay ▸ hi))

theorem Brakes.Unreleased.of_get {b c : Brakes} (h : ∀ i, c.get i = b.get i) : b.Unreleased c :=
  fun i _ => congrArg SpringBrake.state (h i)

theorem Brakes.Unreleased.refl (b : Brakes) : b.Unreleased b := .of_get fun _ => rfl

/-- Of two outcomes that each release no brake either may be chosen. -/
theorem Brakes.Unreleased.ite {p : Prop} [Decidable p] {b : Brakes} {s t : State} (hs : b.Unreleased s.brk)
    (ht : b.Unreleased t.brk) : b.Unreleased (if p then s else t).brk := by
  split
  · exact hs
  · exact ht

/-- An apply command de-energizes its valve and leaves the other brake (R93). -/
theorem State.applyCmd_unreleased (b : BrakeId) (s : State) : s.brk.Unreleased (s.applyCmd b).brk := by
  intro c hc
  by_cases hcb : c = b
  · rw [hcb, State.applyCmd_energized] at hc
    exact absurd hc Bool.false_ne_true
  · rw [State.applyCmd_other hcb]

/-- Written demand terms apply the holding brake at most (R82, R96). -/
theorem State.setTerms_unreleased (t : Terms) (s : State) : s.brk.Unreleased (s.setTerms t).brk := by
  have hsettled : s.brk.Unreleased (s.withBrk { s.brk with terms := t }).settleOutputs.brk :=
    .of_get fun b => (State.settleOutputs_brake _ b).trans (by cases b <;> rfl)
  exact .ite (hsettled.trans (State.applyCmd_unreleased .hold _)) hsettled

/-- A cause that joins the set applies the spring brakes (R94, R97). -/
theorem State.joinCause_unreleased (k : CauseKind) (s : State) : s.brk.Unreleased (s.joinCause k).brk := by
  have hjoined : ∀ c f, s.brk.Unreleased ((s.withBrk { s.brk with causes := c, first := f }).flag .causes).brk :=
    fun c f => .of_get fun b => by cases b <;> simp [Brakes.get]
  have happly : ∀ t : State, t.brk.Unreleased (if t.pos.standstill then t.applyCmd .hold else t).brk :=
    fun t => .ite (State.applyCmd_unreleased .hold t) (.refl _)
  have halarm : ∀ t : State, (t.offerAlarm k).brk = t.brk := fun t => by simp
  unfold State.joinCause
  rw [halarm]
  exact .trans (hjoined _ _) <| .trans (State.setTerms_unreleased _ _) <|
    .trans (State.applyCmd_unreleased .rack _) (happly _)

theorem State.addCause_unreleased {k : CauseKind} (hk : k ≠ .rollaway) (s : State) :
    s.brk.Unreleased (s.addCause k).brk := by
  unfold State.addCause
  dsimp only
  rw [if_neg (fun h => hk h.1)]
  exact .ite (.refl _) (State.joinCause_unreleased k s)

/-! ## Supervision releases no brake -/

theorem State.eoaTest_unreleased (s : State) : s.brk.Unreleased s.eoaTest.brk := by
  unfold State.eoaTest
  split
  · exact .refl _
  · exact .ite (.ite (.refl _) (State.addCause_unreleased (by decide) s)) (.refl _)

theorem State.setSupState_unreleased (x : SupState) (s : State) : s.brk.Unreleased (s.setSupState x).brk := by
  have hterm := fun t => State.setTerms_unreleased t ((s.withSup { s.sup with state := x }).flag .supervision)
  simp only [State.flag_frame, State.withSup_brk] at hterm
  unfold State.setSupState
  exact .ite (.refl _) <| .ite ((hterm _).trans (State.addCause_unreleased (by decide) _)) (hterm _)

theorem State.evalCore_unreleased (s : State) : s.brk.Unreleased s.evalCore.brk :=
  (State.eoaTest_unreleased s.measureLimits).trans (State.setSupState_unreleased _ _)

theorem State.setContactState_unreleased (x : ContactState) (s : State) :
    s.brk.Unreleased (s.setContactState x).brk := by
  have hvoid : ∀ t : State, t.brk.Unreleased (if x = .void then t.voidAuthority else t).brk := fun t =>
    .ite (.of_get fun _ => by simp) (.refl _)
  unfold State.setContactState
  refine .ite (.refl _) <| .trans ?_ <| .trans (hvoid _) <|
    .trans (State.setTerms_unreleased _ _) (State.evalCore_unreleased _)
  exact .of_get fun _ => by simp

theorem State.setShadow_unreleased (x : Bool) (s : State) : s.brk.Unreleased (s.setShadow x).brk := by
  have hjudge : ∀ t : State, t.brk.Unreleased t.judgeContact.brk := fun t =>
    .ite (.refl _) (State.setContactState_unreleased _ t)
  exact .ite (.refl _) (hjudge _)

theorem State.shadowTest_unreleased (s : State) : s.brk.Unreleased s.shadowTest.brk := by
  unfold State.shadowTest
  refine .ite ?_ (State.setShadow_unreleased false s)
  split
  · exact State.setShadow_unreleased _ s
  · exact .refl _

/-- An evaluation releases no spring brake: what it adds are causes and demand (R60, R94). -/
theorem State.evaluate_unreleased (s : State) : s.brk.Unreleased s.evaluate.brk :=
  .ite (State.evalCore_unreleased s) ((State.evalCore_unreleased s).trans (State.shadowTest_unreleased _))

/-! ## The vigilance watch and the rollaway count -/

theorem State.withVigTimer_subdued (v : Option Nat) (s : State) :
    Subdued s (s.withBrk { s.brk with vigTimer := v }) :=
  .of_eq rfl (fun b => by cases b <;> rfl) rfl

theorem State.withVigTimer_unreleased (v : Option Nat) (s : State) :
    s.brk.Unreleased (s.withBrk { s.brk with vigTimer := v }).brk :=
  .of_get fun b => by cases b <;> rfl

/-- The end of a held vigilance is a term written (R84). -/
theorem State.endVigilance_cases (s : State) :
    s.endVigilance = s ∨ s.endVigilance = s.setTerms { s.brk.terms with vigilance := 0 } := by
  unfold State.endVigilance
  split
  · exact .inr rfl
  · exact .inl rfl

theorem State.endVigilance_driver (s : State) : s.endVigilance.brk.terms.driver = s.brk.terms.driver := by
  rcases s.endVigilance_cases with h | h <;> rw [h]
  rw [(State.setTerms_effect _ s).1]

/-- The vigilance watch moves its own term and timer, at most applying the holding brake (R84). -/
theorem State.judgeVigilance_effect (s : State) :
    Subdued s s.judgeVigilance ∧ s.brk.Unreleased s.judgeVigilance.brk ∧
      s.judgeVigilance.brk.terms.driver = s.brk.terms.driver := by
  have hend : Subdued s s.endVigilance ∧ s.brk.Unreleased s.endVigilance.brk := by
    rcases s.endVigilance_cases with h | h <;> rw [h]
    · exact ⟨.refl s, .refl _⟩
    · exact ⟨State.setTerms_subdued _ s, State.setTerms_unreleased _ s⟩
  obtain ⟨hsub, hheld⟩ := hend
  exact ⟨hsub.trans (State.withVigTimer_subdued _ _), hheld.trans (State.withVigTimer_unreleased _ _),
    s.endVigilance_driver⟩

theorem State.freshVigilance_effect (s : State) :
    Subdued s s.freshVigilance ∧ s.brk.Unreleased s.freshVigilance.brk ∧
      s.freshVigilance.brk.terms.driver = s.brk.terms.driver := by
  obtain ⟨hsub, hheld, hdriver⟩ := (s.withBrk { s.brk with vigTimer := none }).judgeVigilance_effect
  exact ⟨(State.withVigTimer_subdued none s).trans hsub, (State.withVigTimer_unreleased none s).trans hheld, hdriver⟩

/-- A reset of the rollaway count touches no brake and no term (R104). -/
theorem State.rollReselect_effect (d : Option Dir) (s : State) :
    Subdued s (s.rollReselect d) ∧ s.brk.Unreleased (s.rollReselect d).brk ∧
      (s.rollReselect d).brk.terms.driver = s.brk.terms.driver := by
  unfold State.rollReselect
  split
  · exact ⟨.refl s, .refl _, rfl⟩
  · have hbrakes : ∀ b, (s.withBrk { s.brk with rollCount := 0 }).brk.get b = s.brk.get b := fun b => by
      cases b <;> rfl
    exact ⟨.of_eq rfl hbrakes rfl, .of_get hbrakes, rfl⟩

/-! ## The readers of the token -/

/-- The DRIVER term takes the lever of the driving cab's last record (R83). -/
theorem State.driverTerm_driver {s : State} {r : Controls} (h : s.drivingControls = some r) :
    s.driverTerm.brk.terms.driver = r.lever := by
  unfold State.driverTerm
  rw [(State.setTerms_effect _ s).1, h]

/-- An evaluation leaves the token and the ports, and with them the driving cab's record. -/
@[simp] theorem State.evaluate_drivingControls (s : State) : s.evaluate.drivingControls = s.drivingControls := by
  have hport : ∀ c, s.evaluate.port c = s.port c := State.port_congr (by simp) (by simp)
  simp [State.drivingControls, hport]

/-- The readers of the token take no flag away, release no spring brake, and give the DRIVER term the driving cab's lever
(R83, R84, R136). -/
theorem State.tokenReaders_effect (before s : State) :
    Subdued s (State.tokenReaders before s) ∧ s.brk.Unreleased (State.tokenReaders before s).brk ∧
      ∀ r, s.drivingControls = some r → (State.tokenReaders before s).brk.terms.driver = r.lever := by
  have hsub : Subdued s s.evaluate.driverTerm := (State.evaluate_subdued s).trans (State.setTerms_subdued _ _)
  have hheld : s.brk.Unreleased s.evaluate.driverTerm.brk :=
    (State.evaluate_unreleased s).trans (State.setTerms_unreleased _ _)
  have hdriver : ∀ r, s.drivingControls = some r → s.evaluate.driverTerm.brk.terms.driver = r.lever := fun r hr =>
    State.driverTerm_driver (by simpa using hr)
  unfold State.tokenReaders
  dsimp only
  generalize hw : (if before.token.driving = s.evaluate.driverTerm.token.driving then _ else _) = w
  have hwatch : Subdued s.evaluate.driverTerm w ∧ s.evaluate.driverTerm.brk.Unreleased w.brk ∧
      w.brk.terms.driver = s.evaluate.driverTerm.brk.terms.driver := by
    rw [← hw]
    split
    · exact State.judgeVigilance_effect _
    · exact State.freshVigilance_effect _
  obtain ⟨hwsub, hwheld, hwdriver⟩ := hwatch
  obtain ⟨hrsub, hrheld, hrdriver⟩ := w.rollReselect_effect before.selectedDir
  exact ⟨hsub.trans (hwsub.trans hrsub), hheld.trans (hwheld.trans hrheld),
    fun r hr => hrdriver.trans (hwdriver.trans (hdriver r hr))⟩

/-! ## The entry into DRIVE -/

/-- From READY the entry into DRIVE commands no brake: the modem outputs and the rollaway watch follow the mode (R94,
R95, R191). -/
theorem State.changeMode_drive {s : State} (h : s.mode.mode = .ready) :
    s.changeMode .drive =
      State.syncRollaway
        (((s.withMode (ModeCtl.timersFor .drive { s.mode with mode := .drive })).flag .mode).modemFor .drive) := by
  simp [State.changeMode, State.enterMode, h, CarMode.running]

/-- From READY the entry into DRIVE leaves the spring brakes and the doors, takes no flag away and sets MODE (R187,
R191). -/
theorem State.changeMode_drive_effect {s : State} (h : s.mode.mode = .ready) :
    (s.changeMode .drive).mode.mode = .drive ∧ (s.changeMode .drive).doors = s.doors ∧
      (∀ b, (s.changeMode .drive).brk.get b = s.brk.get b) ∧ (s.changeMode .drive).flags = (s.flag .mode).flags := by
  rw [State.changeMode_drive h]
  simp [State.modemFor_mode, ModeCtl.timersFor, State.flag]

/-! ## OPEN_CAB -/

/-- With no cab driving in READY, a cab takes the token by the entry into DRIVE and the readers of the token (R136). -/
theorem State.setToken_plain {s : State} (c : Cab) (hnone : s.token.driving = none) :
    s.setToken (Token.plain c) =
      State.tokenReaders s (((s.withToken (Token.plain c)).flag .token).changeMode .drive) := by
  have hne : s.token ≠ Token.plain c := fun h => by simp [h, Token.plain] at hnone
  have hdriving : (Token.plain c).driving = some c := rfl
  simp [State.setToken, State.tokenTo, hne, hnone, hdriving, Token.mode]

/-- What a token taken in READY makes of the token, the mode, the flags, the brakes and the doors (R83, R136, R137). -/
theorem State.setToken_plain_effect {s : State} (c : Cab) (hnone : s.token.driving = none)
    (hready : s.mode.mode = .ready) :
    (s.setToken (Token.plain c)).token = Token.plain c ∧ (s.setToken (Token.plain c)).mode.mode = .drive ∧
      (s.setToken (Token.plain c)).doors = s.doors ∧
      Flagged (s.setToken (Token.plain c)) .token ∧ Flagged (s.setToken (Token.plain c)) .mode ∧
      s.brk.Unreleased (s.setToken (Token.plain c)).brk ∧
      ∀ r, (s.port c).controls = some r → (s.setToken (Token.plain c)).brk.terms.driver = r.lever := by
  obtain ⟨hmode, hdoors, hbrakes, hflags⟩ :=
    State.changeMode_drive_effect (s := (s.withToken (Token.plain c)).flag .token) (by simpa using hready)
  have htoken : (((s.withToken (Token.plain c)).flag .token).changeMode .drive).token = Token.plain c := by simp
  have hport : (((s.withToken (Token.plain c)).flag .token).changeMode .drive).port c = s.port c :=
    State.port_congr (by simp) (by simp) c
  rw [State.setToken_plain c hnone]
  generalize ((s.withToken (Token.plain c)).flag .token).changeMode .drive = d at *
  obtain ⟨hsub, hheld, hdriver⟩ := State.tokenReaders_effect s d
  simp only [State.tokenReaders_frame]
  refine ⟨htoken, hmode, by simpa using hdoors, hsub.flags _ ?_, hsub.flags _ ?_, .trans (.of_get ?_) hheld,
    fun r hr => hdriver r (by simp [State.drivingControls, htoken, hport, Token.plain, hr])⟩
  · exact ((flagged_flag .token _).flag .mode).congr hflags
  · exact (flagged_flag .mode _).congr hflags
  · simpa using hbrakes

/-- The requester's link is ACTIVE by its own message, so that its key alone makes it eligible (R137, R184). -/
theorem State.eligible_heard (c : Cab) (s : State) : (s.heard c).eligible c = (s.port c).keyOn := by
  simp [State.eligible]

/-- The conditions of OPEN_CAB (R137), read from the state before the message. -/
def State.mayOpen (c : Cab) (s : State) : Prop :=
  (s.port c).keyOn = true ∧ s.token.driving = none ∧ s.mode.mode = .ready ∧ s.pos.standstill = true ∧
    s.token.lending c = false

/-- Where the conditions hold the owner gives the requester the token (R137). -/
theorem ownOpenCab_taken {s : State} {c : Cab} (h : s.mayOpen c) :
    ownOpenCab c (s.heard c) = acceptWith State.tokenBody ((s.heard c).setToken (Token.plain c)) :=
  if_pos (by simpa [State.eligible_heard, State.mayOpen] using h)

/-- Where a condition fails the owner refuses STATE (R137). -/
theorem ownOpenCab_stateFails {s : State} {c : Cab} (h : ¬ s.mayOpen c) :
    ownOpenCab c (s.heard c) = refuse .stateFails (s.heard c) :=
  if_neg fun hall => h (by simpa [State.eligible_heard, State.mayOpen] using hall)

/-- An admitted OPEN_CAB whose conditions hold is answered OK with the token it has taken (R137). -/
theorem exec_openCab_taken {s : State} {m : CabMsg} (h : s.admits 6#8 m = true) (hmay : s.mayOpen m.cab) :
    exec (.openCab m) s =
      .next (((s.heard m.cab).setToken (Token.plain m.cab)).withPort m.cab
        (s.answered 6#8 m .ok ((s.heard m.cab).setToken (Token.plain m.cab)).token.octets)) :=
  congrArg Host.Outcome.next (State.cabCommand_acceptedWith h (ownOpenCab_taken hmay)
    ((State.port_congr (by simp) (by simp) m.cab).trans (State.heard_port_same m.cab s)))

/-- An admitted OPEN_CAB one of whose conditions fails is refused STATE (R137). -/
theorem exec_openCab_stateFails {s : State} {m : CabMsg} (h : s.admits 6#8 m = true) (hmay : ¬ s.mayOpen m.cab) :
    exec (.openCab m) s = .next (s.refused 6#8 m .stateFails) :=
  congrArg Host.Outcome.next (State.cabCommand_refused h (ownOpenCab_stateFails hmay) rfl)

/-- Settles O11: the requester's key and the state before the message decide, and the token is taken by the entry into
DRIVE and the readers of the token. -/
theorem openCabTakesTheToken : Obligations.OpenCabTakesTheToken := by
  unfold Obligations.OpenCabTakesTheToken
  intro s m h
  split
  case isFalse hmay => exact exec_openCab_stateFails h hmay
  case isTrue hmay =>
    have htaken := exec_openCab_taken h hmay
    obtain ⟨-, hnone, hready, -, -⟩ := hmay
    obtain ⟨htoken, hmode, hdoors, htokenFlag, hmodeFlag, hheld, hdriver⟩ :=
      State.setToken_plain_effect (s := s.heard m.cab) m.cab (by simpa using hnone) (by simpa using hready)
    have hother := (State.port_congr (s := s.heard m.cab) (t := (s.heard m.cab).setToken (Token.plain m.cab))
      (by simp) (by simp) (otherCab m.cab)).trans (State.heard_port_other m.cab s)
    rw [htoken] at htaken
    refine ⟨_, htaken, answers_withPort hother, ?_⟩
    simp only [State.heard_frame, State.heard_port_same] at hdoors hheld hdriver
    simp only [State.withPort_frame, SameSetup]
    exact ⟨htoken, hmode, htokenFlag.congr (by simp), hmodeFlag.congr (by simp), hheld, hdoors, hdriver, by simp⟩

end Sys2Proof.Machine

/-! SUPPORT. What the shared operations keep: the laws of the outputs, the causes, the terms and the brakes through every
reaction of the part, and the records that a reaction leaves alone. -/

namespace Sys2Proof.Machine

/-! ## What the laws read -/

/-- The authority with its void flag clear. -/
def Authority.unvoided (a : Authority) : Authority := { a with void := false }

/-- The line store but for the void flag of its authority, which the contact timer sets (R57). -/
def LineStore.stored (l : LineStore) : LineStore := { l with authority := l.authority.map Authority.unvoided }

/-- The parts of the state that a reaction leaves: setup, token, ports, stored line, position, the mode with what of its
timers runs, the queue, and the DRIVER term. -/
def State.record (s : State) :=
  (s.params, s.gates, s.token, s.upper, s.lower, s.line.stored, s.pos, s.mode.mode, s.mode.periodTimer.isSome,
    s.mode.window.isSome, s.mode.checkTimer.isSome, s.pending, s.brk.terms.driver)

/-- The parts of the state that the laws of outputs, causes, terms and spring brakes read. -/
def State.lawView (s : State) :=
  (s.brk.terms, s.brk.serviceOut, s.brk.tractionCut, s.brk.rack.state, s.brk.hold.state, s.brk.causes, s.brk.first,
    s.doors.allClosed, s.doors.sideReleased, s.mode.mode, s.sup.state, s.contact.state, s.handler.stopService,
    s.lineCode.effective)

/-- R83: DRIVER is the lever of the driving cab. -/
def DriverTerm (s : State) : Prop :=
  s.brk.terms.driver = match s.drivingControls with
    | some r => r.lever
    | none => 0

/-- R78: SUPERVISION is 100 in INTERVENE and TRIP. -/
def SupTerm (s : State) : Prop :=
  s.brk.terms.supervision = if s.sup.state = .intervene ∨ s.sup.state = .trip then 100 else 0

/-- R85: VALLEY is 100 with a held service stop or STOP in effect. -/
def ValleyTerm (s : State) : Prop :=
  s.brk.terms.valley = if s.handler.stopService = true ∨ s.lineCode.effective = .stop then 100 else 0

/-- R85: CONTACT is 100 in VOID. -/
def ContactTerm (s : State) : Prop := s.brk.terms.contact = if s.contact.state = .void then 100 else 0

theorem termLaw_iff (s : State) : TermLaw s ↔ DriverTerm s ∧ SupTerm s ∧ ValleyTerm s ∧ ContactTerm s := Iff.rfl

/-- R110, less the position: a released side has the holding brake APPLIED. -/
def SideHeld (s : State) : Prop := s.doors.sideReleased = true → s.brk.hold.state = .applied

/-! ## Moves and reactions -/

/-- From `s` to `t` the laws of the outputs, the causes, three of the terms, the spring brakes and the stores are kept, and
the queue stays. -/
structure Moves (s t : State) : Prop where
  output : OutputLaw s → OutputLaw t
  cause : CauseLaw s → CauseLaw t
  supTerm : SupTerm s → SupTerm t
  valleyTerm : ValleyTerm s → ValleyTerm t
  contactTerm : ContactTerm s → ContactTerm t
  rack : RackLaw s → RackLaw t
  hold : HoldLaw s → HoldLaw t
  stores : StoreLaw s → StoreLaw t
  pending : t.pending = s.pending

/-- A move that leaves the records, releases no side, and keeps the holding brake APPLIED while a side is released. -/
structure Reacts (s t : State) : Prop extends Moves s t where
  record : t.record = s.record
  noSide : s.doors.sideReleased = false → t.doors.sideReleased = false
  sideHeld : SideHeld s → SideHeld t

theorem Moves.refl (s : State) : Moves s s := ⟨id, id, id, id, id, id, id, id, rfl⟩

theorem Moves.trans {s t u : State} (h : Moves s t) (g : Moves t u) : Moves s u where
  output := g.output ∘ h.output
  cause := g.cause ∘ h.cause
  supTerm := g.supTerm ∘ h.supTerm
  valleyTerm := g.valleyTerm ∘ h.valleyTerm
  contactTerm := g.contactTerm ∘ h.contactTerm
  rack := g.rack ∘ h.rack
  hold := g.hold ∘ h.hold
  stores := g.stores ∘ h.stores
  pending := g.pending.trans h.pending

theorem Reacts.refl (s : State) : Reacts s s := { Moves.refl s with record := rfl, noSide := id, sideHeld := id }

theorem Reacts.trans {s t u : State} (h : Reacts s t) (g : Reacts t u) : Reacts s u :=
  { h.toMoves.trans g.toMoves with
    record := g.record.trans h.record
    noSide := g.noSide ∘ h.noSide
    sideHeld := g.sideHeld ∘ h.sideHeld }

/-- Of two reactions either may be chosen. -/
theorem Reacts.ite {p : Prop} [Decidable p] {s t u : State} (ht : Reacts s t) (hu : Reacts s u) :
    Reacts s (if p then t else u) := by
  split
  · exact ht
  · exact hu

/-- Of two moves either may be chosen. -/
theorem Moves.ite {p : Prop} [Decidable p] {s t u : State} (ht : Moves s t) (hu : Moves s u) :
    Moves s (if p then t else u) := by
  split
  · exact ht
  · exact hu

/-- The stored records read setup, position and stored line alone. -/
theorem StoreLaw.congr {s t : State} (h : StoreLaw s) (hparams : t.params = s.params) (hgates : t.gates = s.gates)
    (hpos : t.pos = s.pos) (hline : t.line.stored = s.line.stored) : StoreLaw t := by
  simp only [LineStore.stored, LineStore.mk.injEq] at hline
  obtain ⟨-, -, -, -, hend, -, -, hsegments, hmarkers, -, hlist, -⟩ := hline
  simpa only [StoreLaw, TableLaw, RestrictionLaw, MarginLaw, RangeLaw, SetupLaw, hparams, hgates, hpos, hend, hsegments,
    hmarkers, hlist] using h

theorem State.record_parts {s t : State} (h : t.record = s.record) :
    t.params = s.params ∧ t.gates = s.gates ∧ t.token = s.token ∧ t.upper = s.upper ∧ t.lower = s.lower ∧
      t.line.stored = s.line.stored ∧ t.pos = s.pos ∧ t.mode.mode = s.mode.mode ∧
      t.mode.periodTimer.isSome = s.mode.periodTimer.isSome ∧ t.mode.window.isSome = s.mode.window.isSome ∧
      t.mode.checkTimer.isSome = s.mode.checkTimer.isSome ∧ t.pending = s.pending ∧
      t.brk.terms.driver = s.brk.terms.driver := by
  simpa only [State.record, Prod.mk.injEq] using h

theorem StoreLaw.of_record {s t : State} (hr : t.record = s.record) (h : StoreLaw s) : StoreLaw t := by
  obtain ⟨hparams, hgates, -, -, -, hline, hpos, -⟩ := State.record_parts hr
  exact h.congr hparams hgates hpos hline

/-- What leaves all the laws read keeps the laws. -/
theorem Moves.of_lawView {s t : State} (h : t.lawView = s.lawView) (hstores : StoreLaw s → StoreLaw t)
    (hpending : t.pending = s.pending) : Moves s t := by
  simp only [State.lawView, Prod.mk.injEq] at h
  obtain ⟨hterms, hout, hcut, hrack, hhold, hcauses, hfirst, hclosed, hside, hmode, hsup, hcontact, hstop, hcode⟩ := h
  constructor
  case stores => exact hstores
  case pending => exact hpending
  all_goals
    simp only [OutputLaw, CauseLaw, SupTerm, ValleyTerm, ContactTerm, RackLaw, HoldLaw, hterms, hout, hcut, hrack, hhold,
      hcauses, hfirst, hclosed, hside, hmode, hsup, hcontact, hstop, hcode, imp_self]

theorem Reacts.of_view {s t : State} (h : t.lawView = s.lawView) (hr : t.record = s.record) : Reacts s t := by
  have hmoves := Moves.of_lawView h (StoreLaw.of_record hr) (State.record_parts hr).2.2.2.2.2.2.2.2.2.2.2.1
  simp only [State.lawView, Prod.mk.injEq] at h
  obtain ⟨-, -, -, -, hhold, -, -, -, hside, -⟩ := h
  exact { hmoves with record := hr, noSide := fun hs => hside.trans hs, sideHeld := by simp [SideHeld, hhold, hside] }

/-! ## Spring brakes -/

theorem Brakes.still_iff {b c : Brakes} : b.still = c.still ↔
    b.terms = c.terms ∧ b.causes = c.causes ∧ b.first = c.first ∧ b.vigTimer = c.vigTimer ∧ b.holdTimer = c.holdTimer ∧
      b.long = c.long := by
  simp [Brakes.still]

/-- Brakes at most released stay lawful where doors, mode and the emptiness of the cause set stay. -/
theorem Moves.of_energized {s t : State} (houtput : OutputLaw s → OutputLaw t) (hcause : CauseLaw s → CauseLaw t)
    (hsup : SupTerm s → SupTerm t) (hvalley : ValleyTerm s → ValleyTerm t) (hcontact : ContactTerm s → ContactTerm t)
    (hbrakes : ∀ b, (t.brk.get b).state.energized = true → (s.brk.get b).state.energized = true)
    (hcauses : t.brk.causes = s.brk.causes) (hdoors : t.doors = s.doors) (hrecord : t.record = s.record) : Moves s t where
  output := houtput
  cause := hcause
  supTerm := hsup
  valleyTerm := hvalley
  contactTerm := hcontact
  rack h hr := by
    rw [hcauses, (State.record_parts hrecord).2.2.2.2.2.2.2.1]
    exact h (hbrakes .rack hr)
  hold h hr := by
    rw [hdoors, (State.record_parts hrecord).2.2.2.2.2.2.2.1]
    exact h (hbrakes .hold hr)
  stores := StoreLaw.of_record hrecord
  pending := (State.record_parts hrecord).2.2.2.2.2.2.2.2.2.2.2.1

/-- A brake takes a state that energizes no valve that was not (R89). -/
theorem State.setBrake_moves {b : BrakeId} {st : BrakeState} {s : State}
    (he : st.energized = false ∨ (s.brk.get b).state.energized = true) : Moves s (s.setBrake b st) := by
  obtain ⟨hterms, hcauses, hfirst, -⟩ := Brakes.still_iff.1 (State.setBrake_still b st s)
  refine .of_energized (fun h => State.setBrake_law h b st) ?_ ?_ ?_ ?_ (fun c hc => ?_) hcauses (by simp) ?_
  case refine_5 =>
    by_cases hcb : c = b
    · rw [hcb, (State.setBrake_same b st s).1] at hc
      exact hcb ▸ he.resolve_left (by simp [hc])
    · rwa [State.setBrake_other hcb] at hc
  all_goals simp [CauseLaw, SupTerm, ValleyTerm, ContactTerm, State.record, hterms, hcauses, hfirst]

/-- Beside that, the holding brake does not leave APPLIED. -/
theorem State.setBrake_reacts {b : BrakeId} {st : BrakeState} {s : State}
    (he : st.energized = false ∨ (s.brk.get b).state.energized = true)
    (hstay : b = .hold → s.brk.hold.state = .applied → st = .applied) : Reacts s (s.setBrake b st) where
  toMoves := State.setBrake_moves he
  record := by
    obtain ⟨hterms, -⟩ := Brakes.still_iff.1 (State.setBrake_still b st s)
    simp [State.record, hterms]
  noSide := by simp
  sideHeld h hside := by
    have hheld := h (by simpa using hside)
    cases b
    · rw [← Brakes.get.eq_2, State.setBrake_other (by decide)]
      exact hheld
    · exact (State.setBrake_same .hold st s).1.trans (hstay rfl hheld)

theorem State.applyCmd_reacts (b : BrakeId) (s : State) : Reacts s (s.applyCmd b) := by
  have happlied (t : State) : Reacts t (t.setBrake b .applied) := State.setBrake_reacts (.inl rfl) fun _ _ => rfl
  unfold State.applyCmd
  split
  case h_1 h | h_2 h =>
    have happlying : Reacts s (s.setBrake b .applying) := State.setBrake_reacts (.inl rfl) fun hb hh => by
      subst hb
      exact absurd (h.symm.trans hh) (by decide)
    dsimp only
    split
    · exact happlying.trans (happlied _)
    · exact happlying
  all_goals exact .refl s

/-- A release command to the rack brake's valve, where its law lets it energize (R94). -/
theorem State.releaseValve_rack_reacts {s : State} (hcauses : s.brk.causes.isEmpty = true)
    (hmode : s.mode.mode.running = true) : Reacts s (s.releaseValve .rack) := by
  obtain ⟨hterms, hcs, hfirst, -⟩ := Brakes.still_iff.1 (State.releaseValve_still .rack s)
  have hhold : (s.releaseValve .rack).brk.get .hold = s.brk.get .hold := by
    unfold State.releaseValve
    split <;> (try rfl) <;> (dsimp only; split <;> simp [State.setBrake_other (b := .rack) (c := .hold)])
  have hheld : (s.releaseValve .rack).brk.hold = s.brk.hold := hhold
  constructor
  · constructor
    case output => exact fun h => State.releaseValve_law h .rack
    case rack => exact fun _ _ => by simpa [hcs, hcauses] using (CarMode.running_iff _).1 hmode
    case stores => exact StoreLaw.of_record (by simp [State.record, hterms])
    all_goals simp [CauseLaw, SupTerm, ValleyTerm, ContactTerm, HoldLaw, hterms, hcs, hfirst, hheld]
  all_goals simp [State.record, SideHeld, hterms, hheld]

/-- A release that fails leaves the brake; no command takes the holding brake out of APPLIED but a release (R93). -/
theorem State.applyCmd_applied (b c : BrakeId) {s : State} (h : (s.brk.get c).state = .applied) :
    ((s.applyCmd b).brk.get c).state = .applied := by
  by_cases hcb : c = b
  · subst hcb
    simp only [State.applyCmd, h]
  · rwa [State.applyCmd_other hcb]

theorem State.setTerms_applied (t : Terms) {s : State} (c : BrakeId) (h : (s.brk.get c).state = .applied) :
    ((s.setTerms t).brk.get c).state = .applied := by
  have hset : ((s.withBrk { s.brk with terms := t }).settleOutputs.brk.get c).state = .applied := by
    rw [State.settleOutputs_brake]
    cases c <;> exact h
  unfold State.setTerms
  dsimp only
  split
  · exact State.applyCmd_applied .hold c hset
  · exact hset

/-! ## Terms -/

/-- Terms written in a state `s'` that differs from `s` in what drives them: the terms a law ties to a block are tied to it
afresh, EMERGENCY and DRIVER stay. -/
theorem State.setTerms_reacts_of {s s' : State} {t : Terms} (hbrk : s'.brk = s.brk) (hdoors : s'.doors = s.doors)
    (hrecord : s'.record = s.record) (hemergency : t.emergency = s.brk.terms.emergency)
    (hdriver : t.driver = s.brk.terms.driver)
    (hsup : SupTerm s → t.supervision = if s'.sup.state = .intervene ∨ s'.sup.state = .trip then 100 else 0)
    (hvalley : ValleyTerm s →
      t.valley = if s'.handler.stopService = true ∨ s'.lineCode.effective = .stop then 100 else 0)
    (hcontact : ContactTerm s → t.contact = if s'.contact.state = .void then 100 else 0) :
    Reacts s (s'.setTerms t) := by
  obtain ⟨hterms, hcauses, hfirst, hlaw⟩ := State.setTerms_effect t s'
  have hrec : (s'.setTerms t).record = s.record := by
    obtain ⟨h1, h2, h3, h4, h5, h6, h7, h8, h9, h10, h11, h12, -⟩ := State.record_parts hrecord
    simp [State.record, hterms, hdriver, h1, h2, h3, h4, h5, h6, h7, h8, h9, h10, h11, h12]
  have hd : (s'.setTerms t).doors = s.doors := by simpa using hdoors
  constructor
  · refine .of_energized (fun _ => hlaw) ?_ ?_ ?_ ?_ (fun b hb => ?_) (hbrk ▸ hcauses) hd hrec
    · simp [CauseLaw, hterms, hfirst, hbrk, hemergency]
    · simpa [SupTerm, hterms] using hsup
    · simpa [ValleyTerm, hterms] using hvalley
    · simpa [ContactTerm, hterms] using hcontact
    · exact hbrk ▸ (State.setTerms_unreleased t s' b hb) ▸ hb
  · exact hrec
  · rw [hd]; exact id
  · intro h hside
    exact State.setTerms_applied t .hold (hbrk ▸ h (hd ▸ hside))

/-- Terms written beside those that a law ties to another block (R82). -/
theorem State.setTerms_reacts {s : State} {t : Terms} (hemergency : t.emergency = s.brk.terms.emergency)
    (hdriver : t.driver = s.brk.terms.driver) (hsup : t.supervision = s.brk.terms.supervision)
    (hvalley : t.valley = s.brk.terms.valley) (hcontact : t.contact = s.brk.terms.contact) : Reacts s (s.setTerms t) :=
  State.setTerms_reacts_of rfl rfl rfl hemergency hdriver (fun h => hsup.trans h) (fun h => hvalley.trans h)
    (fun h => hcontact.trans h)

theorem State.flag_reacts (k : FlagKind) (s : State) : Reacts s (s.flag k) :=
  .of_view (by simp [State.lawView]) (by simp [State.record])

/-! ## Causes -/

/-- The join of a cause up to the apply command to the rack brake (R94, R99, R103). -/
def State.takeCause (k : CauseKind) (s : State) : State :=
  let first := if s.brk.causes.isEmpty then some (s.firstCauseNow k) else s.brk.first
  let s1 := (s.withBrk { s.brk with causes := s.brk.causes.join k, first := first }).flag .causes
  (s1.setTerms { s1.brk.terms with emergency := 100 }).applyCmd .rack

theorem State.joinCause_eq (k : CauseKind) (s : State) :
    s.joinCause k = ((if (s.takeCause k).pos.standstill then (s.takeCause k).applyCmd .hold
      else s.takeCause k).offerAlarm k) := rfl

theorem CauseSet.join_isEmpty (c : CauseSet) (k : CauseKind) : (c.join k).isEmpty = false := by
  cases k <;> simp [CauseSet.join, CauseSet.isEmpty]

/-- The first-cause record after a kind joins (R103). -/
def State.firstAfter (k : CauseKind) (s : State) : Option FirstCause :=
  if s.brk.causes.isEmpty then some (s.firstCauseNow k) else s.brk.first

/-- A join leaves the kind in the set with its record, EMERGENCY at 100, the outputs formed, the rack brake's valve
de-energized and the holding brake at most applied (R87, R94, R99, R103). -/
theorem State.takeCause_effect (k : CauseKind) (s : State) :
    (s.takeCause k).brk.terms = { s.brk.terms with emergency := 100 } ∧
      (s.takeCause k).brk.causes = s.brk.causes.join k ∧ (s.takeCause k).brk.first = s.firstAfter k ∧
      OutputLaw (s.takeCause k) ∧ (s.takeCause k).brk.rack.state.energized = false ∧
      s.brk.Unreleased (s.takeCause k).brk ∧
      (s.brk.hold.state = .applied → (s.takeCause k).brk.hold.state = .applied) := by
  obtain ⟨x, hx⟩ : ∃ x : Terms, x = { s.brk.terms with emergency := 100 } := ⟨_, rfl⟩
  obtain ⟨u, hu⟩ : ∃ u : State, u = (s.withBrk { s.brk with
      causes := s.brk.causes.join k, first := s.firstAfter k }).flag .causes := ⟨_, rfl⟩
  have htake : s.takeCause k = (u.setTerms x).applyCmd .rack := by rw [hu, hx]; rfl
  have hbrakes : ∀ b, u.brk.get b = s.brk.get b := fun b => by cases b <;> simp [hu, Brakes.get]
  obtain ⟨hterms, hcauses, hfirst, hlaw⟩ := State.setTerms_effect x u
  obtain ⟨hts, hcs, hfs, -⟩ := Brakes.still_iff.1 (State.applyCmd_still .rack (u.setTerms x))
  rw [htake, hts, hterms, hcs, hcauses, hfs, hfirst]
  refine ⟨hx, by simp [hu], by simp [hu], State.applyCmd_law hlaw .rack, State.applyCmd_energized .rack _,
    .trans (.of_get hbrakes) ((State.setTerms_unreleased x u).trans (State.applyCmd_unreleased .rack _)), fun h => ?_⟩
  exact State.applyCmd_applied .rack .hold (State.setTerms_applied x .hold (hbrakes .hold ▸ h))

theorem State.takeCause_frame (k : CauseKind) (s : State) :
    (s.takeCause k).doors = s.doors ∧ (s.takeCause k).mode = s.mode ∧ (s.takeCause k).sup = s.sup ∧
      (s.takeCause k).handler = s.handler ∧ (s.takeCause k).lineCode = s.lineCode ∧
      (s.takeCause k).contact = s.contact ∧ (s.takeCause k).record = s.record := by
  obtain ⟨hterms, -⟩ := s.takeCause_effect k
  have hdriver : (s.takeCause k).brk.terms.driver = s.brk.terms.driver := by rw [hterms]
  simp only [State.record, hdriver]
  simp [State.takeCause]

theorem State.takeCause_reacts (k : CauseKind) (s : State) : Reacts s (s.takeCause k) := by
  obtain ⟨hterms, hcauses, hfirst, hlaw, hrack, hunreleased, happlied⟩ := s.takeCause_effect k
  obtain ⟨hdoors, hmode, hsup, hhandler, hcode, hcontact, hrecord⟩ := s.takeCause_frame k
  constructor
  · constructor
    case output => exact fun _ => hlaw
    case cause =>
      intro h
      have hsome : (s.firstAfter k).isSome = true := by
        unfold State.firstAfter
        split
        · rfl
        · next hne => exact h.2.2 (by simpa using hne)
      simp [CauseLaw, hterms, hcauses, hfirst, CauseSet.join_isEmpty, hsome]
    case rack => exact fun _ hr => absurd (hrack.symm.trans hr) (by decide)
    case hold =>
      intro h hr
      rw [hdoors, hmode]
      exact h (show s.brk.hold.state.energized = true from hunreleased .hold hr ▸ hr)
    case stores => exact StoreLaw.of_record hrecord
    case pending => exact (State.record_parts hrecord).2.2.2.2.2.2.2.2.2.2.2.1
    all_goals simp [SupTerm, ValleyTerm, ContactTerm, hterms, hsup, hhandler, hcode, hcontact]
  · exact hrecord
  · rw [hdoors]; exact id
  · exact fun h hside => happlied (h (hdoors ▸ hside))

theorem State.offerAlarm_reacts (k : CauseKind) (s : State) : Reacts s (s.offerAlarm k) :=
  .of_view (by simp [State.lawView]) (by simp [State.record])

theorem State.offerStatus_reacts (s : State) : Reacts s s.offerStatus :=
  .of_view (by simp [State.lawView]) (by simp [State.record])

theorem State.joinCause_reacts (k : CauseKind) (s : State) : Reacts s (s.joinCause k) := by
  rw [State.joinCause_eq]
  exact .trans ((State.takeCause_reacts k s).trans (.ite (State.applyCmd_reacts .hold _) (.refl _)))
    (State.offerAlarm_reacts k _)

theorem State.addCause_reacts {k : CauseKind} (hk : k ≠ .rollaway) (s : State) : Reacts s (s.addCause k) := by
  unfold State.addCause
  dsimp only
  rw [if_neg (fun h => hk h.1)]
  exact .ite (.refl s) (State.joinCause_reacts k s)

/-! ## Doors -/

theorem Doors.putLeaf_allClosed {d : Doors} {i : LeafId} {x : Leaf} (h : x.state.shut = true)
    (hd : d.allClosed = true) : (d.putLeaf i x).allClosed = true := by
  simp only [Doors.allClosed, Bool.and_eq_true] at hd ⊢
  obtain ⟨⟨⟨h1, h2⟩, h3⟩, h4⟩ := hd
  cases i <;> simp [Doors.putLeaf, h, h1, h2, h3, h4]

/-- A state that differs in its doors and flags alone keeps the laws but that of the holding brake. -/
theorem Moves.of_doors {s u : State} (hbrk : u.brk = s.brk) (hsup : u.sup = s.sup) (hcontact : u.contact = s.contact)
    (hhandler : u.handler = s.handler) (hcode : u.lineCode = s.lineCode) (hrecord : u.record = s.record)
    (hhold : HoldLaw s → HoldLaw u) : Moves s u where
  output h := h.congr (by rw [hbrk]) (by rw [hbrk]) (by rw [hbrk]) (by rw [hbrk]) (by rw [hbrk])
  cause := by simp [CauseLaw, hbrk]
  supTerm := by simp [SupTerm, hbrk, hsup]
  valleyTerm := by simp [ValleyTerm, hbrk, hhandler, hcode]
  contactTerm := by simp [ContactTerm, hbrk, hcontact]
  rack := by simp [RackLaw, hbrk, (State.record_parts hrecord).2.2.2.2.2.2.2.1]
  hold := hhold
  stores := StoreLaw.of_record hrecord
  pending := (State.record_parts hrecord).2.2.2.2.2.2.2.2.2.2.2.1

/-- A change of the doors that has the holding brake applied keeps the laws, whatever it opens or releases (R95). -/
theorem State.applyHold_reacts_of {s u : State} (hbrk : u.brk = s.brk) (hsup : u.sup = s.sup)
    (hcontact : u.contact = s.contact) (hhandler : u.handler = s.handler) (hcode : u.lineCode = s.lineCode)
    (hrecord : u.record = s.record) (hside : u.doors.sideReleased = s.doors.sideReleased) :
    Reacts s (u.applyCmd .hold) := by
  have happly := State.applyCmd_reacts .hold u
  constructor
  · constructor
    case output =>
      exact fun h => happly.output (h.congr (by rw [hbrk]) (by rw [hbrk]) (by rw [hbrk]) (by rw [hbrk]) (by rw [hbrk]))
    case cause => exact fun h => happly.cause (by simpa [CauseLaw, hbrk] using h)
    case supTerm => exact fun h => happly.supTerm (by simpa [SupTerm, hbrk, hsup] using h)
    case valleyTerm => exact fun h => happly.valleyTerm (by simpa [ValleyTerm, hbrk, hhandler, hcode] using h)
    case contactTerm => exact fun h => happly.contactTerm (by simpa [ContactTerm, hbrk, hcontact] using h)
    case rack =>
      exact fun h => happly.rack (by simpa [RackLaw, hbrk, (State.record_parts hrecord).2.2.2.2.2.2.2.1] using h)
    case hold => exact fun _ hr => absurd hr (by rw [← Brakes.get.eq_2, State.applyCmd_energized]; decide)
    case stores => exact StoreLaw.of_record (happly.record.trans hrecord)
    case pending => exact happly.pending.trans (State.record_parts hrecord).2.2.2.2.2.2.2.2.2.2.2.1
  · exact happly.record.trans hrecord
  · exact fun h => happly.noSide (hside.trans h)
  · exact fun h => happly.sideHeld (by simpa [SideHeld, hside, hbrk] using h)

/-- A leaf takes a state: one that ends "all closed" has the holding brake applied (R95, R108). -/
theorem State.setLeaf_reacts (i : LeafId) (st : LeafState) (r : Nat) (s : State) : Reacts s (s.setLeaf i st r) := by
  obtain ⟨x, hx, hstate⟩ : ∃ x : Leaf, x = { s.doors.leaf i with state := st, timer := leafTimer st, reversals := r } ∧
    x.state = st := ⟨_, rfl, rfl⟩
  have hleaf : s.setLeaf i st r = if st.shut then (s.withDoors (s.doors.putLeaf i x)).flag .doors
      else ((s.withDoors (s.doors.putLeaf i x)).flag .doors).applyCmd .hold := by rw [hx]; rfl
  have hside : (s.doors.putLeaf i x).sideReleased = s.doors.sideReleased := by cases i <;> rfl
  have hrecord : ((s.withDoors (s.doors.putLeaf i x)).flag .doors).record = s.record := by simp [State.record]
  rw [hleaf]
  split
  · next hshut =>
    have hclosed := Doors.putLeaf_allClosed (d := s.doors) (i := i) (x := x) (by rw [hstate]; exact hshut)
    refine { Moves.of_doors (by simp) (by simp) (by simp) (by simp) (by simp) hrecord ?_ with
      record := hrecord, noSide := ?_, sideHeld := ?_ }
    · intro h hr
      obtain ⟨hmode, hall, hnone⟩ := h (by simpa using hr)
      simpa [hmode, hside, hnone] using hclosed hall
    · simp [hside]
    · simp [SideHeld, hside]
  · exact State.applyHold_reacts_of (by simp) (by simp) (by simp) (by simp) (by simp) hrecord (by simp [hside])

theorem State.lockLoss_reacts (s : State) : Reacts s s.lockLoss :=
  .ite (.refl s) (State.setTerms_reacts rfl rfl rfl rfl rfl)

theorem State.settleLeaf_reacts (i : LeafId) (n : Nat) (s : State) : Reacts s (s.settleLeaf i n) := by
  induction n generalizing s with
  | zero => exact .refl s
  | succ n ih =>
    unfold State.settleLeaf
    dsimp only
    split
    · exact .refl s
    · exact (State.setLeaf_reacts i _ _ s).trans (.trans (.ite (State.lockLoss_reacts _) (.refl _)) (ih _))

theorem State.enterLeaf_reacts (i : LeafId) (st : LeafState) (r : Nat) (s : State) : Reacts s (s.enterLeaf i st r) :=
  (State.setLeaf_reacts i st r s).trans (State.settleLeaf_reacts i 10 _)

theorem State.withdrawLeaf_reacts (i : LeafId) (s : State) : Reacts s (s.withdrawLeaf i) := by
  unfold State.withdrawLeaf
  split
  case h_1 | h_2 | h_3 | h_4 => exact State.enterLeaf_reacts i .closing 0 s
  all_goals exact .refl s

theorem State.withdrawLeaves_reacts (d : SideId) (s : State) : Reacts s (s.withdrawLeaves d) := by
  cases d <;> exact (State.withdrawLeaf_reacts _ s).trans (State.withdrawLeaf_reacts _ _)

theorem Doors.putSide_locked_sideReleased {d : Doors} {j : SideId} (h : (d.putSide j .locked).sideReleased = true) :
    d.sideReleased = true := by
  simp only [Doors.sideReleased, Bool.or_eq_true, decide_eq_true_eq] at h ⊢
  cases j
  · exact .inr (h.resolve_left (by simp [Doors.putSide]))
  · exact .inl (h.resolve_right (by simp [Doors.putSide]))

theorem Doors.putSide_allClosed (d : Doors) (j : SideId) (x : SideState) : (d.putSide j x).allClosed = d.allClosed := by
  cases j <;> rfl

theorem State.setSide_locked_reacts (d : SideId) (s : State) : Reacts s (s.setSide d .locked) := by
  have hrecord : ((s.withDoors (s.doors.putSide d .locked)).flag .doors).record = s.record := by simp [State.record]
  have hside := @Doors.putSide_locked_sideReleased s.doors d
  refine .ite (.refl s) { Moves.of_doors (by simp) (by simp) (by simp) (by simp) (by simp) hrecord ?_ with
      record := hrecord, noSide := ?_, sideHeld := ?_ }
  · intro h hr
    obtain ⟨hmode, hall, hnone⟩ := h (by simpa using hr)
    have : (s.doors.putSide d .locked).sideReleased = false := by
      refine Classical.byContradiction fun hne => ?_
      exact absurd (hside (by simpa using hne)) (by simp [hnone])
    simp [hmode, hall, this, Doors.putSide_allClosed]
  · intro hnone
    refine Classical.byContradiction fun hne => ?_
    exact absurd (hside (by simpa using hne)) (by simp [hnone])
  · intro h hr
    simpa using h (hside (by simpa using hr))

theorem State.withdrawSide_reacts (d : SideId) (s : State) : Reacts s (s.withdrawSide d) := by
  unfold State.withdrawSide
  split
  · exact .refl s
  · exact (State.setSide_locked_reacts d s).trans (State.withdrawLeaves_reacts d _)

theorem State.withdrawAll_reacts (s : State) : Reacts s s.withdrawAll :=
  (State.withdrawSide_reacts .a s).trans (State.withdrawSide_reacts .b _)

theorem State.leftApplied_reacts (b : BrakeId) (s : State) : Reacts s (s.leftApplied b) := by
  cases b
  · exact .ite (State.withdrawAll_reacts s) (.refl s)
  · exact State.withdrawAll_reacts s

theorem State.releaseRack_reacts (s : State) : Reacts s s.releaseRack := by
  unfold State.releaseRack
  split
  · next h =>
    have hvalve := State.releaseValve_rack_reacts h.1 h.2
    exact .ite (hvalve.trans (State.leftApplied_reacts .rack _)) hvalve
  · exact .refl s

/-- A brake leaves its state for FAULT; where the holding brake leaves APPLIED the sides are withdrawn with it (R91,
R114). -/
theorem State.enterFault_reacts (b : BrakeId) (s : State) :
    Reacts s (if (s.brk.get b).state = .applied then (s.setBrake b .fault).leftApplied b else s.setBrake b .fault) := by
  have hmoves : Moves s (s.setBrake b .fault) := State.setBrake_moves (.inl rfl)
  have hrecord : (s.setBrake b .fault).record = s.record := by
    obtain ⟨hterms, -⟩ := Brakes.still_iff.1 (State.setBrake_still b .fault s)
    simp [State.record, hterms]
  cases b
  case rack =>
    have hfault : Reacts s (s.setBrake .rack .fault) := State.setBrake_reacts (.inl rfl) nofun
    exact .ite (hfault.trans (State.leftApplied_reacts .rack _)) hfault
  case hold =>
    split
    · have hleft := State.leftApplied_reacts .hold (s.setBrake .hold .fault)
      have hnone : ((s.setBrake .hold .fault).leftApplied .hold).doors.sideReleased = false :=
        State.withdrawAll_sideReleased _
      exact { hmoves.trans hleft.toMoves with
        record := hleft.record.trans hrecord, noSide := fun _ => hnone, sideHeld := fun _ h => by simp [hnone] at h }
    · next hne => exact State.setBrake_reacts (.inl rfl) fun _ h => absurd h hne

/-- A spring brake enters FAULT, with the cause and the way on to APPLIED (R91, R92). -/
theorem State.brakeFault_reacts (b : BrakeId) (s : State) : Reacts s (s.brakeFault b) := by
  have hcause := (State.enterFault_reacts b s).trans (State.addCause_reacts (k := .brakeFeedback) (by decide) _)
  unfold State.brakeFault
  dsimp only
  split
  · exact hcause.trans (State.setBrake_reacts (.inl rfl) fun _ _ => rfl)
  · exact hcause

/-! ## Supervision -/

theorem State.withSup_reacts {x : Supervision} {s : State} (h : x.state = s.sup.state) : Reacts s (s.withSup x) :=
  .of_view (by simp [State.lawView, h]) (by simp [State.record])

theorem State.eoaTest_reacts (s : State) : Reacts s s.eoaTest := by
  have hmark (t : State) (v : Bool) : Reacts t (t.withSup { t.sup with passedMark := v }) := State.withSup_reacts rfl
  unfold State.eoaTest
  split
  · exact hmark s false
  · exact .ite (.ite (.refl s) ((State.addCause_reacts (by decide) s).trans (hmark _ true))) (hmark s false)

theorem State.setSupState_reacts (x : SupState) (s : State) : Reacts s (s.setSupState x) := by
  have hterm : Reacts s (((s.withSup { s.sup with state := x }).flag .supervision).setTerms
      { ((s.withSup { s.sup with state := x }).flag .supervision).brk.terms with supervision := x.term }) := by
    refine State.setTerms_reacts_of (by simp) (by simp) (by simp [State.record]) (by simp) (by simp) (fun _ => ?_)
      (fun h => ?_) (fun h => ?_)
    · cases x <;> simp [SupState.term]
    · simpa [ValleyTerm] using h
    · simpa [ContactTerm] using h
  exact .ite (.refl s) (.ite (hterm.trans (State.addCause_reacts (by decide) _)) hterm)

theorem State.evalCore_reacts (s : State) : Reacts s s.evalCore := by
  have hmeasure : Reacts s s.measureLimits := State.withSup_reacts rfl
  exact hmeasure.trans ((State.eoaTest_reacts _).trans (State.setSupState_reacts _ _))

/-! ## The contact timer -/

theorem State.withContact_reacts {x : Contact} {s : State} (h : x.state = s.contact.state) : Reacts s (s.withContact x) :=
  .of_view (by simp [State.lawView, h]) (by simp [State.record])

theorem State.voidAuthority_stored (s : State) : s.voidAuthority.line.stored = s.line.stored := by
  unfold State.voidAuthority
  split
  · next a ha => simp [LineStore.stored, ha, Authority.unvoided]
  · rfl

theorem State.setContactState_reacts (x : ContactState) (s : State) : Reacts s (s.setContactState x) := by
  obtain ⟨u, hu⟩ : ∃ u : State, u = if x = .void then
      ((s.withContact { s.contact with state := x }).flag .radio).voidAuthority
    else (s.withContact { s.contact with state := x }).flag .radio := ⟨_, rfl⟩
  have hframe : u.brk = s.brk ∧ u.doors = s.doors ∧ u.sup = s.sup ∧ u.handler = s.handler ∧ u.lineCode = s.lineCode ∧
      u.contact.state = x ∧ u.record = s.record := by
    rw [hu]
    split <;> simp [State.record, State.voidAuthority_stored]
  obtain ⟨hbrk, hdoors, hsup, hhandler, hcode, hcontact, hrecord⟩ := hframe
  have hterm : Reacts s (u.setTerms { u.brk.terms with contact := if x = .void then 100 else 0 }) := by
    refine State.setTerms_reacts_of hbrk hdoors hrecord (by rw [hbrk]) (by rw [hbrk]) (fun h => ?_) (fun h => ?_)
      (fun _ => ?_)
    · simpa [SupTerm, hbrk, hsup] using h
    · simpa [ValleyTerm, hbrk, hhandler, hcode] using h
    · simp [hcontact]
  have hset : s.setContactState x = if s.contact.state = x then s
      else (u.setTerms { u.brk.terms with contact := if x = .void then 100 else 0 }).evalCore := by rw [hu]; rfl
  rw [hset]
  exact .ite (.refl s) (hterm.trans (State.evalCore_reacts _))

theorem State.judgeContact_reacts (s : State) : Reacts s s.judgeContact :=
  .ite (.refl s) (State.setContactState_reacts _ s)

theorem State.contactHeard_reacts (s : State) : Reacts s s.contactHeard :=
  (State.withContact_reacts (x := { s.contact with value := 0 }) rfl).trans (State.setContactState_reacts _ _)

theorem State.setShadow_reacts (b : Bool) (s : State) : Reacts s (s.setShadow b) :=
  .ite (.refl s) ((State.withContact_reacts (x := { s.contact with
    shadow := b, value := if b then s.contact.value else min s.contact.value s.params.degradeMs }) rfl).trans
    (State.judgeContact_reacts _))

theorem State.shadowTest_reacts (s : State) : Reacts s s.shadowTest := by
  unfold State.shadowTest
  split
  · split
    · exact State.setShadow_reacts _ s
    · exact .refl s
  · exact State.setShadow_reacts false s

/-- An evaluation is a reaction (R60). -/
theorem State.evaluate_reacts (s : State) : Reacts s s.evaluate :=
  .ite (State.evalCore_reacts s) ((State.evalCore_reacts s).trans (State.shadowTest_reacts _))

theorem State.lineChanged_reacts (s : State) : Reacts s s.lineChanged :=
  (State.flag_reacts .lineRecord s).trans (State.evaluate_reacts _)

theorem State.withHandler_reacts {x : Handler} {s : State} (h : x.stopService = s.handler.stopService) :
    Reacts s (s.withHandler x) :=
  .of_view (by simp [State.lawView, h]) (by simp [State.record])

theorem State.judgeVersion_reacts (s : State) : Reacts s s.judgeVersion := by
  have hset (v : Bool) : Reacts s ((s.withHandler { s.handler with versionInd := v }).flag .lineRecord) :=
    .trans (State.withHandler_reacts (x := { s.handler with versionInd := v }) rfl) (State.flag_reacts .lineRecord _)
  exact .ite (.refl s) (hset _)

theorem State.profileChanged_reacts (s : State) : Reacts s s.profileChanged :=
  (State.judgeVersion_reacts s).trans ((State.flag_reacts .lineRecord _).trans
    ((State.shadowTest_reacts _).trans (State.evaluate_reacts _)))

/-! ## The watches of the brake unit -/

/-- A brake unit that differs in its watches alone keeps the laws (R84, R96, R104). -/
theorem State.withWatches_reacts (v h : Option Nat) (l r : Bool) (n : Int) (s : State) :
    Reacts s (s.withBrk { s.brk with vigTimer := v, holdTimer := h, long := l, rollRunning := r, rollCount := n }) :=
  .of_view (by simp [State.lawView]) (by simp [State.record])

theorem State.endVigilance_reacts (s : State) : Reacts s s.endVigilance :=
  .ite (State.setTerms_reacts rfl rfl rfl rfl rfl) (.refl s)

theorem State.judgeVigilance_reacts (s : State) : Reacts s s.judgeVigilance :=
  (State.endVigilance_reacts s).trans (State.withWatches_reacts _ _ _ _ _ _)

theorem State.freshVigilance_reacts (s : State) : Reacts s s.freshVigilance :=
  (State.withWatches_reacts none _ _ _ _ s).trans (State.judgeVigilance_reacts _)

theorem State.rollReselect_reacts (d : Option Dir) (s : State) : Reacts s (s.rollReselect d) :=
  .ite (.refl s) (State.withWatches_reacts _ _ _ _ 0 s)

theorem State.syncRollaway_reacts (s : State) : Reacts s s.syncRollaway :=
  .ite (.refl s) (State.withWatches_reacts _ _ _ _ 0 s)

theorem State.endLong_reacts (s : State) : Reacts s s.endLong := State.withWatches_reacts _ none false _ _ s

theorem State.standstillBrakes_reacts (s : State) : Reacts s s.standstillBrakes :=
  (State.setTerms_reacts (t := { s.brk.terms with door := 0 }) rfl rfl rfl rfl rfl).trans
    ((State.judgeVigilance_reacts _).trans (State.withWatches_reacts _ _ false _ _ _))

theorem State.holdExpired_reacts (s : State) : Reacts s s.holdExpired := by
  have hlong := State.withWatches_reacts s.brk.vigTimer none true s.brk.rollRunning s.brk.rollCount s
  exact .ite (hlong.trans (State.applyCmd_reacts .hold _)) hlong

theorem State.lineEndTest_reacts (d : Dir) (s : State) : Reacts s (s.lineEndTest d) := by
  have hcause : Reacts s (s.addCause .lineEnd) := State.addCause_reacts (by decide) s
  unfold State.lineEndTest
  split
  · cases d
    · exact .ite hcause (.refl s)
    · exact .ite hcause (.refl s)
  · exact .refl s

theorem State.toothDoors_reacts (p : Position) (s : State) : Reacts s (s.toothDoors p) :=
  .ite (State.withdrawAll_reacts s) (.refl s)

theorem State.noteResult_reacts (code : ResultCode) (kind : Octet) (o : Origin) (s : State) :
    Reacts s (s.noteResult code kind o) :=
  .of_view (by simp [State.lawView]) (by simp [State.record])

end Sys2Proof.Machine

/-! SUPPORT. The car mode, the token and the records that events write: what each keeps, and `Keeps`, the laws of the part
together. -/

namespace Sys2Proof.Machine

/-! ## The laws together -/

/-- From `s` to `t` every law of the part is kept, and the queue stays. -/
structure Keeps (s t : State) : Prop where
  output : OutputLaw s → OutputLaw t
  cause : CauseLaw s → CauseLaw t
  terms : TermLaw s → TermLaw t
  car : CarLaw s → CarLaw t
  stores : StoreLaw s → StoreLaw t
  pending : t.pending = s.pending

theorem Keeps.refl (s : State) : Keeps s s := ⟨id, id, id, id, id, rfl⟩

theorem Keeps.trans {s t u : State} (h : Keeps s t) (g : Keeps t u) : Keeps s u where
  output := g.output ∘ h.output
  cause := g.cause ∘ h.cause
  terms := g.terms ∘ h.terms
  car := g.car ∘ h.car
  stores := g.stores ∘ h.stores
  pending := g.pending.trans h.pending

theorem Keeps.ite {p : Prop} [Decidable p] {s t u : State} (ht : Keeps s t) (hu : Keeps s u) :
    Keeps s (if p then t else u) := by
  split
  · exact ht
  · exact hu

/-- The laws of the token, the mode and its timers (R127, R136, R191, R193). -/
def StatusLaw (s : State) : Prop := TokenLaw s ∧ DriveLaw s ∧ EligibleLaw s ∧ ConfigLaw s ∧ ModeTimerLaw s

theorem carLaw_iff (s : State) : CarLaw s ↔ RackLaw s ∧ HoldLaw s ∧ SideLaw s ∧ StatusLaw s := by
  unfold CarLaw StatusLaw
  exact Iff.rfl

/-- A move keeps every law where what it writes keeps the laws of sides, status and DRIVER. -/
theorem Moves.keeps {s t : State} (h : Moves s t) (hcar : CarLaw s → SideLaw t ∧ StatusLaw t)
    (hdriver : TermLaw s → DriverTerm t) : Keeps s t where
  output := h.output
  cause := h.cause
  terms hl := by
    obtain ⟨hd, hs, hv, hc⟩ := (termLaw_iff s).1 hl
    exact (termLaw_iff t).2 ⟨hdriver hl, h.supTerm hs, h.valleyTerm hv, h.contactTerm hc⟩
  car hl := by
    obtain ⟨hr, hh, -, -⟩ := (carLaw_iff s).1 hl
    exact (carLaw_iff t).2 ⟨h.rack hr, h.hold hh, hcar hl⟩
  stores := h.stores
  pending := h.pending

/-! ## Turns: reactions that may change the car mode -/

/-- The records that neither a change of the car mode nor the DRIVER term's touches. -/
def State.fixed (s : State) :=
  (s.params, s.gates, s.token, s.upper, s.lower, s.line.stored, s.pos, s.pending)

/-- A move that leaves every record but the mode and the DRIVER term, releases no side, and keeps the holding brake APPLIED
while a side is released. -/
structure Turns (s t : State) : Prop extends Moves s t where
  fixed : t.fixed = s.fixed
  noSide : s.doors.sideReleased = false → t.doors.sideReleased = false
  sideHeld : SideHeld s → SideHeld t

theorem Reacts.turns {s t : State} (h : Reacts s t) : Turns s t :=
  { h.toMoves with
    fixed := by
      obtain ⟨h1, h2, h3, h4, h5, h6, h7, -, -, -, -, h8, -⟩ := State.record_parts h.record
      simp [State.fixed, h1, h2, h3, h4, h5, h6, h7, h8]
    noSide := h.noSide
    sideHeld := h.sideHeld }

theorem Turns.trans {s t u : State} (h : Turns s t) (g : Turns t u) : Turns s u :=
  { h.toMoves.trans g.toMoves with
    fixed := g.fixed.trans h.fixed
    noSide := g.noSide ∘ h.noSide
    sideHeld := g.sideHeld ∘ h.sideHeld }

theorem Turns.refl (s : State) : Turns s s := (Reacts.refl s).turns

theorem Turns.ite {p : Prop} [Decidable p] {s t u : State} (ht : Turns s t) (hu : Turns s u) :
    Turns s (if p then t else u) := by
  split
  · exact ht
  · exact hu

theorem State.fixed_parts {s t : State} (h : t.fixed = s.fixed) :
    t.params = s.params ∧ t.gates = s.gates ∧ t.token = s.token ∧ t.upper = s.upper ∧ t.lower = s.lower ∧
      t.line.stored = s.line.stored ∧ t.pos = s.pos ∧ t.pending = s.pending := by
  simpa only [State.fixed, Prod.mk.injEq] using h

/-- A turn leaves the sides' law: no side is released by it, and position stays (R110). -/
theorem Turns.side {s t : State} (h : Turns s t) (hs : SideLaw s) : SideLaw t := by
  obtain ⟨-, -, -, -, -, -, hpos, -⟩ := State.fixed_parts h.fixed
  intro hreleased
  have hbefore : s.doors.sideReleased = true := by
    refine Classical.byContradiction fun hne => ?_
    exact absurd (h.noSide (by simpa using hne)) (by simp [hreleased])
  obtain ⟨hstill, -, hconf⟩ := hs hbefore
  exact ⟨hpos ▸ hstill, h.sideHeld (fun hr => (hs hr).2.1) hreleased, hpos ▸ hconf⟩

theorem State.drivingControls_congr {s t : State} (htoken : t.token = s.token) (hu : t.upper = s.upper)
    (hl : t.lower = s.lower) : t.drivingControls = s.drivingControls := by
  simp [State.drivingControls, htoken, State.port_congr hu hl]

theorem LineStore.profile_of_stored {l m : LineStore} (h : m.stored = l.stored) : m.profile = l.profile := by
  simpa [LineStore.stored] using congrArg LineStore.profile h

/-- The laws of the token and of eligibility read token and ports alone. -/
theorem TokenLaw.congr {s t : State} (h : TokenLaw s) (htoken : t.token = s.token) : TokenLaw t := by
  simpa only [TokenLaw, htoken] using h

theorem EligibleLaw.congr {s t : State} (h : EligibleLaw s) (htoken : t.token = s.token) (hu : t.upper = s.upper)
    (hl : t.lower = s.lower) : EligibleLaw t := by
  intro c hc
  simpa only [State.eligible, State.port_congr hu hl] using h c (htoken ▸ hc)

/-- The laws of token and mode read token, ports, profile state and the mode controller. -/
theorem StatusLaw.congr {s t : State} (h : StatusLaw s) (htoken : t.token = s.token) (hu : t.upper = s.upper)
    (hl : t.lower = s.lower) (hprofile : t.line.profile = s.line.profile) (hmode : t.mode.mode = s.mode.mode)
    (hp : t.mode.periodTimer.isSome = s.mode.periodTimer.isSome) (hw : t.mode.window.isSome = s.mode.window.isSome)
    (hc : t.mode.checkTimer.isSome = s.mode.checkTimer.isSome) : StatusLaw t := by
  obtain ⟨htok, hdrive, helig, hconfig, htimers⟩ := h
  refine ⟨htok.congr htoken, ?_, helig.congr htoken hu hl, ?_, ?_⟩
  · simpa only [DriveLaw, hmode, htoken] using hdrive
  · simpa only [ConfigLaw, hmode, hprofile] using hconfig
  · simpa only [ModeTimerLaw, hmode, hp, hw, hc] using htimers

theorem DriverTerm.congr {s t : State} (h : DriverTerm s) (hdriver : t.brk.terms.driver = s.brk.terms.driver)
    (htoken : t.token = s.token) (hu : t.upper = s.upper) (hl : t.lower = s.lower) : DriverTerm t := by
  unfold DriverTerm at *
  rw [hdriver, State.drivingControls_congr htoken hu hl, h]

/-- A turn that keeps the laws of token and mode and leaves the DRIVER term: a reaction, or one that wakes the car. -/
structure Wakes (s t : State) : Prop extends Turns s t where
  status : StatusLaw s → StatusLaw t
  driver : t.brk.terms.driver = s.brk.terms.driver

theorem Wakes.trans {s t u : State} (h : Wakes s t) (g : Wakes t u) : Wakes s u :=
  { h.toTurns.trans g.toTurns with status := g.status ∘ h.status, driver := g.driver.trans h.driver }

theorem Reacts.wakes {s t : State} (h : Reacts s t) : Wakes s t := by
  obtain ⟨-, -, htoken, hu, hl, hline, -, hmode, hp, hw, hc, -, hdriver⟩ := State.record_parts h.record
  exact { h.turns with
    status := fun hs => hs.congr htoken hu hl (LineStore.profile_of_stored hline) hmode hp hw hc
    driver := hdriver }

theorem Wakes.refl (s : State) : Wakes s s := (Reacts.refl s).wakes

theorem Wakes.ite {p : Prop} [Decidable p] {s t u : State} (ht : Wakes s t) (hu : Wakes s u) :
    Wakes s (if p then t else u) := by
  split
  · exact ht
  · exact hu

theorem Wakes.driverTerm {s t : State} (h : Wakes s t) (hd : DriverTerm s) : DriverTerm t := by
  obtain ⟨-, -, htoken, hu, hl, -⟩ := State.fixed_parts h.fixed
  exact hd.congr h.driver htoken hu hl

theorem Wakes.keeps {s t : State} (h : Wakes s t) : Keeps s t := by
  refine h.toMoves.keeps (fun hl => ?_) fun hl => h.driverTerm hl.1
  obtain ⟨-, -, hside, hstatus⟩ := (carLaw_iff s).1 hl
  exact ⟨h.side hside, h.status hstatus⟩

/-- A reaction keeps every law. -/
theorem Reacts.keeps {s t : State} (h : Reacts s t) : Keeps s t := h.wakes.keeps

/-! ## The car mode -/

/-- The entry into a mode up to its commands to the spring brakes (R94, R95, R191). -/
def State.modeBrakes (m : CarMode) (s : State) : State :=
  let s1 := (s.withMode (ModeCtl.timersFor m { s.mode with mode := m })).flag .mode
  let s2 := if m.running then s1 else s1.applyCmd .rack
  if m = .drive then s2 else s2.applyCmd .hold

/-- What follows the brakes at the entry into a mode (R114, R191). -/
def State.modeFollows (m : CarMode) (s : State) : State :=
  let s4 := if m = .parked ∨ m = .waking then s.withdrawAll else s
  let s5 := s4.modemFor m
  let s6 := if m = .parked then s5.withBrk { s5.brk with rollCount := 0 } else s5
  s6.syncRollaway

theorem State.enterMode_eq (m : CarMode) (s : State) :
    s.enterMode m = if s.mode.mode = m then s else (s.modeBrakes m).modeFollows m := rfl

theorem State.modeBrakes_effect (m : CarMode) (s : State) :
    (s.modeBrakes m).mode = ModeCtl.timersFor m { s.mode with mode := m } ∧
      (s.modeBrakes m).brk.still = s.brk.still ∧ (OutputLaw s → OutputLaw (s.modeBrakes m)) ∧
      s.brk.Unreleased (s.modeBrakes m).brk ∧
      (m.running = false → (s.modeBrakes m).brk.rack.state.energized = false) ∧
      (m ≠ .drive → (s.modeBrakes m).brk.hold.state.energized = false) ∧
      (s.brk.hold.state = .applied → (s.modeBrakes m).brk.hold.state = .applied) := by
  obtain ⟨u, hu⟩ : ∃ u : State, u = (s.withMode (ModeCtl.timersFor m { s.mode with mode := m })).flag .mode := ⟨_, rfl⟩
  obtain ⟨v, hv⟩ : ∃ v : State, v = if m.running then u else u.applyCmd .rack := ⟨_, rfl⟩
  have hbrakes : s.modeBrakes m = if m = .drive then v else v.applyCmd .hold := by rw [hv, hu]; rfl
  have hubrk : u.brk = s.brk := by simp [hu]
  have hvmode : v.mode = ModeCtl.timersFor m { s.mode with mode := m } := by
    rw [hv]
    split <;> simp [hu]
  have hvparts : v.brk.still = s.brk.still ∧ (OutputLaw s → OutputLaw v) ∧ s.brk.Unreleased v.brk ∧
      (m.running = false → v.brk.rack.state.energized = false) ∧
      (s.brk.hold.state = .applied → v.brk.hold.state = .applied) := by
    have hlaw : OutputLaw s → OutputLaw u := fun h =>
      h.congr (by rw [hubrk]) (by rw [hubrk]) (by rw [hubrk]) (by rw [hubrk]) (by rw [hubrk])
    rw [hv]
    split
    · next hrun => exact ⟨by rw [hubrk], hlaw, hubrk ▸ .refl _, fun h => by simp [hrun] at h, by rw [hubrk]; exact id⟩
    · exact ⟨by rw [State.applyCmd_still, hubrk], fun h => State.applyCmd_law (hlaw h) .rack,
        hubrk ▸ State.applyCmd_unreleased .rack u, fun _ => State.applyCmd_energized .rack u,
        fun h => State.applyCmd_applied .rack .hold (hubrk ▸ h)⟩
  obtain ⟨hstill, hlaw, hunreleased, hrack, happlied⟩ := hvparts
  rw [hbrakes]
  split
  · next hdrive => exact ⟨hvmode, hstill, hlaw, hunreleased, hrack, fun h => absurd hdrive h, happlied⟩
  · refine ⟨by simpa using hvmode, by rw [State.applyCmd_still, hstill], fun h => State.applyCmd_law (hlaw h) .hold,
      hunreleased.trans (State.applyCmd_unreleased .hold v), fun h => ?_, fun _ => State.applyCmd_energized .hold v,
      fun h => State.applyCmd_applied .hold .hold (happlied h)⟩
    rw [← Brakes.get.eq_1, State.applyCmd_other (by decide)]
    exact hrack h

theorem State.modeBrakes_frame (m : CarMode) (s : State) :
    (s.modeBrakes m).doors = s.doors ∧ (s.modeBrakes m).sup = s.sup ∧ (s.modeBrakes m).handler = s.handler ∧
      (s.modeBrakes m).lineCode = s.lineCode ∧ (s.modeBrakes m).contact = s.contact ∧
      (s.modeBrakes m).fixed = s.fixed := by
  simp only [State.fixed]
  unfold State.modeBrakes
  dsimp only
  (repeat' split) <;> simp

theorem StoreLaw.of_fixed {s t : State} (hf : t.fixed = s.fixed) (h : StoreLaw s) : StoreLaw t := by
  obtain ⟨hparams, hgates, -, -, -, hline, hpos, -⟩ := State.fixed_parts hf
  exact h.congr hparams hgates hpos hline

/-- The commands to the brakes at an entry into a mode keep their laws: the rack brake is applied outside READY and DRIVE,
the holding brake outside DRIVE, which it was outside before (R94, R95). -/
theorem State.modeBrakes_turns {m : CarMode} {s : State} (hm : s.mode.mode ≠ m) : Turns s (s.modeBrakes m) := by
  obtain ⟨hmode, hstill, hlaw, hunreleased, hrack, hhold, happlied⟩ := s.modeBrakes_effect m
  obtain ⟨hdoors, hsup, hhandler, hcode, hcontact, hfixed⟩ := s.modeBrakes_frame m
  obtain ⟨hterms, hcauses, hfirst, -⟩ := Brakes.still_iff.1 hstill
  have hmm : (s.modeBrakes m).mode.mode = m := by rw [hmode]; rfl
  constructor
  · constructor
    case output => exact hlaw
    case rack =>
      intro h hr
      have hrun : m.running = true := by
        refine Classical.byContradiction fun hne => ?_
        exact absurd hr (by simp [hrack (by simpa using hne)])
      have hbefore : s.brk.rack.state.energized = true := hunreleased .rack hr ▸ hr
      exact ⟨by rw [hcauses]; exact (h hbefore).1, by rw [hmm]; exact (CarMode.running_iff m).1 hrun⟩
    case hold =>
      intro h hr
      have hdrive : m = .drive := by
        refine Classical.byContradiction fun hne => ?_
        exact absurd hr (by simp [hhold hne])
      have hbefore : s.brk.hold.state.energized = true := hunreleased .hold hr ▸ hr
      exact absurd ((h hbefore).1.trans hdrive.symm) hm
    case stores => exact StoreLaw.of_fixed hfixed
    case pending => exact (State.fixed_parts hfixed).2.2.2.2.2.2.2
    all_goals simp [CauseLaw, SupTerm, ValleyTerm, ContactTerm, hterms, hcauses, hfirst, hsup, hhandler, hcode, hcontact]
  · exact hfixed
  · rw [hdoors]; exact id
  · exact fun h hside => happlied (h (hdoors ▸ hside))

theorem State.withReports_reacts (x : Reports) (s : State) : Reacts s (s.withReports x) :=
  .of_view (by simp [State.lawView]) (by simp [State.record])

/-- The modem's outputs are read by no law (R191). -/
theorem State.keyOn_reacts (s : State) : Reacts s s.keyOn := by
  unfold State.keyOn
  split
  · exact .refl s
  · exact .of_view (by simp [State.lawView]) (by simp [State.record])

theorem State.keyOff_reacts (s : State) : Reacts s s.keyOff := by
  unfold State.keyOff
  split
  · exact .of_view (by simp [State.lawView]) (by simp [State.record])
  · exact .refl s

theorem State.powerOn_reacts (s : State) : Reacts s s.powerOn := by
  unfold State.powerOn
  split
  · exact .refl s
  · exact .of_view (by simp [State.lawView]) (by simp [State.record])

theorem State.modemFor_reacts (m : CarMode) (s : State) : Reacts s (s.modemFor m) := by
  cases m
  case config | ready | drive => exact (State.powerOn_reacts s).trans (State.keyOn_reacts _)
  case parked | waking => exact (State.keyOff_reacts s).trans (State.powerOn_reacts _)

theorem State.modeFollows_reacts (m : CarMode) (s : State) : Reacts s (s.modeFollows m) := by
  have hmodem : Reacts s ((if m = .parked ∨ m = .waking then s.withdrawAll else s).modemFor m) :=
    .trans (.ite (State.withdrawAll_reacts s) (.refl s)) (State.modemFor_reacts m _)
  exact .trans (.ite (hmodem.trans (State.withWatches_reacts _ _ _ _ 0 _)) hmodem) (State.syncRollaway_reacts _)

theorem State.enterMode_turns (m : CarMode) (s : State) : Turns s (s.enterMode m) := by
  rw [State.enterMode_eq]
  split
  · exact .refl s
  · next hne => exact (State.modeBrakes_turns hne).trans (State.modeFollows_reacts m _).turns

theorem State.changeMode_turns (m : CarMode) (s : State) : Turns s (s.changeMode m) :=
  .ite (State.enterMode_turns m s) ((State.enterMode_turns m s).trans (State.releaseRack_reacts _).turns)

theorem State.enterMode_mode (m : CarMode) (s : State) : (s.enterMode m).mode.mode = m := by
  rw [State.enterMode_eq]
  split
  · next h => exact h
  · rw [(State.record_parts (State.modeFollows_reacts m (s.modeBrakes m)).record).2.2.2.2.2.2.2.1,
      (s.modeBrakes_effect m).1]
    rfl

/-- The timers of the mode controller follow the mode entered (R193, R194). -/
theorem State.enterMode_timers (m : CarMode) {s : State} (h : ModeTimerLaw s) : ModeTimerLaw (s.enterMode m) := by
  rw [State.enterMode_eq]
  split
  · exact h
  · obtain ⟨-, -, -, -, -, -, -, hmode, hp, hw, hc, -⟩ :=
      State.record_parts (State.modeFollows_reacts m (s.modeBrakes m)).record
    unfold ModeTimerLaw
    rw [hmode, hp, hw, hc, (s.modeBrakes_effect m).1]
    cases m <;> simp [ModeCtl.timersFor]

theorem State.changeMode_cases (m : CarMode) (s : State) :
    s.changeMode m = s.enterMode m ∨ s.changeMode m = (s.enterMode m).releaseRack := by
  unfold State.changeMode
  dsimp only
  split
  · exact .inl rfl
  · exact .inr rfl

theorem State.changeMode_mode (m : CarMode) (s : State) : (s.changeMode m).mode.mode = m := by
  rcases s.changeMode_cases m with h | h <;> simp [h, State.enterMode_mode]

theorem State.changeMode_timers (m : CarMode) {s : State} (h : ModeTimerLaw s) : ModeTimerLaw (s.changeMode m) := by
  rcases s.changeMode_cases m with hc | hc <;> simpa [hc, ModeTimerLaw] using State.enterMode_timers m h

/-- The laws of the token and of the mode after a turn into a mode that suits token and profile. -/
theorem Turns.status {s t : State} (h : Turns s t) (htimers : ModeTimerLaw t)
    (hdrive : t.mode.mode = .drive ↔ s.token.driving ≠ none)
    (hconfig : t.mode.mode = .config ↔ s.line.profile ≠ .valid) (hs : TokenLaw s) (he : EligibleLaw s) : StatusLaw t := by
  obtain ⟨-, -, htoken, hu, hl, hline, -⟩ := State.fixed_parts h.fixed
  refine ⟨hs.congr htoken, ?_, he.congr htoken hu hl, ?_, htimers⟩
  · rw [DriveLaw, htoken]; exact hdrive
  · rw [ConfigLaw, LineStore.profile_of_stored hline]; exact hconfig

theorem State.enterMode_driver (m : CarMode) (s : State) :
    (s.enterMode m).brk.terms.driver = s.brk.terms.driver := by
  rw [State.enterMode_eq]
  split
  · rfl
  · obtain ⟨hterms, -⟩ := Brakes.still_iff.1 (s.modeBrakes_effect m).2.1
    rw [(State.modeFollows_reacts m _).wakes.driver, hterms]

/-- Out of PARKED and WAKING into READY or WAKING nothing is amiss with token and profile (R194, R195). -/
theorem State.enterMode_wakes {m : CarMode} {s : State} (hfrom : s.mode.mode = .parked ∨ s.mode.mode = .waking)
    (hto : m = .ready ∨ m = .waking) : Wakes s (s.enterMode m) := by
  have hturns := State.enterMode_turns m s
  refine { hturns with status := ?_, driver := State.enterMode_driver m s }
  rintro ⟨htok, hdrive, helig, hconfig, ht⟩
  refine hturns.status (State.enterMode_timers m ht) ?_ ?_ htok helig
  · rw [State.enterMode_mode, ← show s.mode.mode = .drive ↔ _ from hdrive]
    rcases hfrom with hf | hf <;> rcases hto with rfl | rfl <;> simp [hf]
  · rw [State.enterMode_mode, ← show s.mode.mode = .config ↔ _ from hconfig]
    rcases hfrom with hf | hf <;> rcases hto with rfl | rfl <;> simp [hf]

theorem State.changeMode_wakes {m : CarMode} {s : State} (hfrom : s.mode.mode = .parked ∨ s.mode.mode = .waking)
    (hto : m = .ready ∨ m = .waking) : Wakes s (s.changeMode m) :=
  .ite (State.enterMode_wakes hfrom hto) ((State.enterMode_wakes hfrom hto).trans (State.releaseRack_reacts _).wakes)

/-- A cause added is a reaction, followed in PARKED by ROLLAWAY's entry into READY (R99, R194). -/
theorem State.addCause_wakes (k : CauseKind) (s : State) : Wakes s (s.addCause k) := by
  have hjoin : Reacts s (if s.brk.causes.has k then s else s.joinCause k) := .ite (.refl s) (State.joinCause_reacts k s)
  unfold State.addCause
  generalize (if s.brk.causes.has k then s else s.joinCause k) = s1 at hjoin ⊢
  dsimp only
  split
  · next h => exact hjoin.wakes.trans (State.changeMode_wakes (.inl h.2) (.inl rfl))
  · exact hjoin.wakes

theorem State.rollTooth_wakes (d : Dir) (s : State) : Wakes s (s.rollTooth d) := by
  have hcount (n : Int) : Reacts s (s.withBrk { s.brk with rollCount := n }) := State.withWatches_reacts _ _ _ _ n s
  exact .ite (.ite ((hcount 0).wakes.trans (State.addCause_wakes .rollaway _)) (hcount _).wakes) (.refl s)

/-! ## The token -/

/-- The lever of the driving cab becomes the DRIVER term; the other laws do not read it but the outputs', formed afresh
(R82, R83). -/
theorem State.setDriver_turns (v : Nat) (s : State) : Turns s (s.setTerms { s.brk.terms with driver := v }) := by
  have h : Reacts (s.withBrk { s.brk with terms := { s.brk.terms with driver := v } })
      (s.setTerms { s.brk.terms with driver := v }) := State.setTerms_reacts
    (s := s.withBrk { s.brk with terms := { s.brk.terms with driver := v } }) rfl rfl rfl rfl rfl
  obtain ⟨-, -, -, hlaw⟩ := State.setTerms_effect { s.brk.terms with driver := v } s
  exact ⟨⟨fun _ => hlaw, h.cause, h.supTerm, h.valleyTerm, h.contactTerm, h.rack, h.hold, h.stores, h.pending⟩,
    h.turns.fixed, h.noSide, h.sideHeld⟩

theorem State.driverTerm_turns (s : State) : Turns s s.driverTerm := State.setDriver_turns _ s

theorem State.driverTerm_law (s : State) : DriverTerm s.driverTerm := by
  have hcontrols : s.driverTerm.drivingControls = s.drivingControls :=
    State.drivingControls_congr (by simp) (by simp) (by simp)
  unfold DriverTerm
  rw [hcontrols]
  exact congrArg Terms.driver (State.setTerms_effect _ s).1

theorem State.driverTerm_status {s : State} (h : StatusLaw s) : StatusLaw s.driverTerm :=
  h.congr (by simp) (by simp) (by simp) (by simp) (by simp) (by simp) (by simp) (by simp)

/-- After its DRIVER term the readers of the token react alone (R84, R104, R136). -/
theorem State.tokenReaders_reacts (before s : State) : Reacts s.evaluate.driverTerm (State.tokenReaders before s) :=
  .trans (.ite (State.judgeVigilance_reacts _) (State.freshVigilance_reacts _)) (State.rollReselect_reacts _ _)

theorem State.tokenReaders_turns (before s : State) : Turns s (State.tokenReaders before s) :=
  (State.evaluate_reacts s).turns.trans ((State.driverTerm_turns _).trans (State.tokenReaders_reacts before s).turns)

theorem State.tokenReaders_driver (before s : State) : DriverTerm (State.tokenReaders before s) :=
  (State.tokenReaders_reacts before s).wakes.driverTerm (State.driverTerm_law _)

theorem State.tokenReaders_status {before s : State} (h : StatusLaw s) : StatusLaw (State.tokenReaders before s) :=
  (State.tokenReaders_reacts before s).wakes.status
    (State.driverTerm_status ((State.evaluate_reacts s).wakes.status h))

/-- The token written and reported. -/
def State.writeToken (t : Token) (s : State) : State := (s.withToken t).flag .token

theorem State.writeToken_moves (t : Token) (s : State) : Moves s (s.writeToken t) :=
  .of_lawView (by simp [State.lawView, State.writeToken])
    (StoreLaw.congr · (by simp [State.writeToken]) (by simp [State.writeToken]) (by simp [State.writeToken])
      (by simp [State.writeToken]))
    (by simp [State.writeToken])

theorem State.tokenTo_eq {t : Token} {m : CarMode} {s : State} (hne : s.token ≠ t) :
    s.tokenTo t m = State.tokenReaders s (if s.token.driving ≠ none ∧ t.driving = none ∧
      ((s.writeToken t).changeMode m).pos.standstill = false then ((s.writeToken t).changeMode m).addCause .driveLost
      else (s.writeToken t).changeMode m) := if_neg hne

/-- A change of the token: from the written token on, turns (R136). -/
theorem State.tokenTo_turns {t : Token} {m : CarMode} {s : State} (hne : s.token ≠ t) :
    Turns (s.writeToken t) (s.tokenTo t m) := by
  rw [State.tokenTo_eq hne]
  exact (State.changeMode_turns m _).trans
    (.trans (.ite (State.addCause_wakes .driveLost _).toTurns (.refl _)) (State.tokenReaders_turns s _))

/-- What a token must suit: its own law, eligible drivers, and the mode it gives. -/
structure TokenSuits (t : Token) (m : CarMode) (s : State) : Prop where
  token : TokenLaw (s.withToken t)
  eligible : ∀ c, t.driving = some c → s.eligible c = true
  drive : m = .drive ↔ t.driving ≠ none
  config : m ≠ .config
  valid : s.line.profile = .valid

theorem State.tokenTo_status {t : Token} {m : CarMode} {s : State} (hne : s.token ≠ t) (h : TokenSuits t m s)
    (htimers : ModeTimerLaw s) : StatusLaw (s.tokenTo t m) := by
  rw [State.tokenTo_eq hne]
  have hline : (s.writeToken t).line = s.line := by simp [State.writeToken]
  have hchange : StatusLaw ((s.writeToken t).changeMode m) := by
    refine (State.changeMode_turns m _).status (State.changeMode_timers m (by simpa [ModeTimerLaw, State.writeToken]
      using htimers)) ?_ ?_ (h.token.congr (by simp [State.writeToken])) ?_
    · simpa [State.changeMode_mode, State.writeToken] using h.drive
    · simp [State.changeMode_mode, h.config, hline, h.valid]
    · intro c hc
      simpa [State.eligible, State.port_congr (s := s) (t := s.writeToken t) (by simp [State.writeToken])
        (by simp [State.writeToken])] using h.eligible c (by simpa [State.writeToken] using hc)
  refine State.tokenReaders_status ?_
  split
  · exact (State.addCause_wakes .driveLost _).status hchange
  · exact hchange

theorem State.tokenTo_driver {t : Token} {m : CarMode} {s : State} (hne : s.token ≠ t) :
    DriverTerm (s.tokenTo t m) := by
  rw [State.tokenTo_eq hne]
  exact State.tokenReaders_driver s _

theorem State.writeToken_side {t : Token} {s : State} (h : SideLaw s) : SideLaw (s.writeToken t) := by
  simpa [SideLaw, State.writeToken] using h

theorem State.tokenTo_moves (t : Token) (m : CarMode) (s : State) : Moves s (s.tokenTo t m) := by
  by_cases hne : s.token = t
  · rw [State.tokenTo, if_pos hne]; exact .refl s
  · exact (State.writeToken_moves t s).trans (State.tokenTo_turns hne).toMoves

theorem State.tokenTo_side {t : Token} {m : CarMode} {s : State} (h : SideLaw s) : SideLaw (s.tokenTo t m) := by
  by_cases hne : s.token = t
  · rwa [State.tokenTo, if_pos hne]
  · exact (State.tokenTo_turns hne).side (State.writeToken_side h)

theorem State.tokenTo_keeps {t : Token} {m : CarMode} {s : State} (hne : s.token ≠ t)
    (h : CarLaw s → TokenSuits t m s) : Keeps s (s.tokenTo t m) := by
  refine (State.tokenTo_moves t m s).keeps (fun hl => ?_) fun _ => State.tokenTo_driver hne
  obtain ⟨-, -, hside, -, -, -, -, htimers⟩ := (carLaw_iff s).1 hl
  exact ⟨State.tokenTo_side hside, State.tokenTo_status hne (h hl) htimers⟩

/-- In DRIVE and READY a profile is committed (R5, R136). -/
theorem profile_of_driving {s : State} (h : CarLaw s) (hdriving : s.token.driving ≠ none) : s.line.profile = .valid := by
  obtain ⟨-, -, -, -, hdrive, -, hconfig, -⟩ := (carLaw_iff s).1 h
  refine Classical.byContradiction fun hne => ?_
  exact absurd ((hdrive.2 hdriving).symm.trans (hconfig.2 hne)) (by decide)

theorem Token.mode_drive (t : Token) : t.mode = .drive ↔ t.driving ≠ none := by
  unfold Token.mode
  split <;> simp_all

theorem Token.mode_ne_config (t : Token) : t.mode ≠ .config := by
  unfold Token.mode
  split <;> simp

theorem tokenLaw_plain (c : Cab) (s : State) : TokenLaw (s.withToken (Token.plain c)) := by
  simp [TokenLaw, Token.plain]

theorem tokenLaw_nobody (s : State) : TokenLaw (s.withToken Token.nobody) := by
  simp [TokenLaw, Token.nobody]

theorem tokenLaw_lent (c : Cab) (s : State) : TokenLaw (s.withToken (Token.lent c)) := by
  simp [TokenLaw, Token.lent]

/-! ## The loss of a cab -/

/-- The laws of token and mode but for the eligibility of a cab that may just have lost its key or link. -/
def StatusBut (c : Cab) (s : State) : Prop :=
  TokenLaw s ∧ DriveLaw s ∧ (∀ d, s.token.driving = some d → d ≠ c → s.eligible d = true) ∧ ConfigLaw s ∧
    ModeTimerLaw s

theorem profile_of_statusBut {c : Cab} {s : State} (h : StatusBut c s) (hdriving : s.token.driving ≠ none) :
    s.line.profile = .valid := by
  obtain ⟨-, hdrive, -, hconfig, -⟩ := h
  refine Classical.byContradiction fun hne => ?_
  exact absurd ((hdrive.2 hdriving).symm.trans (hconfig.2 hne)) (by decide)

theorem State.tokenLeft_ne {s : State} {c : Cab} (h : s.token.driving = some c) : s.token ≠ s.tokenLeft := by
  intro he
  unfold State.tokenLeft at he
  split at he
  · next l hl =>
    split at he
    · exact absurd (he ▸ hl) (by simp [Token.plain])
    · exact absurd (he ▸ h) (by simp [Token.nobody])
  · exact absurd (he ▸ h) (by simp [Token.nobody])

theorem State.tokenLeft_suits {s : State} (hvalid : s.line.profile = .valid) :
    TokenSuits s.tokenLeft s.tokenLeft.mode s := by
  refine ⟨?_, ?_, Token.mode_drive _, Token.mode_ne_config _, hvalid⟩
  · unfold State.tokenLeft
    split
    · split
      · exact tokenLaw_plain _ s
      · exact tokenLaw_nobody s
    · exact tokenLaw_nobody s
  · intro c
    unfold State.tokenLeft
    split
    · split
      · next l _ hl => rintro ⟨⟩; exact hl
      · rintro ⟨⟩
    · rintro ⟨⟩

theorem otherCab_ne (c : Cab) : otherCab c ≠ c := by cases c <;> decide

/-- The token by the role of the cab lost makes good the eligibility that its loss has broken (R141). -/
theorem State.tokenLoss_status {c : Cab} {s : State} (h : StatusBut c s) : StatusLaw (s.tokenLoss c) := by
  obtain ⟨htok, hdrive, helig, hconfig, htimers⟩ := id h
  unfold State.tokenLoss
  split
  · next hc =>
    exact State.tokenTo_status (State.tokenLeft_ne hc) (State.tokenLeft_suits (profile_of_statusBut h (by simp [hc])))
      htimers
  · next hc =>
    split
    · next hlink =>
      have hd : s.token.driving = some (otherCab c) := by
        simp only [TokenLaw, hlink] at htok
        exact htok.1
      rw [hd]
      refine State.tokenTo_status (fun he => ?_) ⟨tokenLaw_plain _ s, ?_, Token.mode_drive _, Token.mode_ne_config _,
        profile_of_statusBut h (by simp [hd])⟩ htimers
      · exact absurd (he ▸ hlink) (by simp [Token.plain])
      · rintro d ⟨⟩
        exact helig _ hd (otherCab_ne c)
    · exact ⟨htok, hdrive, fun d hd => helig d hd fun he => hc (he ▸ hd), hconfig, htimers⟩

theorem State.tokenLoss_moves (c : Cab) (s : State) : Moves s (s.tokenLoss c) := by
  unfold State.tokenLoss
  refine .ite (State.tokenTo_moves _ _ s) ?_
  split
  · split
    · exact State.tokenTo_moves _ _ s
    · exact .refl s
  · exact .refl s

theorem State.tokenLoss_side {c : Cab} {s : State} (h : SideLaw s) : SideLaw (s.tokenLoss c) := by
  unfold State.tokenLoss
  split
  · exact State.tokenTo_side h
  · split
    · split
      · exact State.tokenTo_side h
      · exact h
    · exact h

/-- A loss that moves the token gives the DRIVER term its lever; one that leaves it leaves a driving cab that is not the
cab lost (R83, R141). -/
theorem State.tokenLoss_driver (c : Cab) (s : State) :
    DriverTerm (s.tokenLoss c) ∨ (s.tokenLoss c = s ∧ s.token.driving ≠ some c) := by
  unfold State.tokenLoss
  split
  · next hc => exact .inl (State.tokenTo_driver (State.tokenLeft_ne hc))
  · next hc =>
    split
    · next hlink =>
      split
      · next d _ => exact .inl (State.tokenTo_driver fun he => absurd (he ▸ hlink) (by simp [Token.plain]))
      · exact .inr ⟨rfl, hc⟩
    · exact .inr ⟨rfl, hc⟩

/-! ## The line store -/

theorem State.withLine_moves {l : LineStore} {s : State} (h : StoreLaw s → StoreLaw (s.withLine l)) :
    Moves s (s.withLine l) := .of_lawView (by simp [State.lawView]) h (by simp)

/-- A line store that keeps its own laws, committed or not as before, keeps every law. -/
theorem State.withLine_keeps {l : LineStore} {s : State} (hprofile : l.profile = .valid ↔ s.line.profile = .valid)
    (hstores : StoreLaw s → StoreLaw (s.withLine l)) : Keeps s (s.withLine l) := by
  refine (State.withLine_moves hstores).keeps (fun hl => ?_) fun hl => hl.1
  obtain ⟨-, -, hside, htok, hdrive, helig, hconfig, htimers⟩ := (carLaw_iff s).1 hl
  exact ⟨hside, htok, hdrive, helig, by simpa [ConfigLaw, hprofile] using hconfig, htimers⟩

theorem LineStore.cleared_stores (l : LineStore) (p : ProfileState) (c : Option Cab) {s : State} (h : StoreLaw s)
    (hl : s.line = l) : StoreLaw (s.withLine (l.cleared p c)) := by
  subst hl
  obtain ⟨-, hlist, hmargin, ⟨hcount, hdist, hspeed, -, -⟩, hsetup⟩ := h
  exact ⟨⟨rfl, rfl⟩, hlist, hmargin, ⟨hcount, hdist, hspeed, by simp [LineStore.cleared], by simp [LineStore.cleared]⟩,
    hsetup⟩

theorem State.abandonLoad_cases (c : Cab) (s : State) : s.abandonLoad c = s ∨
    (s.line.profile = .loading ∧ s.abandonLoad c = (s.withLine (s.line.cleared .empty none)).profileChanged) := by
  unfold State.abandonLoad
  split
  · next h => exact .inr ⟨h.1, rfl⟩
  · exact .inl rfl

theorem State.abandonLoad_moves (c : Cab) (s : State) : Moves s (s.abandonLoad c) := by
  rcases s.abandonLoad_cases c with h | ⟨-, h⟩ <;> rw [h]
  · exact .refl s
  · exact (State.withLine_moves (LineStore.cleared_stores _ _ _ · rfl)).trans (State.profileChanged_reacts _).toMoves

theorem State.abandonLoad_keeps (c : Cab) (s : State) : Keeps s (s.abandonLoad c) := by
  rcases s.abandonLoad_cases c with h | ⟨hloading, h⟩ <;> rw [h]
  · exact .refl s
  · have hwrite : Keeps s (s.withLine (s.line.cleared .empty none)) :=
      State.withLine_keeps (by simp [LineStore.cleared, hloading]) (LineStore.cleared_stores _ _ _ · rfl)
    exact hwrite.trans (State.profileChanged_reacts _).keeps

end Sys2Proof.Machine

/-! SUPPORT. Every request of a cab and every order of the valley keeps the laws. -/

namespace Sys2Proof.Machine

/-! ## Ports -/

/-- A port that keeps its control inputs, and its link or has it made ACTIVE, keeps every law. -/
theorem State.withPort_keeps {c : Cab} {p : Port} {s : State} (hcontrols : p.controls = (s.port c).controls)
    (hlink : p.link = (s.port c).link ∨ p.link = .active) : Keeps s (s.withPort c p) := by
  have hall (d : Cab) : ((s.withPort c p).port d).controls = (s.port d).controls := by
    by_cases hd : d = c
    · rw [hd, State.withPort_port_same, hcontrols]
    · cases c <;> cases d <;> first | rfl | exact absurd rfl hd
  have helig (d : Cab) (h : s.eligible d = true) : (s.withPort c p).eligible d = true := by
    simp only [State.eligible, Port.keyOn, hall, Bool.and_eq_true, decide_eq_true_eq] at h ⊢
    refine ⟨h.1, ?_⟩
    by_cases hd : d = c
    · subst hd
      rw [State.withPort_port_same]
      exact hlink.elim (fun hl => hl.trans h.2) id
    · have : (s.withPort c p).port d = s.port d := by cases c <;> cases d <;> first | rfl | exact absurd rfl hd
      rw [this]; exact h.2
  refine (Moves.of_lawView (by simp [State.lawView]) (StoreLaw.congr · (by simp) (by simp) (by simp) (by simp))
    (by simp)).keeps (fun hl => ?_) fun hl => ?_
  · obtain ⟨-, -, hside, htok, hdrive, he, hconfig, htimers⟩ := (carLaw_iff s).1 hl
    refine ⟨by simpa [SideLaw] using hside, htok.congr (by simp), by simpa [DriveLaw] using hdrive, fun d hd => ?_,
      by simpa [ConfigLaw] using hconfig, by simpa [ModeTimerLaw] using htimers⟩
    exact helig d (he d (by simpa using hd))
  · have hd : DriverTerm s := hl.1
    unfold DriverTerm State.drivingControls at *
    simpa [hall] using hd

theorem State.heard_keeps (c : Cab) (s : State) : Keeps s (s.heard c) := State.withPort_keeps rfl (.inr rfl)

theorem State.errorUp_keeps (c : Cab) (s : State) : Keeps s (s.errorUp c) := State.withPort_keeps rfl (.inl rfl)

theorem State.setAsm_keeps (c : Cab) (a : AsmState) (l : List Octet) (s : State) : Keeps s (s.setAsm c a l) :=
  State.withPort_keeps rfl (.inl rfl)

theorem State.post_keeps (c : Cab) (a : Answer) (s : State) : Keeps s (s.withPort c ((s.port c).post a)) := by
  refine State.withPort_keeps ?_ (.inl ?_) <;> (unfold Port.post; split <;> rfl)

theorem State.stash_keeps (c : Cab) (l : List Octet) (s : State) : Keeps s (s.stash c l) := by
  induction l generalizing s with
  | nil => exact .refl s
  | cons o rest ih =>
    have hone : Keeps s (if (s.port c).receive.length < receiveMax
        then s.withPort c { s.port c with receive := (s.port c).receive ++ [o] } else s.errorUp c) :=
      .ite (State.withPort_keeps rfl (.inl rfl)) (State.errorUp_keeps c s)
    exact hone.trans (ih _)

theorem State.noteResult_keeps (code : ResultCode) (kind : Octet) (o : Origin) (s : State) :
    Keeps s (s.noteResult code kind o) := (State.noteResult_reacts code kind o s).keeps

/-- A request judged keeps the laws where its owner does (R131 to R133). -/
theorem State.judge_keeps {own : State → Reply} (hown : ∀ s, Keeps s (own s).st) (kind : Octet) (o : Origin) (s : State) :
    Keeps s (s.judge kind o own).st := by
  unfold State.judge
  split
  · exact State.noteResult_keeps _ kind o s
  · exact (hown s).trans (State.noteResult_keeps _ kind o _)

theorem State.serve_keeps {own : State → Reply} (hown : ∀ s, Keeps s (own s).st) (kind : Octet) (m : CabMsg) (s : State) :
    Keeps s (s.serve kind m own) :=
  (State.judge_keeps hown kind _ s).trans (State.post_keeps m.cab _ _)

/-! ## A cab's control inputs and its loss -/

theorem State.putControls_moves (c : Cab) (r : Controls) (s : State) : Moves s (s.putControls c r) :=
  .of_lawView (by simp [State.lawView, State.putControls])
    (StoreLaw.congr · (by simp [State.putControls]) (by simp [State.putControls]) (by simp [State.putControls])
      (by simp [State.putControls]))
    (by simp [State.putControls])

theorem State.withPort_port_ne {c d : Cab} (h : d ≠ c) (p : Port) (s : State) : (s.withPort c p).port d = s.port d := by
  cases c <;> cases d <;> first | rfl | exact absurd rfl h

/-- Whatever becomes of one port, the other cab's eligibility is as it was. -/
theorem State.withPort_statusBut {c : Cab} (p : Port) {s : State} (h : StatusLaw s) :
    StatusBut c (s.withPort c p) := by
  obtain ⟨htok, hdrive, helig, hconfig, htimers⟩ := h
  refine ⟨htok.congr (by simp), by simpa [DriveLaw] using hdrive, fun d hd hne => ?_,
    by simpa [ConfigLaw] using hconfig, by simpa [ModeTimerLaw] using htimers⟩
  simpa [State.eligible, State.withPort_port_ne hne] using helig d (by simpa using hd)

theorem StatusBut.reacts {c : Cab} {s t : State} (h : StatusBut c s) (hr : Reacts s t) : StatusBut c t := by
  obtain ⟨htok, hdrive, helig, hconfig, htimers⟩ := h
  obtain ⟨-, -, htoken, hu, hl, hline, -, hmode, hp, hw, hc, -, -⟩ := State.record_parts hr.record
  refine ⟨htok.congr htoken, ?_, ?_, ?_, ?_⟩
  · simpa only [DriveLaw, hmode, htoken] using hdrive
  · intro d hd hne
    simpa only [State.eligible, State.port_congr hu hl] using helig d (htoken ▸ hd) hne
  · simpa only [ConfigLaw, hmode, LineStore.profile_of_stored hline] using hconfig
  · simpa only [ModeTimerLaw, hmode, hp, hw, hc] using htimers

/-- SILENCE_TIMER_EXPIRY keeps the laws: the token goes by the role of the cab whose link is lost (R141, R184). -/
theorem State.linkLost_keeps (c : Cab) (s : State) :
    Keeps s ((s.withPort c { s.port c with link := .lost, silence := none }).cabLost c) := by
  obtain ⟨u, hu⟩ : ∃ u : State, u = s.withPort c { s.port c with link := .lost, silence := none } := ⟨_, rfl⟩
  have hmoves : Moves s u := hu ▸ .of_lawView (by simp [State.lawView])
    (StoreLaw.congr · (by simp) (by simp) (by simp) (by simp)) (by simp)
  rw [← hu]
  refine Keeps.trans ?_ (State.abandonLoad_keeps c (u.tokenLoss c))
  refine (hmoves.trans (State.tokenLoss_moves c u)).keeps (fun hl => ?_) fun hl => ?_
  · obtain ⟨-, -, hside, hstatus⟩ := (carLaw_iff s).1 hl
    exact ⟨State.tokenLoss_side (by simpa [SideLaw, hu] using hside),
      State.tokenLoss_status (hu ▸ State.withPort_statusBut _ hstatus)⟩
  · rcases State.tokenLoss_driver c u with hd | ⟨he, -⟩
    · exact hd
    · rw [he, hu]
      have hdriver : DriverTerm s := hl.1
      have hcontrols (d : Cab) : ((s.withPort c { s.port c with link := .lost, silence := none }).port d).controls =
          (s.port d).controls := by
        by_cases hd : d = c
        · rw [hd, State.withPort_port_same]
        · rw [State.withPort_port_ne hd]
      unfold DriverTerm State.drivingControls at *
      simpa [hcontrols] using hdriver

/-- A new record up to the loss of a cab whose key it shows gone OFF (R141, R185). -/
def State.takeKey (c : Cab) (r : Controls) (s : State) : State :=
  let s1 := s.putControls c r
  let s2 := if r.button then s1.addCause .cabEmergency else s1
  if (s.port c).keyOn ∧ r.key = false then s2.cabLost c else s2

theorem State.putControls_status {c : Cab} {r : Controls} {s : State} (h : StatusLaw s)
    (hkey : (s.port c).keyOn = true → r.key = true) : StatusLaw (s.putControls c r) := by
  obtain ⟨htok, hdrive, helig, hconfig, htimers⟩ := State.withPort_statusBut (c := c)
    { s.port c with controls := some r } h
  obtain ⟨-, -, he, -, -⟩ := h
  refine ⟨htok, hdrive, fun d hd => ?_, hconfig, htimers⟩
  by_cases hdc : d = c
  · subst hdc
    have hold := he d (by simpa [State.putControls] using hd)
    simp only [State.eligible, Bool.and_eq_true, decide_eq_true_eq] at hold
    simpa [State.eligible, State.putControls, Port.keyOn, hold.2] using hkey hold.1
  · exact helig d hd hdc

/-- What a new record makes of the laws before the lever is read: all but DRIVER's are kept. -/
theorem State.takeKey_laws (c : Cab) (r : Controls) (s : State) :
    Moves s (s.takeKey c r) ∧ (CarLaw s → SideLaw (s.takeKey c r) ∧ StatusLaw (s.takeKey c r)) := by
  obtain ⟨u, hu⟩ : ∃ u : State, u = if r.button then (s.putControls c r).addCause .cabEmergency
    else s.putControls c r := ⟨_, rfl⟩
  have hreacts : Reacts (s.putControls c r) u := hu ▸ .ite (State.addCause_reacts (by decide) _) (.refl _)
  have hmoves : Moves s u := (State.putControls_moves c r s).trans hreacts.toMoves
  have hside (hl : CarLaw s) : SideLaw u := by
    obtain ⟨-, -, hside, -⟩ := (carLaw_iff s).1 hl
    exact hreacts.turns.side (by simpa [SideLaw, State.putControls] using hside)
  have htake : s.takeKey c r = if (s.port c).keyOn ∧ r.key = false then u.cabLost c else u := by rw [hu]; rfl
  rw [htake]
  split
  · have hloss : Moves s (u.tokenLoss c) := hmoves.trans (State.tokenLoss_moves c u)
    refine ⟨hloss.trans (State.abandonLoad_moves c _), fun hl => ?_⟩
    obtain ⟨hrack, hhold, -, hstatus⟩ := (carLaw_iff s).1 hl
    have hcar : CarLaw (u.tokenLoss c) := (carLaw_iff _).2 ⟨hloss.rack hrack, hloss.hold hhold,
      State.tokenLoss_side (hside hl), State.tokenLoss_status ((State.withPort_statusBut _ hstatus).reacts hreacts)⟩
    exact ((carLaw_iff _).1 ((State.abandonLoad_keeps c _).car hcar)).2.2
  · next hkey =>
    refine ⟨hmoves, fun hl => ⟨hside hl, hreacts.wakes.status (State.putControls_status ((carLaw_iff s).1 hl).2.2.2
      fun hon => ?_)⟩⟩
    refine Classical.byContradiction fun hoff => ?_
    exact hkey ⟨hon, by simpa using hoff⟩

/-- What a new record's lever, deadman and selector make of the state its key has left (R185). -/
def State.readLever (c : Cab) (r : Controls) (before : State) (s : State) : State :=
  let s1 := s.driverTerm.judgeVigilance
  let s2 := if s1.token.driving = some c ∧ before.selectorOfCab c ≠ some r.selector then s1.evaluate else s1
  s2.rollReselect before.selectedDir

theorem State.takeControls_eq (c : Cab) (r : Controls) (s : State) : s.takeControls c r =
    if (State.readLever c r s (s.takeKey c r)).mode.mode = .parked ∧ r.key then
      (State.readLever c r s (s.takeKey c r)).changeMode .waking
    else State.readLever c r s (s.takeKey c r) := rfl

theorem State.readLever_reacts (c : Cab) (r : Controls) (before s : State) :
    Reacts s.driverTerm (State.readLever c r before s) :=
  .trans (.ite ((State.judgeVigilance_reacts _).trans (State.evaluate_reacts _)) (State.judgeVigilance_reacts _))
    (State.rollReselect_reacts _ _)

/-- After the DRIVER term a new record wakes the car at most (R185, R194). -/
theorem State.takeControls_wakes (c : Cab) (r : Controls) (s : State) :
    Wakes (s.takeKey c r).driverTerm (s.takeControls c r) := by
  have hreacts := State.readLever_reacts c r s (s.takeKey c r)
  rw [State.takeControls_eq]
  split
  · next h => exact hreacts.wakes.trans (State.changeMode_wakes (.inl h.1) (.inr rfl))
  · exact hreacts.wakes

/-- What a new record's lever, deadman, selector and, in PARKED, key make of the state its key has left (R185). -/
theorem State.takeControls_keeps (c : Cab) (r : Controls) (s : State) : Keeps s (s.takeControls c r) := by
  obtain ⟨hmoves, hcar⟩ := s.takeKey_laws c r
  have hturns := State.driverTerm_turns (s.takeKey c r)
  have hwakes := State.takeControls_wakes c r s
  refine (hmoves.trans (hturns.toMoves.trans hwakes.toMoves)).keeps (fun hl => ?_) fun _ =>
    hwakes.driverTerm (State.driverTerm_law _)
  obtain ⟨hside, hstatus⟩ := hcar hl
  exact ⟨hwakes.side (hturns.side hside), hwakes.status (State.driverTerm_status hstatus)⟩

/-! ## Owners of the cab requests -/

theorem ownCabState_keeps (c : Cab) (p : List Octet) (s : State) : Keeps s (ownCabState c p s).st := by
  unfold ownCabState
  split
  · exact .refl s
  · exact State.takeControls_keeps c _ s

/-- What the laws do not read may be replaced. -/
theorem Keeps.of_view {s t : State} (h : t.lawView = s.lawView) (hr : t.record = s.record) : Keeps s t :=
  (Reacts.of_view h hr).keeps

theorem ownReadStatus_keeps (c : Cab) (s : State) : Keeps s (ownReadStatus c s).st := by
  have hflags : Keeps s (s.withFlags (s.flags.emptied c)) := .of_view (by simp [State.lawView]) (by simp [State.record])
  exact hflags.trans (State.withPort_keeps (by cases c <;> rfl) (.inl (by cases c <;> rfl)))

theorem ownTransferCounters_keeps (s : State) : Keeps s (ownTransferCounters s).st :=
  .of_view (by simp [State.lawView, ownTransferCounters, acceptWith])
    (by simp [State.record, ownTransferCounters, acceptWith])

theorem ownReadResetCause_keeps (s : State) : Keeps s (ownReadResetCause s).st :=
  .of_view (by simp [State.lawView, ownReadResetCause]) (by simp [State.record, ownReadResetCause])

theorem ownOpenCab_keeps (c : Cab) (s : State) : Keeps s (ownOpenCab c s).st := by
  unfold ownOpenCab
  split
  · next h =>
    obtain ⟨helig, hnone, hready, -, -⟩ := h
    refine State.tokenTo_keeps (fun he => absurd (he ▸ hnone) (by simp [Token.plain])) fun hl =>
      ⟨tokenLaw_plain c s, fun d hd => ?_, Token.mode_drive _, Token.mode_ne_config _, ?_⟩
    · cases hd
      exact helig
    · refine Classical.byContradiction fun hne => ?_
      obtain ⟨-, -, -, -, -, -, hconfig, -⟩ := (carLaw_iff s).1 hl
      exact absurd (hready.symm.trans (hconfig.2 hne)) (by decide)
  · exact .refl s

theorem ownCloseCab_keeps (c : Cab) (s : State) : Keeps s (ownCloseCab c s).st := by
  unfold ownCloseCab
  split
  · next h =>
    exact State.tokenTo_keeps (State.tokenLeft_ne h.1) fun hl =>
      State.tokenLeft_suits (profile_of_driving hl (by simp [h.1]))
  · exact .refl s

theorem ownLendDrive_keeps (c : Cab) (s : State) : Keeps s (ownLendDrive c s).st := by
  unfold ownLendDrive
  split
  · exact .refl s
  · next hdriving =>
    have hc : s.token.driving = some c := by simpa using hdriving
    split
    · exact .refl s
    · split
      · next h =>
        obtain ⟨-, -, helig⟩ := h
        refine State.tokenTo_keeps (fun he => ?_) fun hl => ⟨tokenLaw_lent c s, fun d hd => ?_, Token.mode_drive _,
          Token.mode_ne_config _, profile_of_driving hl (by simp [hc])⟩
        · have hd := hc
          rw [he] at hd
          exact otherCab_ne c (Option.some.inj hd)
        · cases hd
          exact helig
      · exact .refl s

theorem ownReturnDrive_keeps (c : Cab) (s : State) : Keeps s (ownReturnDrive c s).st := by
  unfold ownReturnDrive
  split
  · next l hlink =>
    split
    · next h =>
      obtain ⟨hc, -, helig⟩ := h
      refine State.tokenTo_keeps (fun he => absurd (he ▸ hlink) (by simp [Token.plain])) fun hl =>
        ⟨tokenLaw_plain l s, fun d hd => ?_, Token.mode_drive _, Token.mode_ne_config _,
          profile_of_driving hl (by simp [hc])⟩
      cases hd
      exact helig
    · exact .refl s
  · exact .refl s

/-- The causes an acknowledgement leaves are among those held. -/
theorem State.causesLeft_isEmpty {s : State} (h : s.causesLeft.isEmpty = false) : s.brk.causes.isEmpty = false := by
  refine Classical.byContradiction fun hne => ?_
  have hnone : s.brk.causes.isEmpty = true := by simpa using hne
  simp only [CauseSet.isEmpty, Bool.not_eq_true', Bool.or_eq_false_iff] at hnone
  obtain ⟨⟨⟨⟨⟨⟨⟨⟨⟨-, -⟩, hv⟩, -⟩, hc⟩, -⟩, hb⟩, -⟩, -⟩, -⟩ := hnone
  simp [State.causesLeft, CauseSet.isEmpty, hv, hc, hb] at h

end Sys2Proof.Machine

/-! SUPPORT. What the owners of the brake and door requests keep. -/

namespace Sys2Proof.Machine

/-! ## Owners of brakes and doors -/

theorem State.removeEnded_lawView (first : Option FirstCause) (s : State) :
    (s.removeEnded first).doors = s.doors ∧ (s.removeEnded first).sup = s.sup ∧
      (s.removeEnded first).handler = s.handler ∧ (s.removeEnded first).lineCode = s.lineCode ∧
      (s.removeEnded first).contact = s.contact ∧ (s.removeEnded first).pending = s.pending ∧
      (s.removeEnded first).record = s.record := by
  simp [State.removeEnded, State.record]

/-- With no cause left the record goes and EMERGENCY returns to 0 (R87, R103). -/
theorem State.emergencyEnds_reacts {s : State} {x : Terms} (h : s.causesLeft.isEmpty = true)
    (hdriver : x.driver = s.brk.terms.driver) (hsup : x.supervision = s.brk.terms.supervision)
    (hvalley : x.valley = s.brk.terms.valley) (hcontact : x.contact = s.brk.terms.contact) (hemergency : x.emergency = 0) :
    Reacts s ((s.removeEnded none).setTerms x) := by
  obtain ⟨hterms, hcauses, hfirst, hlaw⟩ := State.setTerms_effect x (s.removeEnded none)
  obtain ⟨hdoors, hsupE, hhandler, hcode, hcontactE, hpending, hrecordE⟩ := s.removeEnded_lawView none
  have hrecord : ((s.removeEnded none).setTerms x).record = s.record := by
    obtain ⟨h1, h2, h3, h4, h5, h6, h7, -, -, -, -, h12, -⟩ := State.record_parts hrecordE
    simp [State.record, hterms, hdriver, h1, h2, h3, h4, h5, h6, h7, h12]
  have hempty : ((s.removeEnded none).setTerms x).brk.causes.isEmpty = true := hcauses ▸ (by simpa using h)
  have hunreleased : s.brk.Unreleased ((s.removeEnded none).setTerms x).brk :=
    .trans (.of_get fun b => by cases b <;> simp [Brakes.get]) (State.setTerms_unreleased x _)
  constructor
  · constructor
    case output => exact fun _ => hlaw
    case cause => simp only [CauseLaw, hterms, hempty, hfirst, hemergency]; simp
    case rack => exact fun hl hr => ⟨hempty, by simpa using (hl (hunreleased .rack hr ▸ hr)).2⟩
    case hold => exact fun hl hr => by simpa [hdoors] using hl (hunreleased .hold hr ▸ hr)
    case stores => exact StoreLaw.of_record hrecord
    case supTerm => simp [SupTerm, hterms, hsup, hsupE]
    case valleyTerm => simp [ValleyTerm, hterms, hvalley, hhandler, hcode]
    case contactTerm => simp [ContactTerm, hterms, hcontact, hcontactE]
    case pending => simpa using hpending
  · exact hrecord
  · simp [hdoors]
  · intro hl hside
    have happlied : ((s.removeEnded none).brk.get .hold).state = .applied := by
      simpa [Brakes.get] using hl (by simpa [hdoors] using hside)
    exact State.setTerms_applied x .hold happlied

/-- Causes whose conditions have ended leave the set (R102, R103). -/
theorem State.acknowledge_reacts (s : State) : Reacts s s.acknowledge := by
  cases h : s.causesLeft.isEmpty
  · have hheld := State.causesLeft_isEmpty h
    rw [State.acknowledge_kept h]
    constructor
    · constructor
      case output => exact fun hl => hl.congr (by simp) (by simp) (by simp) (by simp) (by simp)
      case cause => simp [CauseLaw, h, hheld]
      case rack => exact fun hl hr => absurd (hl (by simpa using hr)).1 (by simp [hheld])
      case stores => exact StoreLaw.of_record (by simp [State.record, State.removeEnded])
      all_goals simp [SupTerm, ValleyTerm, ContactTerm, HoldLaw, State.removeEnded]
    all_goals simp [State.record, State.removeEnded, SideHeld]
  · rw [State.acknowledge_emptied h]
    exact .trans (State.emergencyEnds_reacts (x := { s.brk.terms with emergency := 0 }) h rfl rfl rfl rfl rfl)
      (State.releaseRack_reacts _)

theorem ownEmergencyAck_keeps (s : State) : Keeps s (ownEmergencyAck s).st := by
  unfold ownEmergencyAck
  split
  · exact (State.acknowledge_reacts s).keeps
  · exact .refl s

theorem State.releaseValve_other {b c : BrakeId} (h : c ≠ b) (s : State) :
    (s.releaseValve b).brk.get c = s.brk.get c := by
  unfold State.releaseValve
  split <;> (try rfl) <;> (dsimp only; split <;> simp [State.setBrake_other h])

theorem State.holdMayRelease_iff (s : State) : s.holdMayRelease = true ↔
    s.doors.allClosed = true ∧ s.doors.sideReleased = false ∧ s.brk.causes.isEmpty = true ∧
      s.brk.rack.state = .released ∧ s.directionSelected = true ∧ s.brk.hold.state ≠ .fault := by
  simp [State.holdMayRelease, and_assoc]

theorem State.directionSelected_driving {s : State} (h : s.directionSelected = true) : s.token.driving ≠ none := by
  intro hnone
  simp [State.directionSelected, State.drivingControls, hnone] at h

/-- HOLD_RELEASE opens the holding brake of a driven car with all leaves closed (R95, R98). -/
theorem ownHoldRelease_keeps (s : State) : Keeps s (ownHoldRelease s).st := by
  unfold ownHoldRelease
  split
  · next hmay =>
    obtain ⟨hclosed, hnone, -, -, hdir, -⟩ := s.holdMayRelease_iff.1 hmay
    obtain ⟨hterms, hcauses, hfirst, -⟩ := Brakes.still_iff.1 (State.releaseValve_still .hold s)
    have hrack : (s.releaseValve .hold).brk.rack = s.brk.rack := State.releaseValve_other (c := .rack) (by decide) s
    have hrecord : (s.releaseValve .hold).record = s.record := by simp [State.record, hterms]
    have hvalve : Keeps s (s.releaseValve .hold) := by
      refine ⟨fun h => State.releaseValve_law h .hold, ?_, ?_, fun hl => ?_, StoreLaw.of_record hrecord, by simp⟩
      · simp [CauseLaw, hterms, hcauses, hfirst]
      · have hcontrols : (s.releaseValve .hold).drivingControls = s.drivingControls :=
          State.drivingControls_congr (by simp) (by simp) (by simp)
        simp [TermLaw, hterms, hcontrols]
      · obtain ⟨hr, -, -, hstatus⟩ := (carLaw_iff s).1 hl
        have hdrive : s.mode.mode = .drive := hstatus.2.1.2 (State.directionSelected_driving hdir)
        refine (carLaw_iff _).2 ⟨by simpa [RackLaw, hrack, hcauses] using hr, fun _ => by simp [hdrive, hclosed, hnone],
          fun h => by simp [hnone] at h, hstatus.congr ?_ ?_ ?_ ?_ ?_ ?_ ?_ ?_⟩ <;> simp
    have hleft := hvalve.trans (State.leftApplied_reacts .hold _).keeps
    rcases State.releaseCmd_cases .hold s with hc | hc <;> simp only [acceptWith, hc]
    · exact hvalve
    · exact hleft
  · exact .refl s

/-- What lets a side be released (R110, R111). -/
def State.sideMayOpen (s : State) : Prop :=
  s.pos.standstill = true ∧ s.brk.hold.state = .applied ∧ s.pos.confidence = .confirmed

theorem State.unlockLeaf_reacts (i : LeafId) (s : State) : Reacts s (s.unlockLeaf i) :=
  .ite (State.enterLeaf_reacts i _ _ s) (.refl s)

/-- A side set RELEASED with the holding brake APPLIED: the command to apply finds it so (R95, R110). -/
theorem State.setSide_released_eq {d : SideId} {s : State} (h : s.brk.hold.state = .applied)
    (hd : s.doors.side d ≠ .released) :
    s.setSide d .released = (s.withDoors (s.doors.putSide d .released)).flag .doors := by
  have hhold : (((s.withDoors (s.doors.putSide d .released)).flag .doors).brk.get .hold).state = .applied := by
    simpa [Brakes.get] using h
  unfold State.setSide
  rw [if_neg hd]
  simp only [State.applyCmd, hhold]

theorem State.releaseSide_keeps (d : SideId) {s : State} (h : s.sideMayOpen) :
    Keeps s (s.releaseSide d) ∧ (s.releaseSide d).sideMayOpen := by
  unfold State.releaseSide
  split
  · exact ⟨.refl s, h⟩
  · next hlocked =>
    obtain ⟨hstill, happlied, hconf⟩ := id h
    obtain ⟨u, hu⟩ : ∃ u : State, u = s.setSide d .released := ⟨_, rfl⟩
    have hset : u = (s.withDoors (s.doors.putSide d .released)).flag .doors :=
      hu.trans (State.setSide_released_eq happlied (by simp [hlocked]))
    have hside : u.doors.sideReleased = true := by cases d <;> simp [hset, Doors.sideReleased, Doors.putSide]
    have hrecord : u.record = s.record := by simp [hset, State.record]
    have hbrk : u.brk = s.brk := by simp [hset]
    have hpos : u.pos = s.pos := by simp [hset]
    have hopen : Keeps s u := by
      refine (Moves.of_doors hbrk (by simp [hset]) (by simp [hset]) (by simp [hset]) (by simp [hset]) hrecord
        fun _ hr => ?_).keeps (fun hl => ?_) fun hl => ?_
      · simp [hbrk, happlied, BrakeState.energized] at hr
      · obtain ⟨-, -, -, hstatus⟩ := (carLaw_iff s).1 hl
        exact ⟨fun _ => ⟨hpos ▸ hstill, hbrk ▸ happlied, hpos ▸ hconf⟩,
          hstatus.congr (by simp [hset]) (by simp [hset]) (by simp [hset]) (by simp [hset]) (by simp [hset])
            (by simp [hset]) (by simp [hset]) (by simp [hset])⟩
      · exact DriverTerm.congr hl.1 (by rw [hbrk]) (by simp [hset]) (by simp [hset]) (by simp [hset])
    rw [← hu]
    have hleaves : Reacts u (d.leaves.foldl (fun t i => t.unlockLeaf i) u) := by
      cases d <;> exact (State.unlockLeaf_reacts _ u).trans (State.unlockLeaf_reacts _ _)
    have hreleased : (d.leaves.foldl (fun t i => t.unlockLeaf i) u).doors.sideReleased = true := by
      have hleaf (t : State) (i : LeafId) : (t.unlockLeaf i).doors.sideReleased = t.doors.sideReleased := by
        have hsides (j : SideId) : (t.unlockLeaf i).doors.side j = t.doors.side j := by
          unfold State.unlockLeaf
          dsimp only
          split <;> simp [State.enterLeaf]
        have ha := hsides .a
        have hb := hsides .b
        simp only [Doors.side] at ha hb
        simp [Doors.sideReleased, ha, hb]
      cases d <;> simp [SideId.leaves, hleaf, hside]
    obtain ⟨-, -, -, -, -, -, hposl, -⟩ := State.record_parts hleaves.record
    exact ⟨hopen.trans hleaves.keeps, by rw [hposl, hpos]; exact hstill,
      hleaves.sideHeld (fun _ => hbrk ▸ happlied) hreleased, by rw [hposl, hpos]; exact hconf⟩

theorem State.doorsMayRelease_sideMayOpen {s : State} (h : s.doorsMayRelease = true) : s.sideMayOpen := by
  simp only [State.doorsMayRelease, Bool.and_eq_true, decide_eq_true_eq] at h
  exact ⟨h.1.1.1.2, h.1.1.2, h.2⟩

theorem State.releaseSides_keeps (sides : List SideId) {s : State} (hopen : s.sideMayOpen) :
    Keeps s (sides.foldl (fun t d => t.releaseSide d) s) := by
  induction sides generalizing s with
  | nil => exact .refl s
  | cons d rest ih =>
    obtain ⟨hkeeps, hstays⟩ := State.releaseSide_keeps d hopen
    exact hkeeps.trans (ih hstays)

theorem ownDoorRelease_keeps (p : List Octet) (s : State) : Keeps s (ownDoorRelease p s).st := by
  unfold ownDoorRelease
  split
  · exact .refl s
  · next hmay =>
    split
    · exact .refl s
    · next sides _ =>
      split
      · exact State.releaseSides_keeps sides (State.doorsMayRelease_sideMayOpen (by simpa using hmay))
      · exact .refl s

theorem State.closeLeafAgain_reacts (i : LeafId) (s : State) : Reacts s (s.closeLeafAgain i) := by
  have htimer (x : Leaf) (hx : x.state = (s.doors.leaf i).state) : Reacts s (s.withDoors (s.doors.putLeaf i x)) := by
    refine .of_view ?_ (by simp [State.record])
    cases i <;> simp_all [State.lawView, Doors.allClosed, Doors.sideReleased, Doors.putLeaf, Doors.leaf] <;> rfl
  unfold State.closeLeafAgain
  dsimp only
  split
  · exact htimer _ rfl
  · exact State.enterLeaf_reacts i _ _ s
  · exact .ite (State.enterLeaf_reacts i _ _ s) (.refl s)
  all_goals exact .refl s

theorem State.closeSide_reacts (d : SideId) (s : State) : Reacts s (s.closeSide d) := by
  have hagain (t : State) (i : LeafId) :
      Reacts t (if (s.doors.leaf i).state.withdraws then t else t.closeLeafAgain i) :=
    .ite (.refl t) (State.closeLeafAgain_reacts i t)
  have hfold (l : List LeafId) (t : State) : Reacts t
      (l.foldl (fun t i => if (s.doors.leaf i).state.withdraws then t else t.closeLeafAgain i) t) := by
    induction l generalizing t with
    | nil => exact .refl t
    | cons i rest ih => exact (hagain t i).trans (ih _)
  exact ((State.setSide_locked_reacts d s).trans (State.withdrawLeaves_reacts d _)).trans (hfold _ _)

theorem ownDoorClose_keeps (p : List Octet) (s : State) : Keeps s (ownDoorClose p s).st := by
  unfold ownDoorClose
  split
  · exact .refl s
  · next sides h =>
    simp only [acceptWith]
    clear h
    induction sides generalizing s with
    | nil => exact .refl s
    | cons d rest ih => exact (State.closeSide_reacts d s).keeps.trans (ih _)

theorem ownDoorIsolateOn_keeps (p : List Octet) (s : State) : Keeps s (ownDoorIsolateOn p s).st := by
  unfold ownDoorIsolateOn
  split
  · split
    · exact .refl s
    · split
      · exact .refl s
      · split
        · exact (State.enterLeaf_reacts _ _ _ s).keeps
        · exact .refl s
  · exact .refl s

theorem ownDoorIsolateOff_keeps (p : List Octet) (s : State) : Keeps s (ownDoorIsolateOff p s).st := by
  unfold ownDoorIsolateOff
  split
  · split
    · exact (State.enterLeaf_reacts _ _ _ s).keeps
    · exact .refl s
  · exact .refl s

end Sys2Proof.Machine

/-! SUPPORT. What the owners of the profile, line and setup requests keep. -/

namespace Sys2Proof.Machine

/-! ## The profile -/

/-- A turn of written records into a mode that suits token and profile keeps every law. -/
theorem Moves.turned {s u t : State} (hmoves : Moves s u) (hturns : Turns u t) (htimers : CarLaw s → ModeTimerLaw t)
    (hside : CarLaw s → SideLaw u)
    (hdrive : CarLaw s → (t.mode.mode = .drive ↔ s.token.driving ≠ none))
    (hconfig : CarLaw s → (t.mode.mode = .config ↔ u.line.profile ≠ .valid)) (htoken : u.token = s.token)
    (hupper : u.upper = s.upper) (hlower : u.lower = s.lower) (hterm : t.brk.terms.driver = s.brk.terms.driver) :
    Keeps s t := by
  obtain ⟨-, -, htok, hu, hl, -⟩ := State.fixed_parts hturns.fixed
  refine (hmoves.trans hturns.toMoves).keeps (fun h => ?_) fun h =>
    DriverTerm.congr h.1 hterm (htok.trans htoken) (hu.trans hupper) (hl.trans hlower)
  obtain ⟨-, -, -, htokenLaw, -, helig, -, -⟩ := (carLaw_iff s).1 h
  exact ⟨hturns.side (hside h), hturns.status (htimers h) (htoken ▸ hdrive h) (hconfig h) (htokenLaw.congr htoken)
    (helig.congr htoken hupper hlower)⟩

theorem State.changeMode_driver (m : CarMode) (s : State) : (s.changeMode m).brk.terms.driver = s.brk.terms.driver := by
  rcases s.changeMode_cases m with h | h <;> rw [h]
  · exact State.enterMode_driver m s
  · rw [(State.releaseRack_reacts _).wakes.driver, State.enterMode_driver]

/-- A line store written with the change of mode and profile that goes with it (R6, R11). -/
theorem State.profileTurn_keeps {l : LineStore} {m : CarMode} {s : State} (hstores : StoreLaw s → StoreLaw (s.withLine l))
    (hdrive : CarLaw s → (m = .drive ↔ s.token.driving ≠ none)) (hconfig : m = .config ↔ l.profile ≠ .valid) :
    Keeps s ((s.withLine l).changeMode m).profileChanged := by
  have hchanged := State.profileChanged_reacts ((s.withLine l).changeMode m)
  obtain ⟨-, -, -, -, -, -, -, hmode, hp, hw, hc, -, hterm⟩ := State.record_parts hchanged.record
  refine Moves.turned (State.withLine_moves hstores) ((State.changeMode_turns m _).trans hchanged.turns) (fun h => ?_)
    (fun h => ?_) (fun h => ?_) (fun _ => ?_) rfl rfl rfl ?_
  · obtain ⟨-, -, -, -, -, -, -, htimers⟩ := (carLaw_iff s).1 h
    simpa only [ModeTimerLaw, hmode, hp, hw, hc] using State.changeMode_timers (s := s.withLine l) m htimers
  · obtain ⟨-, -, hside, -⟩ := (carLaw_iff s).1 h
    exact hside
  · simpa [hmode, State.changeMode_mode] using hdrive h
  · simpa [hmode, State.changeMode_mode] using hconfig
  · rw [hterm, State.changeMode_driver]; rfl

theorem State.beginLoad_keeps (c : Cab) {s : State} (h : s.mayBegin = true) : Keeps s (s.beginLoad c) := by
  simp only [State.mayBegin, Bool.and_eq_true, decide_eq_true_eq] at h
  refine State.profileTurn_keeps (fun hl => ?_) (fun _ => by simp [h.1.2]) (by simp [LineStore.cleared])
  obtain ⟨-, -, hmargin, ⟨hcount, hdist, hspeed, -, -⟩, hsetup⟩ := hl
  exact ⟨⟨rfl, rfl⟩, ⟨Nat.zero_le _, .nil⟩, hmargin, ⟨hcount, hdist, hspeed, Nat.zero_le _, by simp [LineStore.cleared]⟩,
    hsetup⟩

theorem ownProfileBegin_keeps (c : Cab) (s : State) : Keeps s (ownProfileBegin c s).st := by
  unfold ownProfileBegin
  split
  · exact .refl s
  · split
    · next h => exact State.beginLoad_keeps c h
    · exact .refl s

/-- The rows a loading request writes: the line store but its tables stays. -/
theorem State.putTables_keeps {l : LineStore} {s : State} (hprofile : l.profile = s.line.profile)
    (hstores : StoreLaw s → StoreLaw (s.withLine l)) : Keeps s ((s.withLine l).flag .lineRecord) :=
  (State.withLine_keeps (by rw [hprofile]) hstores).trans (State.flag_reacts _ _).keeps

theorem readSegment_lt {p : List Octet} {i : Nat} {g : Segment} (h : readSegment p = some (i, g)) : i < 256 := by
  unfold readSegment at h
  split at h
  · split at h
    · next hi =>
      obtain ⟨g', -, he⟩ := Option.map_eq_some_iff.1 h
      cases he
      exact Nat.lt_succ_of_le hi
    · cases h
  · cases h

theorem readMarker_bounds {p : List Octet} {i m : Nat} (h : readMarker p = some (i, m)) : i < 128 ∧ m ≤ 99999 := by
  unfold readMarker at h
  split at h
  · split at h
    · next hi =>
      cases h
      exact ⟨Nat.lt_succ_of_le hi.1, hi.2⟩
    · cases h
  · cases h

theorem ownProfileSegment_keeps (c : Cab) (p : List Octet) (s : State) : Keeps s (ownProfileSegment c p s).st := by
  unfold ownProfileSegment
  split
  · exact .refl s
  · split
    · exact .refl s
    · next i g hread =>
      refine State.putTables_keeps rfl fun h => ?_
      obtain ⟨⟨hsegments, hmarkers⟩, hrest⟩ := h
      exact ⟨⟨Table.wf_put g (readSegment_lt hread) hsegments, hmarkers⟩, hrest⟩

theorem ownProfileMarker_keeps (c : Cab) (p : List Octet) (s : State) : Keeps s (ownProfileMarker c p s).st := by
  unfold ownProfileMarker
  split
  · exact .refl s
  · split
    · exact .refl s
    · next i m hread =>
      obtain ⟨hi, hm⟩ := readMarker_bounds hread
      refine State.putTables_keeps rfl fun h => ?_
      obtain ⟨⟨hsegments, hmarkers⟩, hlist, hmargin, ⟨hcount, hdist, hspeed, hend, hvalues⟩, hsetup⟩ := h
      refine ⟨⟨hsegments, Table.wf_put m hi hmarkers⟩, hlist, hmargin,
        ⟨hcount, hdist, hspeed, hend, fun e he => ?_⟩, hsetup⟩
      rcases Table.mem_put he with rfl | he
      · exact hm
      · exact hvalues e he

theorem readCommit_lineEnd {p : List Octet} {k : Commit} (h : readCommit p = some k) : k.lineEnd ≤ 99999 := by
  unfold readCommit at h
  split at h
  · dsimp only at h
    split at h
    · next hk =>
      cases h
      exact hk.2.2.2.2.1
    · cases h
  · cases h

theorem State.loading_of_loadRefusal {s : State} {c : Cab} (h : s.loadRefusal c = none) : s.line.profile = .loading := by
  unfold State.loadRefusal at h
  split at h
  · assumption
  · cases h

theorem ownProfileCommit_keeps (c : Cab) (p : List Octet) (s : State) : Keeps s (ownProfileCommit c p s).st := by
  unfold ownProfileCommit
  split
  · exact .refl s
  · next hload =>
    have hloading := State.loading_of_loadRefusal hload
    split
    · exact .refl s
    · next k hread =>
      split
      · exact (State.flag_reacts _ s).keeps
      · refine State.profileTurn_keeps (fun h => ?_) (fun h => ?_) (by simp [LineStore.committed])
        · obtain ⟨⟨hsegments, hmarkers⟩, hlist, hmargin, ⟨hcount, hdist, hspeed, -, hvalues⟩, hsetup⟩ := h
          exact ⟨⟨Table.wf_below _ hsegments, Table.wf_below _ hmarkers⟩, hlist, hmargin,
            ⟨hcount, hdist, hspeed, readCommit_lineEnd hread, fun e he => hvalues e (List.mem_filter.1 he).1⟩, hsetup⟩
        · obtain ⟨-, -, -, -, hdrive, -, hconfig, -⟩ := (carLaw_iff s).1 h
          have hmode : s.mode.mode = .config := hconfig.2 (by simp [hloading])
          have hnot : ¬ s.token.driving ≠ none := fun hne => by simp [hdrive.2 hne] at hmode
          simpa using hnot

theorem readBackAt_keeps (c : Cab) (t : TableId) (i : Nat) (s : State) : Keeps s (readBackAt c t i s).st := by
  unfold readBackAt
  split
  · exact State.withPort_keeps rfl (.inl rfl)
  · exact .refl s

theorem ownReadProfileEntry_keeps (c : Cab) (p : List Octet) (s : State) : Keeps s (ownReadProfileEntry c p s).st := by
  unfold ownReadProfileEntry
  split
  · split
    · split
      · exact readBackAt_keeps c _ _ s
      · exact .refl s
    · exact .refl s
  · exact .refl s

theorem ownReadProfileEntryNext_keeps (c : Cab) (p : List Octet) (s : State) :
    Keeps s (ownReadProfileEntryNext c p s).st := by
  unfold ownReadProfileEntryNext
  split
  · split
    · exact readBackAt_keeps c _ _ s
    · exact .refl s
  · exact .refl s

/-! ## The position -/

theorem StoreLaw.position {s : State} (h : StoreLaw s) :
    s.pos.count ≤ 99999 ∧ s.pos.distance ≤ 99999 ∧ s.pos.speed ≤ 2000 := by
  obtain ⟨-, -, -, ⟨hcount, hdist, hspeed, -⟩, -⟩ := h
  exact ⟨hcount, hdist, hspeed⟩

/-- A written position keeps every law but the sides'. -/
theorem State.withPos_moves {p : Position} {s : State}
    (h : StoreLaw s → p.count ≤ 99999 ∧ p.distance ≤ 99999 ∧ p.speed ≤ 2000) : Moves s (s.withPos p) := by
  refine .of_lawView (by simp [State.lawView]) (fun hl => ?_) (by simp)
  obtain ⟨hcount, hdist, hspeed⟩ := h hl
  obtain ⟨htable, hlist, hmargin, ⟨-, -, -, hline⟩, hsetup⟩ := hl
  exact ⟨htable, hlist, hmargin, ⟨hcount, hdist, hspeed, hline⟩, hsetup⟩

/-- A written position and what it leads to: the sides' law is judged at the end (R110). -/
theorem State.withPos_keeps {p : Position} {s t : State}
    (h : StoreLaw s → p.count ≤ 99999 ∧ p.distance ≤ 99999 ∧ p.speed ≤ 2000) (hafter : Wakes (s.withPos p) t)
    (hside : SideLaw s → SideLaw t) : Keeps s t := by
  refine ((State.withPos_moves h).trans hafter.toMoves).keeps (fun hl => ?_) fun hl => hafter.driverTerm hl.1
  obtain ⟨-, -, hs, hstatus⟩ := (carLaw_iff s).1 hl
  exact ⟨hside hs, hafter.status hstatus⟩

theorem SideLaw.of_locked {t : State} (h : t.doors.sideReleased = false) : SideLaw t := by simp [SideLaw, h]

/-- No side is released outside CONFIRMED (R110). -/
theorem SideLaw.locked {s : State} (h : SideLaw s) (hconf : s.pos.confidence ≠ .confirmed) :
    s.doors.sideReleased = false := by
  refine Classical.byContradiction fun hne => ?_
  exact hconf (h (by simpa using hne)).2.2

theorem State.setConfidence_keeps (c : Confidence) (s : State) : Keeps s (s.setConfidence c) := by
  unfold State.setConfidence
  split
  · exact .refl s
  · dsimp only
    refine State.withPos_keeps (p := { s.pos with confidence := c }) StoreLaw.position
      (Reacts.trans (.ite (State.withdrawAll_reacts _) (.refl _)) (State.evaluate_reacts _)).wakes fun hs => ?_
    refine .of_locked ((State.evaluate_reacts _).noSide ?_)
    split
    · exact State.withdrawAll_sideReleased _
    · next hconf => exact hs.locked hconf

/-- The authority leaves the line store (R52). -/
theorem State.dropAuthority_moves (s : State) : Moves s ((s.withLine { s.line with authority := none }).flag .lineRecord) :=
  (State.withLine_moves (l := { s.line with authority := none }) id).trans (State.flag_reacts _ _).toMoves

theorem State.declarePosition_keeps {p : Nat} {s : State} (hp : p ≤ s.line.lineEnd) : Keeps s (s.declarePosition p) := by
  obtain ⟨x, hx⟩ : ∃ x : Position, x = { s.pos with count := p, confidence := .declared, distance := 0, correction := 0 } :=
    ⟨_, rfl⟩
  obtain ⟨u, hu⟩ : ∃ u, u = (if (s.withPos x).line.authority.isSome then
      ((s.withPos x).withLine { (s.withPos x).line with authority := none }).flag .lineRecord else s.withPos x) := ⟨_, rfl⟩
  have heq : s.declarePosition p =
      ((if s.pos.confidence = .confirmed then u.withdrawAll else u).evaluate).shadowTest := by rw [hu, hx]; rfl
  have hmoves : Moves s u := by
    refine .trans (State.withPos_moves (p := x) fun h => ?_) (hu ▸ .ite (State.dropAuthority_moves _) (.refl _))
    obtain ⟨-, -, -, ⟨-, -, hspeed, hend, -⟩, -⟩ := h
    exact ⟨hx ▸ Nat.le_trans hp hend, hx ▸ Nat.zero_le _, hx ▸ hspeed⟩
  have hkept : u.token = s.token ∧ u.upper = s.upper ∧ u.lower = s.lower ∧ u.line.profile = s.line.profile ∧
      u.mode = s.mode ∧ u.brk = s.brk ∧ u.doors = s.doors := by
    rw [hu]
    split <;> simp
  obtain ⟨htoken, hupper, hlower, hprofile, hmode, hbrk, hdoors⟩ := hkept
  rw [heq]
  have hafter : Reacts u (if s.pos.confidence = .confirmed then u.withdrawAll else u) :=
    .ite (State.withdrawAll_reacts u) (.refl u)
  have hreacts := (State.evaluate_reacts (if s.pos.confidence = .confirmed then u.withdrawAll else u)).trans
    (State.shadowTest_reacts _)
  refine (hmoves.trans (hafter.trans hreacts).toMoves).keeps (fun h => ?_) fun h => ?_
  · obtain ⟨-, -, hs, hstatus⟩ := (carLaw_iff s).1 h
    refine ⟨.of_locked (hreacts.noSide ?_), (hafter.trans hreacts).wakes.status
      (hstatus.congr htoken hupper hlower hprofile (by rw [hmode]) (by rw [hmode]) (by rw [hmode]) (by rw [hmode]))⟩
    split
    · exact State.withdrawAll_sideReleased u
    · next hconf => rw [hdoors]; exact hs.locked hconf
  · exact (hafter.trans hreacts).wakes.driverTerm (DriverTerm.congr h.1 (by rw [hbrk]) htoken hupper hlower)

theorem ownSetPosition_keeps (p : List Octet) (s : State) : Keeps s (ownSetPosition p s).st := by
  unfold ownSetPosition
  split
  · exact .refl s
  · split
    · exact .refl s
    · split
      · next h => exact State.declarePosition_keeps h.2
      · exact .refl s

/-! ## Restrictions and the authority -/

/-- A change of list, overflow record or authority, reported. -/
theorem State.lineWrite_keeps {l : LineStore} {s : State} (hprofile : l.profile = s.line.profile)
    (hstores : StoreLaw s → StoreLaw (s.withLine l)) : Keeps s (s.withLine l).lineChanged :=
  (State.withLine_keeps (by rw [hprofile]) hstores).trans (State.lineChanged_reacts _).keeps

theorem State.fold_keeps (n : Insertion) (s : State) : Keeps s (s.fold n) :=
  .ite (.refl s) (State.lineWrite_keeps rfl id)

theorem mem_insertRestriction {r x : Restriction} {l : List Restriction} (h : x ∈ insertRestriction r l) :
    x = r ∨ x ∈ l := by
  induction l with
  | nil => simpa [insertRestriction] using h
  | cons y rest ih =>
    simp only [insertRestriction] at h
    split at h
    · simpa using h
    · split at h
      · rcases List.mem_cons.1 h with rfl | h
        · exact .inl rfl
        · exact .inr (List.mem_cons_of_mem _ h)
      · rcases List.mem_cons.1 h with rfl | h
        · exact .inr (by simp)
        · exact (ih h).imp id (List.mem_cons_of_mem _)

/-- An insertion keeps the list's order (R37, R41). -/
theorem insertRestriction_ordered {r : Restriction} {l : List Restriction} (h : l.Pairwise fun a b => a.id < b.id) :
    (insertRestriction r l).Pairwise fun a b => a.id < b.id := by
  induction l with
  | nil => simp [insertRestriction]
  | cons y rest ih =>
    obtain ⟨hy, hrest⟩ := List.pairwise_cons.1 h
    simp only [insertRestriction]
    split
    · next hlt =>
      refine List.pairwise_cons.2 ⟨fun x hx => ?_, h⟩
      rcases List.mem_cons.1 hx with rfl | hx
      · exact hlt
      · exact Nat.lt_trans hlt (hy x hx)
    · split
      · next heq => exact List.pairwise_cons.2 ⟨fun x hx => heq ▸ hy x hx, hrest⟩
      · refine List.pairwise_cons.2 ⟨fun x hx => ?_, ih hrest⟩
        rcases mem_insertRestriction hx with rfl | hx
        · omega
        · exact hy x hx

/-- An insertion of a held id replaces, of another adds one (R41). -/
theorem insertRestriction_length {r : Restriction} {l : List Restriction} :
    (insertRestriction r l).length ≤ l.length + 1 ∧
      ((∃ x ∈ l, x.id = r.id) → (l.Pairwise fun a b => a.id < b.id) → (insertRestriction r l).length = l.length) := by
  induction l with
  | nil => simp [insertRestriction]
  | cons y rest ih =>
    simp only [insertRestriction]
    split
    · next hlt =>
      refine ⟨by simp, fun ⟨x, hx, he⟩ hl => ?_⟩
      obtain ⟨hy, -⟩ := List.pairwise_cons.1 hl
      rcases List.mem_cons.1 hx with rfl | hx
      · omega
      · exact absurd (hy x hx) (by omega)
    · split
      · exact ⟨by simp, fun _ _ => by simp⟩
      · next hne =>
        refine ⟨by simpa using ih.1, fun ⟨x, hx, he⟩ hl => ?_⟩
        rcases List.mem_cons.1 hx with rfl | hx
        · exact absurd he.symm hne
        · simpa using ih.2 ⟨x, hx, he⟩ (List.pairwise_cons.1 hl).2

/-- With the list not full for an id, an insertion of it stays within 16 entries (R37, R39). -/
theorem RestrictionLaw.insert {s : State} {r : Restriction} (h : RestrictionLaw s)
    (hroom : s.line.restrictions.length < 16 ∨ ∃ x ∈ s.line.restrictions, x.id = r.id) :
    RestrictionLaw (s.withLine { s.line with restrictions := insertRestriction r s.line.restrictions }) := by
  obtain ⟨hlen, hordered⟩ := h
  refine ⟨?_, insertRestriction_ordered hordered⟩
  rcases hroom with hlt | hheld
  · exact Nat.le_trans insertRestriction_length.1 hlt
  · exact Nat.le_trans (Nat.le_of_eq (insertRestriction_length.2 hheld hordered)) hlen

theorem StoreLaw.ofList {s : State} {l : List Restriction} (h : StoreLaw s)
    (hl : RestrictionLaw (s.withLine { s.line with restrictions := l })) :
    StoreLaw (s.withLine { s.line with restrictions := l }) := ⟨h.1, hl, h.2.2⟩

theorem Insertion.clip_id {n m : Insertion} {e : Nat} (h : n.clip e = some m) : m.id = n.id := by
  unfold Insertion.clip at h
  split at h
  · cases h
  · split at h
    · cases h
    · split at h
      · cases h
      · cases h
        rfl

theorem insertEntry_keeps {o : Origin} {n : Insertion} {s : State}
    (hroom : s.line.restrictions.length < 16 ∨ ∃ x ∈ s.line.restrictions, x.id = n.id) :
    Keeps s (insertEntry o n s).st := by
  unfold insertEntry
  split
  · exact .refl s
  · split
    · exact .refl s
    · next m hclip =>
      exact State.lineWrite_keeps rfl fun h => h.ofList (h.2.1.insert (by simpa [Insertion.clip_id hclip] using hroom))

theorem refuseFull_keeps (n : Option Insertion) (s : State) : Keeps s (refuseFull n s).st := by
  unfold refuseFull
  dsimp only
  split
  · exact State.fold_keeps _ s
  · exact .refl s

/-- Where the list is not full for a payload's id, the list has room or holds the id (R39). -/
theorem State.roomFor {s : State} {p : List Octet} {n : Insertion} (hfull : s.listFull p = false)
    (hread : readInsertion p = some n) :
    s.line.restrictions.length < 16 ∨ ∃ x ∈ s.line.restrictions, x.id = n.id := by
  unfold readInsertion at hread
  split at hread
  · cases hread
    rw [State.listFull, Bool.and_eq_false_iff] at hfull
    rcases hfull with hlen | hheld
    · exact .inl (by simpa [listMax, Nat.not_le] using decide_eq_false_iff_not.1 hlen)
    · refine .inr ?_
      simpa [LineStore.restriction] using hheld
  · cases hread

theorem ownInsert_keeps (o : Origin) (p : List Octet) (s : State) : Keeps s (ownInsert o p s).st := by
  unfold ownInsert
  split
  · exact .refl s
  · split
    · exact refuseFull_keeps _ s
    · next hfull =>
      split
      · exact .refl s
      · next n hread => exact insertEntry_keeps (State.roomFor (by simpa using hfull) hread)

theorem State.liftEntry_keeps (id : Nat) (s : State) : Keeps s (s.liftEntry id) :=
  State.lineWrite_keeps rfl fun h =>
    h.ofList ⟨Nat.le_trans (List.length_filter_le _ _) h.2.1.1, h.2.1.2.filter _⟩

theorem ownCabLift_keeps (c : Cab) (p : List Octet) (s : State) : Keeps s (ownCabLift c p s).st := by
  unfold ownCabLift
  split
  · exact .refl s
  · split
    · exact .refl s
    · split
      · exact .refl s
      · split
        · exact State.liftEntry_keeps _ s
        · exact .refl s

theorem ownLift_keeps (p : List Octet) (s : State) : Keeps s (ownLift p s).st := by
  unfold ownLift
  split
  · exact .refl s
  · split
    · exact .refl s
    · split
      · exact .refl s
      · exact State.liftEntry_keeps _ s

theorem ownClearOverflow_keeps (s : State) : Keeps s (ownClearOverflow s).st := State.lineWrite_keeps rfl id

theorem State.takeAuthority_keeps (a : Authority) (s : State) : Keeps s (s.takeAuthority a) := by
  have hwrite : Keeps s (s.withLine { s.line with authority := some a }) := State.withLine_keeps Iff.rfl id
  have hmark : Reacts (s.withLine { s.line with authority := some a })
      ((s.withLine { s.line with authority := some a }).withSup { s.sup with passedMark := false }) :=
    State.withSup_reacts rfl
  exact hwrite.trans (hmark.trans (.trans (.ite (State.addCause_reacts (by decide) _) (.refl _))
    (State.lineChanged_reacts _))).keeps

theorem grantAuthority_keeps (g : Grant) (s : State) : Keeps s (grantAuthority g s).st := by
  unfold grantAuthority
  split
  · exact .refl s
  · split
    · exact .refl s
    · split
      · exact .refl s
      · split
        · exact .refl s
        · exact State.takeAuthority_keeps _ s

theorem ownAuthority_keeps (p : List Octet) (s : State) : Keeps s (ownAuthority p s).st := by
  unfold ownAuthority
  split
  · exact .refl s
  · split
    · unfold shortAuthority
      split
      · exact .refl s
      · split
        · exact .refl s
        · split <;> exact .refl s
    · split
      · exact .refl s
      · split
        · exact .refl s
        · exact grantAuthority_keeps _ s

end Sys2Proof.Machine

/-! SUPPORT. What the owners of setup, parking and orders keep, and the framer's operations. -/

namespace Sys2Proof.Machine

/-! ## Gates and parameters -/

theorem writeGate_length (l : List GateEntry) (i least : Nat) (drive : Bool) :
    (writeGate l i least drive).length = l.length := by
  unfold writeGate
  split <;> simp

theorem ownSetGate_keeps (p : List Octet) (s : State) : Keeps s (ownSetGate p s).st := by
  have hwrite (i least : Nat) (d : Bool) : Keeps s (s.withGates (writeGate s.gates i least d)) := by
    refine (Moves.of_lawView (by simp [State.lawView]) (fun h => ?_) (by simp)).keeps (fun h => ?_) fun h => h.1
    · obtain ⟨htable, hlist, hmargin, hrange, hlen, hparams⟩ := h
      exact ⟨htable, hlist, hmargin, hrange, (writeGate_length _ _ _ _).trans hlen, hparams⟩
    · exact ((carLaw_iff s).1 h).2.2
  have hentry (i least d : Nat) : Keeps s (setGateEntry i least d s).st := by
    unfold setGateEntry
    split
    · exact .refl s
    · split
      · exact .refl s
      · split
        · exact .refl s
        · exact hwrite _ _ _
  unfold ownSetGate
  split
  · exact .refl s
  · split
    · split
      · exact .refl s
      · split
        · exact .refl s
        · split
          · exact hentry _ _ _
          · exact .refl s
    · exact .refl s

/-- Every parameter in its range (R135). -/
def Params.Ranged (p : Params) : Prop :=
  ∀ n, n < 20 → ∃ r, paramRanges[n]? = some r ∧ r.1 ≤ p.get n ∧ p.get n ≤ r.2

/-- The margins and the thresholds in their orders (R59, R135). -/
def Params.Ordered (p : Params) : Prop :=
  p.warningMargin ≤ p.serviceMargin ∧ p.serviceMargin ≤ p.emergencyMargin ∧ p.degrade ≤ p.void ∧ p.void ≤ p.shadowVoid

theorem Params.get_set_same {n : Nat} (p : Params) (v : Nat) (h : n < 20) : (p.set n v).get n = v := by
  match n, h with
  | 0, _ | 1, _ | 2, _ | 3, _ | 4, _ | 5, _ | 6, _ | 7, _ | 8, _ | 9, _
  | 10, _ | 11, _ | 12, _ | 13, _ | 14, _ | 15, _ | 16, _ | 17, _ | 18, _ | 19, _ => rfl
  | _ + 20, h => exact absurd h (by omega)

theorem Params.get_set_other {n m : Nat} (p : Params) (v : Nat) (h : m ≠ n) : (p.set n v).get m = p.get m := by
  unfold Params.set
  split <;> unfold Params.get <;> split <;> first | rfl | exact absurd rfl h

theorem clampParam_range {n : Nat} (v : Nat) (h : n < 20) :
    ∃ r, paramRanges[n]? = some r ∧ r.1 ≤ clampParam n v ∧ clampParam n v ≤ r.2 := by
  have hordered : ∀ r ∈ paramRanges, r.1 ≤ r.2 := by decide
  obtain ⟨r, hr⟩ : ∃ r, paramRanges[n]? = some r := ⟨_, List.getElem?_eq_getElem h⟩
  have hle := hordered r (List.mem_of_getElem? hr)
  refine ⟨r, hr, ?_⟩
  simp only [clampParam, hr]
  omega

theorem Params.Ranged.set {p : Params} (h : p.Ranged) (n v : Nat) : (p.set n (clampParam n v)).Ranged := by
  intro m hm
  by_cases he : m = n
  · subst he
    rw [Params.get_set_same p _ hm]
    exact clampParam_range v hm
  · rw [Params.get_set_other p _ he]
    exact h m hm

theorem Params.orderMargins_ranged {p : Params} (h : p.Ranged) : p.orderMargins.Ranged := by
  obtain ⟨_, he13, -, hw⟩ := h 13 (by decide)
  obtain ⟨_, he14, hs, hs'⟩ := h 14 (by decide)
  obtain ⟨_, he15, hm, hm'⟩ := h 15 (by decide)
  cases he13
  cases he14
  cases he15
  simp only [Params.get] at hw hs hs' hm hm'
  intro m hlt
  by_cases h14 : m = 14
  · subst h14
    exact ⟨_, rfl, by simp only [Params.get, Params.orderMargins]; omega, by
      simp only [Params.get, Params.orderMargins]; omega⟩
  · by_cases h15 : m = 15
    · subst h15
      exact ⟨_, rfl, by simp only [Params.get, Params.orderMargins]; omega, by
      simp only [Params.get, Params.orderMargins]; omega⟩
    · have hsame : p.orderMargins.get m = p.get m := by
        unfold Params.get
        split <;> first | rfl | contradiction
      rw [hsame]
      exact h m hlt

theorem Params.orderThresholds_ranged {p : Params} (h : p.Ranged) : p.orderThresholds.Ranged := by
  obtain ⟨_, he3, -, hw⟩ := h 3 (by decide)
  obtain ⟨_, he4, hs, hs'⟩ := h 4 (by decide)
  obtain ⟨_, he5, hm, hm'⟩ := h 5 (by decide)
  cases he3
  cases he4
  cases he5
  simp only [Params.get] at hw hs hs' hm hm'
  intro m hlt
  by_cases h4 : m = 4
  · subst h4
    exact ⟨_, rfl, by simp only [Params.get, Params.orderThresholds]; omega, by
      simp only [Params.get, Params.orderThresholds]; omega⟩
  · by_cases h5 : m = 5
    · subst h5
      exact ⟨_, rfl, by simp only [Params.get, Params.orderThresholds]; omega, by
      simp only [Params.get, Params.orderThresholds]; omega⟩
    · have hsame : p.orderThresholds.get m = p.get m := by
        unfold Params.get
        split <;> first | rfl | contradiction
      rw [hsame]
      exact h m hlt

theorem Params.reorder_ranged {p : Params} (n : Nat) (h : p.Ranged) : (p.reorder n).Ranged := by
  unfold Params.reorder
  split
  case h_1 | h_2 | h_3 => exact Params.orderThresholds_ranged h
  case h_4 | h_5 | h_6 => exact Params.orderMargins_ranged h
  case h_7 => exact h

/-- A write with its owner's order restored leaves margins and thresholds in order (R59, R135). -/
theorem Params.Ordered.write {p : Params} (h : p.Ordered) (n v : Nat) : ((p.set n v).reorder n).Ordered := by
  obtain ⟨hm, hm', ht, ht'⟩ := h
  unfold Params.reorder
  split
  case h_1 | h_2 | h_3 =>
    simp only [Params.Ordered, Params.set, Params.orderThresholds]
    omega
  case h_4 | h_5 | h_6 =>
    simp only [Params.Ordered, Params.set, Params.orderMargins]
    omega
  case h_7 =>
    unfold Params.set
    split <;> first | exact ⟨hm, hm', ht, ht'⟩ | contradiction

theorem State.writeParams_keeps (n v : Nat) (s : State) :
    Keeps s (s.withParams ((s.params.set n (clampParam n v)).reorder n)) := by
  refine (Moves.of_lawView (by simp [State.lawView]) (fun h => ?_) (by simp)).keeps (fun h => ?_) fun h => h.1
  · obtain ⟨htable, hlist, hmargin, hrange, hgates, hparams⟩ := h
    exact ⟨htable, hlist, Params.Ordered.write hmargin n _, hrange, hgates,
      Params.reorder_ranged n (Params.Ranged.set hparams n v)⟩
  · exact ((carLaw_iff s).1 h).2.2

theorem State.judgeTransferTimer_reacts (s : State) : Reacts s s.judgeTransferTimer :=
  .of_view (by simp [State.lawView, State.judgeTransferTimer]) (by simp [State.record, State.judgeTransferTimer])

theorem State.paramWritten_keeps (n : Nat) (s : State) : Keeps s (s.paramWritten n) := by
  unfold State.paramWritten
  refine .ite ((State.evaluate_reacts s).trans (State.shadowTest_reacts _)).keeps (.ite ?_ (.ite
    (State.judgeContact_reacts s).keeps (.ite (State.evaluate_reacts s).keeps (.ite
      (State.judgeTransferTimer_reacts s).keeps (.refl s)))))
  exact .ite (State.setConfidence_keeps _ s) (.refl s)

theorem ownSetParameter_keeps (p : List Octet) (s : State) : Keeps s (ownSetParameter p s).st := by
  unfold ownSetParameter
  split
  · exact .refl s
  · split
    · split
      · exact .refl s
      · split
        · exact .refl s
        · exact (State.writeParams_keeps _ _ s).trans (State.paramWritten_keeps _ _)
    · exact .refl s

/-! ## The framer's operations -/

theorem State.withRx_reacts (r : RadioRx) (s : State) : Reacts s (s.withRx r) :=
  .of_view (by simp [State.lawView]) (by simp [State.record])

theorem State.countEvent_reacts (i : CounterId) (s : State) : Reacts s (s.countEvent i) :=
  .of_view (by simp [State.lawView]) (by simp [State.record])

theorem State.windowMoves_reacts (s : State) : Reacts s s.windowMoves :=
  .of_view (by simp [State.lawView, State.windowMoves]) (by simp [State.record, State.windowMoves])

theorem State.withBuffer_reacts (l : List Octet) (s : State) : Reacts s (s.withBuffer l) :=
  State.withHandler_reacts rfl

theorem State.setRxState_reacts (x : RxState) (s : State) : Reacts s (s.setRxState x) :=
  .ite (.refl s) ((State.withRx_reacts _ s).trans (State.flag_reacts _ _))

/-- The VALLEY term is formed from the handler's mark and the line code after a change of either (R85). -/
theorem State.valleyTerm_reacts_of {s s' : State} (hbrk : s'.brk = s.brk) (hdoors : s'.doors = s.doors)
    (hrecord : s'.record = s.record) (hsup : s'.sup = s.sup) (hcontact : s'.contact = s.contact) :
    Reacts s s'.valleyTerm :=
  State.setTerms_reacts_of hbrk hdoors hrecord (by rw [hbrk]) (by rw [hbrk]) (fun h => by rw [hbrk, hsup]; exact h)
    (fun _ => rfl) (fun h => by rw [hbrk, hcontact]; exact h)

theorem State.setLineCode_reacts (c : LineCode) (s : State) : Reacts s (s.setLineCode c) := by
  unfold State.setLineCode
  dsimp only
  split
  · next h =>
    have heffective : c.effective = s.lineCode.effective := by simp [LineCode.effective, h.1, h.2]
    exact .of_view (by simp [State.lawView, heffective]) (by simp [State.record])
  · exact (State.valleyTerm_reacts_of (s' := (s.withLineCode c).flag .lineCode) (by simp) (by simp)
      (by simp [State.record]) (by simp) (by simp)).trans (State.evaluate_reacts _)

theorem State.holdCode_reacts (s : State) : Reacts s s.holdCode := State.setLineCode_reacts _ s

theorem State.resumeCode_reacts (s : State) : Reacts s s.resumeCode := .ite (State.setLineCode_reacts _ s) (.refl s)

theorem State.takeCode_reacts (v : Nat) (s : State) : Reacts s (s.takeCode v) := State.setLineCode_reacts _ s

theorem State.toHunt_reacts (n : Nat) (s : State) : Reacts s (s.toHunt n) := by
  have hdrop : Reacts s ((s.discard.withRx (s.rx.hunting n)).setRxState .hunt) :=
    (State.withBuffer_reacts [] s).trans ((State.withRx_reacts _ _).trans (State.setRxState_reacts _ _))
  exact .ite (hdrop.trans (State.holdCode_reacts _)) hdrop

theorem State.toChecked_reacts (s : State) : Reacts s s.toChecked :=
  (State.withRx_reacts _ s).trans ((State.setRxState_reacts _ _).trans (State.resumeCode_reacts _))

theorem State.acquire_reacts (o : Octet) (s : State) : Reacts s (s.acquire o) :=
  .ite (State.toChecked_reacts s) (State.withRx_reacts _ s)

theorem State.superframeLoss_reacts (o : Octet) (s : State) : Reacts s (s.superframeLoss o) :=
  (State.withRx_reacts _ s).trans ((State.setRxState_reacts _ _).trans ((State.holdCode_reacts _).trans
    (State.acquire_reacts o _)))

theorem State.powerOff_reacts (s : State) : Reacts s s.powerOff := by
  have hpower : Reacts s (s.withMode { s.mode with modemPower := false }) :=
    .of_view (by simp [State.lawView]) (by simp [State.record])
  exact .ite (hpower.trans (.ite (.refl _) (State.toHunt_reacts 0 _))) (.refl s)

theorem State.beginSearch_reacts (s : State) : Reacts s s.beginSearch :=
  .ite (State.withRx_reacts _ s) (State.toHunt_reacts 0 s)

theorem ownPark_keeps (c : Cab) (s : State) : Keeps s (ownPark c s).st := by
  unfold ownPark
  split
  · next h =>
    refine (State.tokenTo_keeps (fun he => ?_) fun hl => ⟨tokenLaw_nobody s, fun d hd => ?_, ?_, by decide,
      profile_of_driving hl (by simp [h.1])⟩).trans (State.beginSearch_reacts _).keeps
    · exact absurd (he ▸ h.1) (by simp [Token.nobody])
    · simp [Token.nobody] at hd
    · simp [Token.nobody]
  · exact .refl s

/-! ## Orders -/

theorem ownLine_keeps (p : List Octet) (s : State) : Keeps s (ownLine p s).st := by
  unfold ownLine
  split
  · exact .refl s
  · next v _ =>
    exact ((State.withHandler_reacts (x := { s.handler with lineVersion := some v }) rfl).trans
      (State.judgeVersion_reacts _)).keeps

theorem State.stopMarks_reacts (x : Handler) (s : State) : Reacts s (s.withHandler x).valleyTerm :=
  State.valleyTerm_reacts_of (by simp) (by simp) (by simp [State.record]) (by simp) (by simp)

theorem ownStopService_keeps (p : List Octet) (s : State) : Keeps s (ownStopService p s).st := by
  unfold ownStopService
  split
  · split
    · exact (State.stopMarks_reacts _ s).keeps
    · exact .refl s
  · exact .refl s

theorem ownStopEmergency_keeps (p : List Octet) (s : State) : Keeps s (ownStopEmergency p s).st := by
  unfold ownStopEmergency
  split
  · split
    · exact ((State.withHandler_reacts (x := { s.handler with stopEmergency := true }) rfl).trans
        (State.addCause_reacts (k := .valleyStop) (by decide) _)).keeps
    · exact .refl s
  · exact .refl s

theorem ownStopRelease_keeps (s : State) : Keeps s (ownStopRelease s).st := (State.stopMarks_reacts _ s).keeps

theorem ownDoorsClose_keeps (s : State) : Keeps s (ownDoorsClose s).st :=
  ((State.closeSide_reacts .a s).trans (State.closeSide_reacts .b _)).keeps

theorem ownWake_keeps (s : State) : Keeps s (ownWake s).st := by
  unfold ownWake
  split
  · next h => exact (State.changeMode_wakes (.inl h) (.inr rfl)).keeps
  · exact .refl s

theorem ownPoll_keeps (o : Octet) (s : State) : Keeps s (ownPoll o s).st :=
  ((State.withHandler_reacts (x := { s.handler with outcomes := { s.handler.outcomes with accepted := some o } })
    rfl).trans (State.offerStatus_reacts _)).keeps

theorem valleyOwner_keeps (kind order : Octet) (p : List Octet) (s : State) : Keeps s (valleyOwner kind order p s).st := by
  unfold valleyOwner
  split
  · exact ownLine_keeps p s
  · exact ownAuthority_keeps p s
  · exact ownInsert_keeps .valley p s
  · exact ownLift_keeps p s
  · split
    · exact ownStopEmergency_keeps p s
    · exact ownStopService_keeps p s
  · exact ownStopRelease_keeps s
  · exact ownDoorsClose_keeps s
  · exact ownClearOverflow_keeps s
  · exact ownWake_keeps s
  · exact ownPoll_keeps order s
  · exact .refl s

theorem ownHoldApply_keeps (s : State) : Keeps s (ownHoldApply s).st := (State.applyCmd_reacts .hold s).keeps

theorem cabOwner_keeps (kind : Octet) (c : Cab) (p : List Octet) (s : State) : Keeps s (cabOwner kind c p s).st := by
  unfold cabOwner
  split
  · exact ownCabState_keeps c p s
  · exact ownReadStatus_keeps c s
  · split
    · exact ownReadProfileEntryNext_keeps c p s
    · exact ownReadProfileEntry_keeps c p s
  · exact .refl s
  · exact ownTransferCounters_keeps s
  · exact ownReadResetCause_keeps s
  · exact ownOpenCab_keeps c s
  · exact ownCloseCab_keeps c s
  · exact ownLendDrive_keeps c s
  · exact ownReturnDrive_keeps c s
  · exact ownEmergencyAck_keeps s
  · exact ownHoldRelease_keeps s
  · exact ownHoldApply_keeps s
  · exact ownDoorRelease_keeps p s
  · exact ownDoorClose_keeps p s
  · split
    · exact ownDoorIsolateOff_keeps p s
    · exact ownDoorIsolateOn_keeps p s
  · exact ownProfileBegin_keeps c s
  · exact ownProfileSegment_keeps c p s
  · exact ownProfileMarker_keeps c p s
  · exact ownProfileCommit_keeps c p s
  · exact ownSetPosition_keeps p s
  · exact ownInsert_keeps (.cab c) p s
  · exact ownCabLift_keeps c p s
  · exact ownPark_keeps c s
  · split
    · exact ownSetParameter_keeps p s
    · exact ownSetGate_keeps p s
  · exact .refl s

end Sys2Proof.Machine

/-! SUPPORT. Every command and every step keeps the laws. -/

namespace Sys2Proof.Machine

/-! ## Ports and handler -/

theorem State.serveBody_keeps (c : Cab) (l : List Octet) (s : State) : Keeps s (s.serveBody c l) := by
  unfold State.serveBody
  split
  · exact State.serve_keeps (cabOwner_keeps _ c _) _ _ s
  · exact .refl s

theorem State.scan_keeps (c : Cab) (n : Nat) (l : List Octet) (s : State) : Keeps s (State.scan c n l s) := by
  induction n generalizing l s with
  | zero => exact .refl s
  | succ n ih =>
    cases l with
    | nil => exact .refl s
    | cons o rest =>
      simp only [State.scan]
      split
      · exact ih rest s
      · split
        · exact State.setAsm_keeps c _ _ s
        · exact (State.errorUp_keeps c s).trans (ih _ _)
        · split
          · exact (State.heard_keeps c s).trans ((State.serveBody_keeps c _ _).trans (ih _ _))
          · exact (State.heard_keeps c s).trans ((State.setAsm_keeps c _ _ _).trans (State.stash_keeps c _ _))

theorem State.feed_keeps (c : Cab) (l : List Octet) (s : State) : Keeps s (s.feed c l) := by
  unfold State.feed
  split
  · exact State.stash_keeps c l s
  · exact (State.setAsm_keeps c _ _ s).trans (State.scan_keeps c _ _ _)
  · exact (State.setAsm_keeps c _ _ s).trans (State.scan_keeps c _ _ _)

theorem State.cabCommand_keeps (m : CabMsg) (kind : Octet) {own : State → Reply} (hown : ∀ s, Keeps s (own s).st)
    (s : State) : Keeps s (s.cabCommand m kind own) := by
  unfold State.cabCommand
  dsimp only
  split
  · split
    · exact (State.heard_keeps _ s).trans (State.serve_keeps hown _ _ _)
    · exact (State.heard_keeps _ s).trans (State.setAsm_keeps _ _ _ _)
  · exact State.feed_keeps _ _ s

theorem State.takeHeld_keeps (c : Cab) (s : State) : Keeps s (s.takeHeld c) := by
  unfold State.takeHeld
  dsimp only
  split
  · obtain ⟨u, hu⟩ : ∃ u, u = (s.setAsm c .hunting []).serveBody c (heldBody (s.port c).buffer) := ⟨_, rfl⟩
    have hserved : Keeps s u := hu ▸ (State.setAsm_keeps c _ _ s).trans (State.serveBody_keeps c _ _)
    have hempty : Keeps u (u.withPort c { u.port c with receive := [] }) := State.withPort_keeps rfl (.inl rfl)
    rw [← hu]
    exact hserved.trans (hempty.trans (State.feed_keeps c _ _))
  · exact .refl s
  · exact .refl s

theorem State.takeOrder_keeps (kind order : Octet) {own : State → Reply} (hown : ∀ s, Keeps s (own s).st) (s : State) :
    Keeps s (s.takeOrder kind order own) :=
  (State.judge_keeps hown kind .valley s).trans (State.withHandler_reacts (x := { (s.judge kind .valley own).st.handler with
    outcomes := (s.judge kind .valley own).st.handler.outcomes.note order (s.judge kind .valley own).code }) rfl).keeps

theorem State.heed_keeps (kind : Octet) (m : ValleyMsg) {own : State → Reply} (hown : ∀ s, Keeps s (own s).st)
    (s : State) : Keeps s (s.heed kind m own) := by
  refine (State.windowMoves_reacts s).keeps.trans ?_
  exact .ite ((State.contactHeard_reacts _).keeps.trans (State.takeOrder_keeps _ _ hown _)) (.refl _)

theorem State.heedBody_keeps (l : List Octet) (s : State) : Keeps s (s.heedBody l) := by
  unfold State.heedBody
  split
  · exact State.heed_keeps _ _ (valleyOwner_keeps _ _ _) s
  · exact .refl s

theorem State.assemble_keeps (n : Nat) (l : List Octet) (s : State) : Keeps s (State.assemble n l s) := by
  induction n generalizing l s with
  | zero => exact .refl s
  | succ n ih =>
    cases l with
    | nil => exact .refl s
    | cons o rest =>
      simp only [State.assemble]
      split
      · exact ih rest s
      · split
        · exact (State.withBuffer_reacts _ s).keeps
        · exact (State.countEvent_reacts _ s).keeps.trans (ih _ _)
        · exact (State.heedBody_keeps _ s).trans (ih _ _)

theorem State.handOn_keeps (l : List Octet) (s : State) : Keeps s (s.handOn l) :=
  .ite (.refl s) ((State.withBuffer_reacts _ s).keeps.trans (State.assemble_keeps _ _ _))

theorem State.valleyCommand_keeps (m : ValleyMsg) (kind : Octet) {own : State → Reply} (hown : ∀ s, Keeps s (own s).st)
    (s : State) : Keeps s (s.valleyCommand m kind own) :=
  .ite (.refl s) (.ite (State.heed_keeps kind m hown s) (State.handOn_keeps _ s))

/-! ## Position -/

/-- A tooth keeps count, distance and speed in range (R22, R25). -/
theorem Position.tooth_range {p : Position} (h : p.count ≤ 99999) (hspeed : p.speed ≤ 2000) (m : Nat) (d : Dir) (t : Nat) :
    (p.tooth m d t).count ≤ 99999 ∧ (p.tooth m d t).distance ≤ 99999 ∧ (p.tooth m d t).speed ≤ 2000 := by
  refine ⟨?_, ?_, ?_⟩
  · cases d <;> simp only [Position.tooth, countAfter, positionMax] <;> omega
  · simp only [Position.tooth, positionMax]; omega
  · simp only [Position.tooth]
    split
    · unfold speedOf
      split
      · exact Nat.le_refl _
      · exact Nat.min_le_left _ _
    · exact hspeed

/-- A tooth ends a standstill, and every side released at it (R26, R114). -/
theorem State.toothArrival_keeps (d : Dir) (micros : Nat) (s : State) : Keeps s (s.toothArrival d micros) := by
  obtain ⟨u, hu⟩ : ∃ u, u = s.withPos (s.pos.tooth s.params.maxUnconfirmed d micros) := ⟨_, rfl⟩
  have hbefore : Wakes u ((((u.endLong.lineEndTest d).evaluate).rollTooth d).judgeVigilance) :=
    ((State.endLong_reacts u).trans ((State.lineEndTest_reacts d _).trans (State.evaluate_reacts _))).wakes.trans
      ((State.rollTooth_wakes d _).trans (State.judgeVigilance_reacts _).wakes)
  obtain ⟨v, hv⟩ : ∃ v, v = (((u.endLong.lineEndTest d).evaluate).rollTooth d).judgeVigilance := ⟨_, rfl⟩
  rw [← hv] at hbefore
  have heq : s.toothArrival d micros = (v.toothDoors s.pos).shadowTest := by rw [hv, hu]; rfl
  have hdoors : Reacts v (s.toothArrival d micros) :=
    heq ▸ (State.toothDoors_reacts s.pos v).trans (State.shadowTest_reacts _)
  refine State.withPos_keeps (fun h => Position.tooth_range h.position.1 h.position.2.2 _ d micros)
    (hu ▸ hbefore.trans hdoors.wakes) fun hs => .of_locked ?_
  rw [heq]
  refine (State.shadowTest_reacts _).noSide ?_
  unfold State.toothDoors
  split
  · exact State.withdrawAll_sideReleased v
  · next hnot =>
    refine hbefore.noSide ?_
    have hlocked : s.doors.sideReleased = false := by
      refine Classical.byContradiction fun hne => ?_
      exact hnot (.inl (hs (by simpa using hne)).1)
    simpa [hu] using hlocked

theorem State.sensorFault_keeps (s : State) : Keeps s s.sensorFault := by
  have hstart : Keeps s (s.withPos { s.pos with runStart := none }) :=
    State.withPos_keeps (p := { s.pos with runStart := none })
      StoreLaw.position (.refl _) id
  exact hstart.trans (.trans (.ite (.refl _) (State.addCause_wakes .sensor _).keeps) (State.setConfidence_keeps _ _))

theorem execSensorTransition_keeps (x y : Level) (t : Nat) {s s' : State}
    (h : execSensorTransition x y t s = .next s') : Keeps s s' := by
  have hphase : Keeps s (s.withPos { s.pos with phase := phaseOf x y }) :=
    State.withPos_keeps (p := { s.pos with phase := phaseOf x y })
      StoreLaw.position (.refl _) id
  simp only [execSensorTransition, Host.Outcome.next.injEq] at h
  subst h
  split
  · exact .refl s
  · exact hphase
  · exact hphase.trans (State.toothArrival_keeps _ _ _)
  · exact hphase.trans (State.sensorFault_keeps _)

theorem nearestMarker_mem {count m : Nat} {l : List Nat} (h : nearestMarker count l = some m) : m ∈ l := by
  have hfold (l : List Nat) (b : Nat) : l.foldl (fun b x => if markerGap count x < markerGap count b then x else b) b = b ∨
      l.foldl (fun b x => if markerGap count x < markerGap count b then x else b) b ∈ l := by
    induction l generalizing b with
    | nil => exact .inl rfl
    | cons x rest ih =>
      rw [List.foldl_cons]
      rcases ih (if markerGap count x < markerGap count b then x else b) with h | h
      · rw [h]
        split
        · exact .inr (by simp)
        · exact .inl rfl
      · exact .inr (List.mem_cons_of_mem _ h)
  cases l with
  | nil => cases h
  | cons x rest =>
    cases h
    rcases hfold rest x with h | h
    · simp [h]
    · exact List.mem_cons_of_mem _ h

theorem State.markerMatch_keeps {m : Nat} {s : State} (hm : StoreLaw s → m ≤ 99999) : Keeps s (s.markerMatch m) := by
  refine State.withPos_keeps (p := { s.pos with
    correction := (m : Int) - s.pos.count, count := m, distance := 0, confidence := .confirmed })
    (fun h => ⟨hm h, Nat.zero_le _, h.position.2.2⟩)
    ((State.evaluate_reacts _).trans (State.shadowTest_reacts _)).wakes fun hs => ?_
  exact ((State.evaluate_reacts _).trans (State.shadowTest_reacts _)).turns.side
    fun hr => ⟨(hs hr).1, (hs hr).2.1, rfl⟩

theorem execMarkerPulse_keeps {s t : State} (h : execMarkerPulse s = .next t) : Keeps s t := by
  have hmismatch : Keeps s s.markerMismatch := .ite (State.evaluate_reacts s).keeps (State.setConfidence_keeps _ s)
  simp only [execMarkerPulse, Host.Outcome.next.injEq] at h
  subst h
  split
  · exact .refl s
  · split
    · next hvalid =>
      split
      · next m hnear =>
        refine .ite (State.markerMatch_keeps fun hl => ?_) hmismatch
        obtain ⟨e, he, rfl⟩ := List.mem_map.1 (show m ∈ s.line.markers.map (·.2) by
          simpa [LineStore.markerList, hvalid] using nearestMarker_mem hnear)
        obtain ⟨-, -, -, ⟨-, -, -, -, hmarkers⟩, -⟩ := hl
        exact hmarkers e he
      · exact hmismatch
    · exact .refl s

theorem execStandstillDeclaration_keeps {s t : State} (h : execStandstillDeclaration s = .next t) : Keeps s t := by
  simp only [execStandstillDeclaration, Host.Outcome.next.injEq] at h
  subst h
  split
  · exact .refl s
  · have hafter := (State.evaluate_reacts
      (s.withPos { s.pos with standstill := true, standTimer := none, speed := 0, runStart := none })).trans
      (State.standstillBrakes_reacts _)
    exact State.withPos_keeps (p := { s.pos with standstill := true, standTimer := none, speed := 0, runStart := none })
      (fun h => ⟨h.position.1, h.position.2.1, Nat.zero_le _⟩) hafter.wakes
      fun hs => hafter.turns.side fun hr => ⟨rfl, (hs hr).2⟩

/-! ## Brakes and leaves -/

theorem State.setFeedback_reacts (b : BrakeId) (r : Feedback) (s : State) : Reacts s (s.setFeedback b r) := by
  refine .of_view ?_ ?_ <;> cases b <;>
    simp [State.lawView, State.record, State.setFeedback, Brakes.put, Brakes.get]

/-- No reading of a feedback energizes a valve (R89). -/
theorem State.judgeFeedback_reacts (b : BrakeId) (s : State) : Reacts s (s.judgeFeedback b) := by
  unfold State.judgeFeedback
  split
  case h_1 | h_2 => exact State.brakeFault_reacts b s
  case h_3 h _ => 
    refine State.setBrake_reacts (.inr (by simp [h, BrakeState.energized])) ?_
    rintro rfl happlied
    simp [Brakes.get, happlied] at h
  case h_4 | h_5 => exact State.setBrake_reacts (.inl rfl) fun _ _ => rfl
  all_goals exact .refl s

theorem execBrakeFeedbackChange_keeps (b : BrakeId) (r : Feedback) {s t : State}
    (h : execBrakeFeedbackChange b r s = .next t) : Keeps s t := by
  cases h
  exact .ite (.refl s) ((State.setFeedback_reacts b r s).trans (State.judgeFeedback_reacts b _)).keeps

theorem State.readLeaf_reacts {i : LeafId} {x : Leaf} {s : State} (hx : x.state = (s.doors.leaf i).state) :
    Reacts s (s.withDoors (s.doors.putLeaf i x)) := by
  refine .of_view ?_ (by simp [State.record])
  cases i <;> simp_all [State.lawView, Doors.allClosed, Doors.sideReleased, Doors.putLeaf, Doors.leaf] <;> rfl

theorem State.setVigilance_reacts (v : Nat) (s : State) :
    Reacts s (s.setTerms { s.brk.terms with vigilance := v }) := State.setTerms_reacts rfl rfl rfl rfl rfl

theorem execVigilanceTimerExpiry_keeps {s t : State} (h : execVigilanceTimerExpiry s = .next t) : Keeps s t := by
  simp only [execVigilanceTimerExpiry, Host.Outcome.next.injEq] at h
  subst h
  split
  · exact .refl s
  · exact ((State.withWatches_reacts none s.brk.holdTimer s.brk.long s.brk.rollRunning s.brk.rollCount s).trans
      (State.setVigilance_reacts 100 _)).keeps

/-! ## Mode and resets -/

/-- The mode controller written in its mode keeps every law where its timers suit the mode (R193). -/
theorem State.withMode_keeps {x : ModeCtl} {s : State} (hmode : x.mode = s.mode.mode)
    (htimers : ModeTimerLaw s → ModeTimerLaw (s.withMode x)) : Keeps s (s.withMode x) := by
  refine (Moves.of_lawView (s := s) (t := s.withMode x) (by simp [State.lawView, hmode]) id (by simp)).keeps (fun h => ?_)
    fun h => h.1
  obtain ⟨-, -, hside, htok, hdrive, helig, hconfig, ht⟩ := (carLaw_iff s).1 h
  exact ⟨hside, htok, by simpa [DriveLaw, hmode] using hdrive, helig, by simpa [ConfigLaw, hmode] using hconfig, htimers ht⟩

theorem execPeriodTimerExpiry_keeps {s t : State} (h : execPeriodTimerExpiry s = .next t) : Keeps s t := by
  simp only [execPeriodTimerExpiry, Host.Outcome.next.injEq] at h
  subst h
  split
  · exact .refl s
  · next hrunning =>
    refine (State.withMode_keeps ?_ fun ht => ?_).trans (State.beginSearch_reacts _).keeps
    · rfl
    · exact ⟨fun _ => ht.1 (.inl (by simp [hrunning])), ht.2⟩

theorem execWindowClose_keeps {s t : State} (h : execWindowClose s = .next t) : Keeps s t := by
  simp only [execWindowClose, Host.Outcome.next.injEq] at h
  subst h
  split
  · exact .refl s
  · refine (State.withMode_keeps (x := { s.mode with window := none }) rfl fun ht => ?_).trans
      ((State.withBuffer_reacts [] _).trans (State.powerOff_reacts _)).keeps
    exact ⟨fun hp => ht.1 (.inl (by simpa using hp)), ht.2⟩

theorem State.faultUnlocked_reacts (i : LeafId) (s : State) : Reacts s (s.faultUnlocked i) :=
  .ite (State.enterLeaf_reacts i _ _ s) (.refl s)

theorem State.faultAllUnlocked_reacts (s : State) : Reacts s s.faultAllUnlocked :=
  (State.faultUnlocked_reacts .a1 s).trans ((State.faultUnlocked_reacts .a2 _).trans
    ((State.faultUnlocked_reacts .b1 _).trans (State.faultUnlocked_reacts .b2 _)))

/-- The end of waking enters READY (R195). -/
theorem State.enterReady_keeps {s : State} (h : ModeTimerLaw s → s.mode.mode = .waking) : Keeps s (s.enterMode .ready) := by
  have hturns := State.enterMode_turns .ready s
  refine hturns.keeps (fun hl => ?_) fun hl => ?_
  · obtain ⟨-, -, hside, hstatus⟩ := (carLaw_iff s).1 hl
    exact ⟨hturns.side hside, (State.enterMode_wakes (.inr (h hstatus.2.2.2.2)) (.inl rfl)).status hstatus⟩
  · obtain ⟨-, -, htoken, hu, hlow, -⟩ := State.fixed_parts hturns.fixed
    exact DriverTerm.congr hl.1 (State.enterMode_driver .ready s) htoken hu hlow

theorem State.endWaking_keeps {s : State} (h : ModeTimerLaw s → s.mode.mode = .waking) : Keeps s s.endWaking := by
  have hflag (u : State) : Keeps u (if s.brakeCheck ∧ s.doors.allClosed then u.flag .wake else u) :=
    .ite (State.flag_reacts _ u).keeps (.refl u)
  have hcause (u : State) : Keeps u (if s.brakeCheck then u else u.addCause .brakeFeedback) :=
    .ite (.refl u) (State.addCause_wakes _ u).keeps
  have hdoors (u : State) : Keeps u (if s.doors.allClosed then u else u.faultAllUnlocked) :=
    .ite (.refl u) (State.faultAllUnlocked_reacts u).keeps
  exact (((State.enterReady_keeps h).trans (hflag _)).trans ((hcause _).trans (hdoors _))).trans
    (State.releaseRack_reacts _).keeps

theorem execCheckTimerExpiry_keeps {s t : State} (h : execCheckTimerExpiry s = .next t) : Keeps s t := by
  simp only [execCheckTimerExpiry, Host.Outcome.next.injEq] at h
  subst h
  split
  · exact .refl s
  · next hrunning => exact State.endWaking_keeps fun ht => ht.2 (by simp [hrunning])

theorem State.offerAlarm_keyOn_reacts (s : State) : Reacts s (s.offerAlarm .restart).keyOn :=
  (State.offerAlarm_reacts .restart s).trans (State.keyOn_reacts _)

/-- The blocks at a reset meet every law but the stores', which rest on what is retained (R198). -/
theorem State.blocksAt_laws (k : ResetKind) (s : State) :
    OutputLaw (s.blocksAt k) ∧ CauseLaw (s.blocksAt k) ∧ TermLaw (s.blocksAt k) ∧ CarLaw (s.blocksAt k) := by
  have hrest (b : SpringBrake) : b.restart.state.energized = false := by
    cases h : b.feedback <;> simp [SpringBrake.restart, SpringBrake.atReset, h, BrakeState.energized]
  have hvalid (l : LineStore) (h : l.passes = true) : l.profile = .valid := by
    simp only [LineStore.passes, Bool.and_eq_true, decide_eq_true_eq] at h
    exact h.1
  refine ⟨⟨rfl, by simp [State.blocksAt, Brakes.restart]⟩,
    ⟨rfl, by simp [State.blocksAt, Brakes.restart, CauseSet.isEmpty]⟩, ⟨rfl, rfl, rfl, rfl⟩,
    (carLaw_iff _).2 ⟨fun h => ?_, fun h => ?_, .of_locked rfl, (tokenLaw_nobody s).congr rfl, ?_, ?_, ?_, ?_⟩⟩
  · exact absurd h (by simp [State.blocksAt, Brakes.restart, hrest])
  · exact absurd h (by simp [State.blocksAt, Brakes.restart, hrest])
  · simp only [DriveLaw, State.blocksAt, Token.nobody]
    split <;> simp
  · intro c hc
    simp [State.blocksAt, Token.nobody] at hc
  · simp only [ConfigLaw, State.blocksAt]
    split
    · next h =>
      simp only [Bool.and_eq_true] at h
      simp [LineStore.retained, hvalid _ h.2]
    · simp [LineStore.emptied]
  · simp [ModeTimerLaw, State.blocksAt]

theorem paramDefaults_ranged : paramDefaults.Ranged := by
  have hall : ∀ i : Fin 20, paramRanges[i].1 ≤ paramDefaults.get i ∧ paramDefaults.get i ≤ paramRanges[i].2 := by decide
  exact fun n hn => ⟨_, List.getElem?_eq_getElem hn, hall ⟨n, hn⟩⟩

/-- The defaults and what a reset retains are within the stores' laws (R58, R198). -/
theorem State.blocksAt_stores (k : ResetKind) {s : State} (h : StoreLaw s) : StoreLaw (s.blocksAt k) := by
  obtain ⟨⟨hsegments, hmarkers⟩, hlist, hmargin, ⟨hcount, hdist, hspeed, hend, hvalues⟩, hgates, hparams⟩ := h
  refine ⟨?_, ?_, ?_, ⟨?_, Nat.zero_le _, Nat.zero_le _, ?_⟩, ?_, ?_⟩
  · simp only [TableLaw, State.blocksAt]
    split
    · exact ⟨hsegments, hmarkers⟩
    · exact ⟨rfl, rfl⟩
  · simp only [RestrictionLaw, State.blocksAt]
    split
    · exact hlist
    · exact ⟨Nat.zero_le _, .nil⟩
  · simp only [MarginLaw, State.blocksAt]
    split
    · decide
    · exact hmargin
  · simp only [State.blocksAt, Position.restart]
    split
    · exact Nat.zero_le _
    · exact hcount
  · simp only [State.blocksAt]
    split
    · exact ⟨hend, hvalues⟩
    · simp [LineStore.emptied]
  · simp only [State.blocksAt]
    split
    · rfl
    · exact hgates
  · simp only [State.blocksAt]
    split
    · exact paramDefaults_ranged
    · exact hparams

theorem State.restart_keeps (k : ResetKind) (s : State) : Keeps s (s.restart k) := by
  obtain ⟨houtput, hcause, hterms, hcar⟩ := s.blocksAt_laws k
  have hblocks : Keeps s (s.blocksAt k) :=
    ⟨fun _ => houtput, fun _ => hcause, fun _ => hterms, fun _ => hcar, State.blocksAt_stores k, rfl⟩
  exact hblocks.trans (State.offerAlarm_keyOn_reacts _).keeps

end Sys2Proof.Machine

/-! SUPPORT. Every command and every step keeps the laws. -/

namespace Sys2Proof.Machine

/-! ## Time -/

theorem State.drivingControls_pass (s : State) : s.pass.drivingControls = s.drivingControls := by
  unfold State.drivingControls
  simp only [State.pass]
  split
  · next c _ => cases c <;> rfl
  · rfl

theorem State.eligible_pass (c : Cab) (s : State) : s.pass.eligible c = s.eligible c := by
  cases c <;> rfl

/-- Timers that move by a millisecond keep every law. -/
theorem State.pass_keeps (s : State) : Keeps s s.pass := by
  have hmoves : Moves s s.pass := .of_lawView rfl (fun h => h) rfl
  refine hmoves.keeps (fun h => ?_) fun h => ?_
  · obtain ⟨-, -, hside, htok, hdrive, helig, hconfig, ht⟩ := (carLaw_iff s).1 h
    refine ⟨hside, htok, hdrive, fun c hc => (State.eligible_pass c s).trans (helig c hc), hconfig, ?_⟩
    simpa [ModeTimerLaw, State.pass, ModeCtl.pass, countDown] using ht
  · unfold DriverTerm
    rw [State.drivingControls_pass]
    exact h.1

/-! ## Every command -/

/-- Every law is kept by whatever next state a command answers. -/
def Keeping (f : State → Host.Outcome State Fault Refusal) : Prop := ∀ s t, f s = .next t → Keeps s t

theorem Keeping.of_next {f : State → State} (h : ∀ s, Keeps s (f s)) : Keeping fun s => .next (f s) := by
  intro s t he
  cases he
  exact h s

theorem execSilenceTimerExpiry_keeping (c : Cab) : Keeping (execSilenceTimerExpiry c) := .of_next fun s => by
  split
  · exact .refl s
  · exact State.linkLost_keeps c s

theorem execAnswerSent_keeping (c : Cab) : Keeping (execAnswerSent c) := .of_next fun s => by
  split
  · exact .refl s
  · next a _ =>
    have hsent : Keeps s (s.withPort c
        { s.port c with sending := (s.port c).waiting, waiting := none, lastSent := a.octets }) :=
      State.withPort_keeps rfl (.inl rfl)
    exact hsent.trans (State.takeHeld_keeps c _)

theorem execFramingFault_keeping (c : Cab) (ch : Option Octet) : Keeping (execFramingFault c ch) := .of_next fun s => by
  split
  · exact State.errorUp_keeps c s
  · exact State.feed_keeps c _ s

theorem execAbsentKindRequest_keeping (m : AnyMsg) : Keeping (execAbsentKindRequest m) := .of_next fun s => by
  split
  · exact State.cabCommand_keeps _ _ (cabOwner_keeps _ _ _) s
  · exact State.valleyCommand_keeps _ _ (valleyOwner_keeps _ _ _) s

theorem execEvaluationTimerExpiry_keeping : Keeping execEvaluationTimerExpiry := .of_next fun s =>
  ((State.withSup_reacts (x := { s.sup with evalTimer := evaluationPeriod }) rfl).trans (State.evaluate_reacts _)).keeps

theorem State.raiseContact_reacts (n : Nat) (s : State) :
    Reacts s (s.withContact { s.contact with value := n }).judgeContact :=
  (State.withContact_reacts (x := { s.contact with value := n }) rfl).trans (State.judgeContact_reacts _)

theorem execDegradeThresholdReached_keeping : Keeping execDegradeThresholdReached := .of_next fun s =>
  .ite (State.raiseContact_reacts _ s).keeps (.refl s)

theorem execVoidThresholdReached_keeping : Keeping execVoidThresholdReached := .of_next fun s =>
  .ite (.refl s) (State.raiseContact_reacts _ s).keeps

theorem execHoldTimerExpiry_keeping : Keeping execHoldTimerExpiry := .of_next fun s => by
  split
  · exact .refl s
  · exact (State.holdExpired_reacts s).keeps

theorem State.confirm_reacts (n : Nat) (o : Octet) (s : State) : Reacts s (s.confirm n o) :=
  (State.withRx_reacts _ s).trans ((State.setRxState_reacts _ _).trans ((State.windowMoves_reacts _).trans
    (State.acquire_reacts o _)))

theorem execCandidateTest_keeping (n : Nat) (a b : Octet) : Keeping (execCandidateTest n a b) := .of_next fun s =>
  .ite (Reacts.ite (State.confirm_reacts n b s) (State.withRx_reacts _ s)).keeps (.refl s)

theorem State.slip_reacts (n : Nat) (o : Octet) (s : State) : Reacts s (s.slip n o) :=
  (State.countEvent_reacts .slip s).trans ((State.withBuffer_reacts [] _).trans ((State.withRx_reacts _ _).trans
    ((State.windowMoves_reacts _).trans (State.acquire_reacts o _))))

theorem execOfflineCandidateTest_keeping (n : Nat) (a b : Octet) : Keeping (execOfflineCandidateTest n a b) :=
  .of_next fun s => .ite (Reacts.ite (State.slip_reacts n b s) (State.withRx_reacts _ s)).keeps (.refl s)

theorem State.badHeader_reacts (n : Nat) (s : State) : Reacts s (s.badHeader n) :=
  (State.countEvent_reacts .syncErr s).trans ((State.withRx_reacts _ _).trans
    (.ite ((State.countEvent_reacts .loss _).trans (State.toHunt_reacts _ _)) (.refl _)))

theorem State.judgeMarker_reacts (o : Octet) (s : State) : Reacts s (s.judgeMarker o) :=
  .ite (.refl s) (.ite (State.superframeLoss_reacts o s) (State.withRx_reacts _ s))

theorem State.superframe_reacts (o : Octet) (s : State) : Reacts s (s.superframe o) := by
  unfold State.superframe
  split
  · exact .refl s
  · exact State.acquire_reacts o s
  · exact State.acquire_reacts o s
  · exact (State.withRx_reacts _ s).trans (.ite (State.judgeMarker_reacts o _) (.refl _))

theorem execHeaderReceived_keeping (o : Octet) : Keeping (execHeaderReceived o) := .of_next fun s => by
  split
  · exact .refl s
  · exact ((State.withRx_reacts _ s).trans (.ite ((State.withRx_reacts _ _).trans ((State.windowMoves_reacts _).trans
      (State.superframe_reacts o _))) ((State.badHeader_reacts _ _).trans (State.superframe_reacts o _)))).keeps

theorem execOfflineTimerExpiry_keeping : Keeping execOfflineTimerExpiry := .of_next fun s => by
  split
  · exact .refl s
  · exact (State.withRx_reacts _ s).keeps

theorem execFallbackTimerExpiry_keeping : Keeping execFallbackTimerExpiry := .of_next fun s => by
  split
  · exact .refl s
  · exact ((State.withRx_reacts _ s).trans (.ite (State.setRxState_reacts _ _) (.refl _))).keeps

theorem State.judgeWindow_reacts (b : Bool) (n : Nat) (s : State) : Reacts s (s.judgeWindow b n) :=
  .ite ((State.countEvent_reacts .loss s).trans (State.toHunt_reacts _ _))
    (.ite (State.withRx_reacts _ s) (State.withRx_reacts _ s))

theorem execCheckOctetReceived_keeping (l : List Octet) (o : Octet) : Keeping (execCheckOctetReceived l o) :=
  .of_next fun s => .ite ((State.withRx_reacts _ s).trans (.ite (State.judgeWindow_reacts _ _ _)
    (((State.countEvent_reacts .checkFail _).trans (State.withRx_reacts _ _)).trans (State.judgeWindow_reacts _ _ _)))).keeps
    (.refl s)

theorem execFarEndReport_keeping (o : Octet) : Keeping (execFarEndReport o) := .of_next fun s =>
  .ite (State.countEvent_reacts .farFail s).keeps (.refl s)

theorem execCodeOctet_keeping (o : Octet) : Keeping (execCodeOctet o) := .of_next fun s =>
  .ite (State.takeCode_reacts _ s).keeps (.refl s)

theorem execLineCodeHoldExpiry_keeping : Keeping execLineCodeHoldExpiry := .of_next fun s => by
  split
  · exact .refl s
  · exact (State.setLineCode_reacts _ s).keeps

theorem State.withTx_reacts (x : RadioTx) (s : State) : Reacts s (s.withTx x) :=
  .of_view (by simp [State.lawView]) (by simp [State.record])

theorem execTransmitFrame_keeping : Keeping execTransmitFrame := .of_next fun s => by
  split
  · exact .refl s
  · exact ((State.withReports_reacts _ s).trans ((State.withTx_reacts _ _).trans
      (.ite (State.withRx_reacts _ _) (.refl _)))).keeps

theorem execReportSent_keeping : Keeping execReportSent := .of_next fun s => by
  split
  · exact .refl s
  · exact .ite (State.withReports_reacts _ s).keeps (.refl s)

theorem execReportTimerExpiry_keeping : Keeping execReportTimerExpiry := .of_next fun s => by
  split
  · exact .refl s
  · exact ((State.offerStatus_reacts s).trans (State.withReports_reacts _ _)).keeps

theorem State.withMon_reacts (x : Monitor) (s : State) : Reacts s (s.withMon x) :=
  .of_view (by simp [State.lawView]) (by simp [State.record])

theorem execTransferTimerExpiry_keeping : Keeping execTransferTimerExpiry := .of_next fun s => by
  split
  · exact .refl s
  · exact .ite (State.withMon_reacts _ s).keeps (State.withMon_reacts _ s).keeps

theorem State.withValves_reacts (x : ValveWatch) (s : State) : Reacts s (s.withValves x) :=
  .of_view (by simp [State.lawView]) (by simp [State.record])

theorem execValveReadbackChange_keeping (b : BrakeId) (x : Bool) : Keeping (execValveReadbackChange b x) :=
  .of_next fun s => ((State.withValves_reacts _ s).trans (State.withValves_reacts _ _)).keeps

theorem execReadbackTimerExpiry_keeping : Keeping execReadbackTimerExpiry := .of_next fun s => by
  split
  · exact .refl s
  · exact State.restart_keeps _ s

theorem execStoreVerification_keeping : Keeping execStoreVerification := .of_next fun s => by
  split
  · exact .refl s
  · exact .ite (State.withLine_keeps Iff.rfl id) (State.restart_keeps _ s)

theorem execPassengerPress_keeping (i : LeafId) : Keeping (execPassengerPress i) := .of_next fun s =>
  .ite (State.enterLeaf_reacts i _ _ s).keeps (.refl s)

theorem execOpenLimitExpiry_keeping (i : LeafId) : Keeping (execOpenLimitExpiry i) := .of_next fun s =>
  .ite (State.enterLeaf_reacts i _ _ s).keeps (.refl s)

theorem execCloseLimitExpiry_keeping (i : LeafId) : Keeping (execCloseLimitExpiry i) := .of_next fun s =>
  .ite (State.enterLeaf_reacts i _ _ s).keeps (.refl s)

theorem execReversalTimerExpiry_keeping (i : LeafId) : Keeping (execReversalTimerExpiry i) := .of_next fun s =>
  .ite (State.enterLeaf_reacts i _ _ s).keeps (.refl s)

theorem execReleaseTimerExpiry_keeping (b : BrakeId) : Keeping (execReleaseTimerExpiry b) := .of_next fun s =>
  .ite (State.brakeFault_reacts b s).keeps (.refl s)

theorem execApplyTimerExpiry_keeping (b : BrakeId) : Keeping (execApplyTimerExpiry b) := .of_next fun s =>
  .ite (State.brakeFault_reacts b s).keeps (.refl s)

theorem State.readSwitch_reacts {i : LeafId} {x : Leaf} {s : State} (hx : x.state = (s.doors.leaf i).state) :
    Reacts s ((s.withDoors (s.doors.putLeaf i x)).settleLeaf i 10) :=
  (State.readLeaf_reacts hx).trans (State.settleLeaf_reacts i 10 _)

theorem State.openCommand_keeping (kind : Octet) (m : CabMsg) {own : State → Reply} (hown : ∀ s, Keeps s (own s).st) :
    Keeping fun s => .next (s.cabCommand m kind own) := .of_next (State.cabCommand_keeps m kind hown)

theorem State.orderCommand_keeping (kind : Octet) (m : ValleyMsg) {own : State → Reply} (hown : ∀ s, Keeps s (own s).st) :
    Keeping fun s => .next (s.valleyCommand m kind own) := .of_next (State.valleyCommand_keeps m kind hown)

/-- Every command that answers a next state keeps the laws and the queue. -/
theorem exec_keeping (i : Instr) : Keeping (exec i) := by
  cases i with
  | cabState m => exact State.openCommand_keeping _ m (ownCabState_keeps _ _)
  | readStatus m => exact State.openCommand_keeping _ m (ownReadStatus_keeps _)
  | readProfileEntry m => exact State.openCommand_keeping _ m (ownReadProfileEntry_keeps _ _)
  | readProfileEntryNext m => exact State.openCommand_keeping _ m (ownReadProfileEntryNext_keeps _ _)
  | readCounters m => exact State.openCommand_keeping _ m Keeps.refl
  | transferCounters m => exact State.openCommand_keeping _ m ownTransferCounters_keeps
  | readResetCause m => exact State.openCommand_keeping _ m ownReadResetCause_keeps
  | openCab m => exact State.openCommand_keeping _ m (ownOpenCab_keeps _)
  | closeCab m => exact State.openCommand_keeping _ m (ownCloseCab_keeps _)
  | lendDrive m => exact State.openCommand_keeping _ m (ownLendDrive_keeps _)
  | returnDrive m => exact State.openCommand_keeping _ m (ownReturnDrive_keeps _)
  | emergencyAck m => exact State.openCommand_keeping _ m ownEmergencyAck_keeps
  | holdRelease m => exact State.openCommand_keeping _ m ownHoldRelease_keeps
  | holdApply m => exact State.openCommand_keeping _ m ownHoldApply_keeps
  | doorRelease m => exact State.openCommand_keeping _ m (ownDoorRelease_keeps _)
  | doorClose m => exact State.openCommand_keeping _ m (ownDoorClose_keeps _)
  | doorIsolateOn m => exact State.openCommand_keeping _ m (ownDoorIsolateOn_keeps _)
  | doorIsolateOff m => exact State.openCommand_keeping _ m (ownDoorIsolateOff_keeps _)
  | profileBegin m => exact State.openCommand_keeping _ m (ownProfileBegin_keeps _)
  | profileSegment m => exact State.openCommand_keeping _ m (ownProfileSegment_keeps _ _)
  | profileMarker m => exact State.openCommand_keeping _ m (ownProfileMarker_keeps _ _)
  | profileCommit m => exact State.openCommand_keeping _ m (ownProfileCommit_keeps _ _)
  | setPosition m => exact State.openCommand_keeping _ m (ownSetPosition_keeps _)
  | cabRestrict m => exact State.openCommand_keeping _ m (ownInsert_keeps _ _)
  | cabLift m => exact State.openCommand_keeping _ m (ownCabLift_keeps _ _)
  | park m => exact State.openCommand_keeping _ m (ownPark_keeps _)
  | setGate m => exact State.openCommand_keeping _ m (ownSetGate_keeps _)
  | setParameter m => exact State.openCommand_keeping _ m (ownSetParameter_keeps _)
  | absentKindRequest m => exact execAbsentKindRequest_keeping m
  | badCabMessage c l => exact .of_next (State.feed_keeps c l)
  | framingFault c ch => exact execFramingFault_keeping c ch
  | answerSent c => exact execAnswerSent_keeping c
  | silenceTimerExpiry c => exact execSilenceTimerExpiry_keeping c
  | line m => exact State.orderCommand_keeping _ m (ownLine_keeps _)
  | authority m => exact State.orderCommand_keeping _ m (ownAuthority_keeps _)
  | restrict m => exact State.orderCommand_keeping _ m (ownInsert_keeps _ _)
  | lift m => exact State.orderCommand_keeping _ m (ownLift_keeps _)
  | stopService m => exact State.orderCommand_keeping _ m (ownStopService_keeps _)
  | stopEmergency m => exact State.orderCommand_keeping _ m (ownStopEmergency_keeps _)
  | stopRelease m => exact State.orderCommand_keeping _ m ownStopRelease_keeps
  | doorsClose m => exact State.orderCommand_keeping _ m ownDoorsClose_keeps
  | clearOverflow m => exact State.orderCommand_keeping _ m ownClearOverflow_keeps
  | wake m => exact State.orderCommand_keeping _ m ownWake_keeps
  | poll m => exact State.orderCommand_keeping _ m (ownPoll_keeps _)
  | valleyMessageOtherCar kind m => exact State.orderCommand_keeping _ m (valleyOwner_keeps _ _ _)
  | badValleyMessage l => exact .of_next (State.handOn_keeps l)
  | sensorTransition x y n => exact fun _ _ => execSensorTransition_keeps x y n
  | markerPulse => exact fun _ _ => execMarkerPulse_keeps
  | standstillDeclaration => exact fun _ _ => execStandstillDeclaration_keeps
  | evaluationTimerExpiry => exact execEvaluationTimerExpiry_keeping
  | degradeThresholdReached => exact execDegradeThresholdReached_keeping
  | voidThresholdReached => exact execVoidThresholdReached_keeping
  | brakeFeedbackChange b r => exact fun _ _ => execBrakeFeedbackChange_keeps b r
  | releaseTimerExpiry b => exact execReleaseTimerExpiry_keeping b
  | applyTimerExpiry b => exact execApplyTimerExpiry_keeping b
  | vigilanceTimerExpiry => exact fun _ _ => execVigilanceTimerExpiry_keeps
  | holdTimerExpiry => exact execHoldTimerExpiry_keeping
  | lockedSwitchChange i v =>
    exact .of_next fun s => (State.readSwitch_reacts (x := { s.doors.leaf i with locked := v }) rfl).keeps
  | openEndSwitchChange i v =>
    exact .of_next fun s => (State.readSwitch_reacts (x := { s.doors.leaf i with openEnd := v }) rfl).keeps
  | obstruction i v =>
    exact .of_next fun s => (State.readSwitch_reacts (x := { s.doors.leaf i with edge := v }) rfl).keeps
  | passengerPress i => exact execPassengerPress_keeping i
  | openLimitExpiry i => exact execOpenLimitExpiry_keeping i
  | closeLimitExpiry i => exact execCloseLimitExpiry_keeping i
  | reversalTimerExpiry i => exact execReversalTimerExpiry_keeping i
  | candidateTest n a b => exact execCandidateTest_keeping n a b
  | headerReceived o => exact execHeaderReceived_keeping o
  | offlineTimerExpiry => exact execOfflineTimerExpiry_keeping
  | offlineCandidateTest n a b => exact execOfflineCandidateTest_keeping n a b
  | fallbackTimerExpiry => exact execFallbackTimerExpiry_keeping
  | checkOctetReceived l o => exact execCheckOctetReceived_keeping l o
  | farEndReport o => exact execFarEndReport_keeping o
  | codeOctet o => exact execCodeOctet_keeping o
  | lineCodeHoldExpiry => exact execLineCodeHoldExpiry_keeping
  | transmitFrame => exact execTransmitFrame_keeping
  | reportSent => exact execReportSent_keeping
  | reportTimerExpiry => exact execReportTimerExpiry_keeping
  | transferTimerExpiry => exact execTransferTimerExpiry_keeping
  | periodTimerExpiry => exact fun _ _ => execPeriodTimerExpiry_keeps
  | windowClose => exact fun _ _ => execWindowClose_keeps
  | checkTimerExpiry => exact fun _ _ => execCheckTimerExpiry_keeps
  | valveReadbackChange b x => exact execValveReadbackChange_keeping b x
  | readbackTimerExpiry => exact execReadbackTimerExpiry_keeping
  | storeVerification => exact execStoreVerification_keeping
  | powerOnReset => exact .of_next (State.restart_keeps .powerOn)
  | pinReset => exact .of_next (State.restart_keeps .pin)

/-! ## Every step -/

theorem runExpiries_keeping (l : List Expiry) (h : ∀ e ∈ l, Keeping e.act) : Keeping (runExpiries l) := by
  induction l with
  | nil => exact .of_next Keeps.refl
  | cons e rest ih =>
    have hrest := ih fun x hx => h x (List.mem_cons_of_mem _ hx)
    intro s t he
    simp only [runExpiries] at he
    split at he
    · split at he
      · next u hact => exact (h e (by simp) s u hact).trans (hrest u t he)
      · cases he
      · cases he
    · exact hrest s t he

theorem expiries_keeping : ∀ e ∈ expiries, Keeping e.act := by
  have hbrake (b : BrakeId) : ∀ e ∈ brakeExpiries b, Keeping e.act := by
    simp only [brakeExpiries, List.forall_mem_cons, List.not_mem_nil, false_implies, implies_true, and_true]
    exact ⟨execReleaseTimerExpiry_keeping b, execApplyTimerExpiry_keeping b⟩
  have hleaf (i : LeafId) : ∀ e ∈ leafExpiries i, Keeping e.act := by
    simp only [leafExpiries, List.forall_mem_cons, List.not_mem_nil, false_implies, implies_true, and_true]
    exact ⟨execOpenLimitExpiry_keeping i, execCloseLimitExpiry_keeping i, execReversalTimerExpiry_keeping i⟩
  simp only [expiries, List.forall_mem_append, List.forall_mem_cons, List.not_mem_nil, false_implies, implies_true,
    and_true]
  exact ⟨⟨⟨⟨⟨⟨⟨⟨⟨fun _ _ => execStandstillDeclaration_keeps, execEvaluationTimerExpiry_keeping,
    execDegradeThresholdReached_keeping, execVoidThresholdReached_keeping⟩, hbrake .rack⟩, hbrake .hold⟩,
    fun _ _ => execVigilanceTimerExpiry_keeps, execHoldTimerExpiry_keeping⟩, hleaf .a1⟩, hleaf .a2⟩, hleaf .b1⟩, hleaf .b2⟩,
    execSilenceTimerExpiry_keeping .upper, execSilenceTimerExpiry_keeping .lower, execOfflineTimerExpiry_keeping,
    execFallbackTimerExpiry_keeping, execLineCodeHoldExpiry_keeping, execReportTimerExpiry_keeping,
    execTransferTimerExpiry_keeping, fun _ _ => execPeriodTimerExpiry_keeps, fun _ _ => execWindowClose_keeps,
    fun _ _ => execCheckTimerExpiry_keeps, execReadbackTimerExpiry_keeping, execStoreVerification_keeping⟩

theorem tick_keeping : Keeping tick := fun s t h =>
  s.pass_keeps.trans (runExpiries_keeping expiries expiries_keeping s.pass t h)

/-- The laws of a state and of one that differs in the queue alone. -/
theorem step_keeps {s t : State} (h : step s = .next t) :
    (OutputLaw s → OutputLaw t) ∧ (CauseLaw s → CauseLaw t) ∧ (TermLaw s → TermLaw t) ∧ (CarLaw s → CarLaw t) ∧
      (StoreLaw s → StoreLaw t) := by
  unfold step at h
  split at h
  · obtain ⟨h1, h2, h3, h4, h5, -⟩ := tick_keeping s t h
    exact ⟨h1, h2, h3, h4, h5⟩
  · next c rest _ =>
    obtain ⟨h1, h2, h3, h4, h5, -⟩ := exec_keeping c _ t h
    exact ⟨h1, h2, h3, h4, h5⟩

/-- Settles O57: what a step does keeps the law of the outputs, formed afresh wherever a term or a brake state is written. -/
theorem stepsKeepTheOutputs : Obligations.StepsKeepTheOutputs := by
  intro s t hlaw hstep
  obtain ⟨houtput, -⟩ := step_keeps hstep
  exact houtput hlaw

/-- Settles O58: what a step does keeps the laws of causes and terms. -/
theorem stepsKeepCausesAndTerms : Obligations.StepsKeepCausesAndTerms := by
  intro s t hstep
  obtain ⟨-, hcause, hterms, -⟩ := step_keeps hstep
  exact ⟨hcause, hterms⟩

/-- Settles O59: what a step does keeps the laws of brakes, doors, token and mode. -/
theorem stepsKeepTheCar : Obligations.StepsKeepTheCar := by
  intro s t hlaw hstep
  obtain ⟨-, -, -, hcar, -⟩ := step_keeps hstep
  exact hcar hlaw

/-- Settles O60: what a step does keeps the laws of the stores. -/
theorem stepsKeepTheStores : Obligations.StepsKeepTheStores := by
  intro s t hlaw hstep
  obtain ⟨-, -, -, -, hstores⟩ := step_keeps hstep
  exact hstores hlaw

/-- Settles O3: no command writes the queue. -/
theorem commandsLeaveTheQueue : Obligations.CommandsLeaveTheQueue := fun c s t h => (exec_keeping c s t h).pending

/-- Settles O1: the front of the queue is the command a step matches on. -/
theorem stepTakesTheFrontCommand : Obligations.StepTakesTheFrontCommand := by
  intro c rest s h
  simp only [step, h]

/-- Settles O56: the state right after reset evaluates to one in every law. -/
theorem resetMeetsTheLaws : Obligations.ResetMeetsTheLaws := by
  have hstores : StoreLaw State.reset :=
    ⟨⟨rfl, rfl⟩, ⟨Nat.zero_le _, .nil⟩, by unfold MarginLaw; decide,
      ⟨Nat.zero_le _, Nat.zero_le _, Nat.zero_le _, Nat.zero_le _, nofun⟩,
      rfl, paramDefaults_ranged⟩
  refine ⟨⟨rfl, by decide⟩, ⟨rfl, by decide⟩, ⟨rfl, rfl, rfl, rfl⟩, (carLaw_iff _).2 ⟨nofun, nofun, nofun,
    tokenLaw_nobody State.reset, by unfold DriveLaw; decide, nofun,
    by unfold ConfigLaw; decide, by unfold ModeTimerLaw; decide⟩, hstores⟩

end Sys2Proof.Machine

/-! SUPPORT. A valley order judged at once, and what the gate does with a request or an order that fails it. -/

namespace Sys2Proof.Machine

/-! ## The state an order is judged in -/

/-- The contact state LIVE changes neither the line nor the contact timer; an evaluation follows (R53, R55). -/
theorem State.contactHeard_effect (s : State) :
    s.contactHeard.contact = { s.contact with value := 0, state := .live } ∧ s.contactHeard.line = s.line := by
  unfold State.contactHeard State.setContactState
  split
  · next h => simp_all
  · simp

/-- The state in which a valid message for this car is judged: the window end moved, the contact heard (R53, R193). -/
def State.heardOrder (s : State) : State := s.windowMoves.contactHeard

@[simp] theorem State.heardOrder_frame (s : State) :
    s.heardOrder.params = s.params ∧ s.heardOrder.gates = s.gates ∧ s.heardOrder.token = s.token ∧
      s.heardOrder.refusal = s.refusal ∧ s.heardOrder.pos = s.pos ∧ s.heardOrder.doors = s.doors ∧
      s.heardOrder.upper = s.upper ∧ s.heardOrder.lower = s.lower ∧ s.heardOrder.rx = s.rx ∧
      s.heardOrder.lineCode = s.lineCode ∧ s.heardOrder.tx = s.tx ∧ s.heardOrder.handler = s.handler ∧
      s.heardOrder.mon = s.mon ∧ s.heardOrder.pending = s.pending ∧ s.heardOrder.line = s.line := by
  simp [State.heardOrder, State.windowMoves, State.contactHeard_effect]

/-- What hearing an order leaves (R53, R193). -/
theorem State.heardOrder_heard (s : State) : Heard s s.heardOrder := by
  simp [Heard, State.heardOrder, State.windowMoves, State.contactHeard_effect]

theorem Heard.congr {s t u : State} (h : Heard s t) (hcontact : u.contact = t.contact) (hmode : u.mode = t.mode) :
    Heard s u := by
  simpa [Heard, hcontact, hmode] using h

/-! ## An order judged at once -/

theorem State.handlerFree_iff {s : State} {m : ValleyMsg} : s.handlerFree m = true ↔
    s.rx.state ≠ .hunt ∧ s.handler.buffer = [] ∧ m.payload.length ≤ 38 ∧ (m.car = 0#8 ∨ m.car = oct s.params.carId) := by
  simp [State.handlerFree, and_assoc]

/-- A message for this car reaches the gate in the state it was heard in (R164, R166). -/
theorem State.valleyCommand_free {s : State} {m : ValleyMsg} (h : s.handlerFree m = true) (kind : Octet)
    (own : State → Reply) : s.valleyCommand m kind own = s.heardOrder.takeOrder kind m.order own := by
  obtain ⟨hrx, hbuffer, hlength, hcar⟩ := State.handlerFree_iff.1 h
  have haddressed : s.windowMoves.addressed m.car = true := by
    simp only [State.addressed, Bool.or_eq_true, decide_eq_true_eq]
    exact hcar
  simp [State.valleyCommand, hrx, hbuffer, hlength, State.heed, haddressed, State.heardOrder]

/-- The order outcome record takes an order (R168). -/
def State.withOutcome (order : Octet) (code : ResultCode) (s : State) : State :=
  s.withHandler { s.handler with outcomes := s.handler.outcomes.note order code }

theorem Outcomes.note_accepted (o : Outcomes) (order : Octet) {code : ResultCode} (h : code.accepted = true) :
    o.note order code = o.acceptedBy order := by
  simp [Outcomes.note, h, Outcomes.acceptedBy]

theorem Outcomes.note_refused (o : Outcomes) (order : Octet) {code : ResultCode} (h : code.accepted = false) :
    o.note order code = o.refusedBy order code := by
  simp [Outcomes.note, h, Outcomes.refusedBy]

theorem GateOrigins.allows_valley {g : GateOrigins} (h : g ≠ .cab) : g.allows .valley = true := by
  cases g
  case cab => exact absurd rfl h
  all_goals rfl

theorem State.takes_iff {s : State} {kind : Octet} {m : ValleyMsg} :
    s.takes kind m = true ↔ s.handlerFree m = true ∧ s.valleyPasses kind = true := by
  simp [State.takes]

theorem State.valleyRank_heardOrder (s : State) : s.heardOrder.valleyRank = s.valleyRank := by simp [State.valleyRank]

/-- An order that passes steps 1 to 4 finds no failure at the gate (R131). -/
theorem State.gateCheck_heardOrder {s : State} {kind : Octet} (h : s.valleyPasses kind = true) :
    s.heardOrder.gateCheck kind .valley = none := by
  unfold State.valleyPasses at h
  unfold State.gateCheck
  simp only [State.heardOrder_frame]
  cases hg : s.gates[kind.toNat]? with
  | none => simp [hg] at h
  | some g =>
    simp only [hg, Bool.and_eq_true, Bool.not_eq_true', decide_eq_true_eq] at h
    obtain ⟨⟨⟨hpresent, horigins⟩, hrank⟩, hdrive⟩ := h
    have hr : ¬ s.heardOrder.rank .valley < g.least := by
      simpa only [State.rank, State.valleyRank_heardOrder, Nat.not_lt] using hrank
    simp [hpresent, GateOrigins.allows_valley horigins, hr, hdrive]

/-- An order that passes its gate is its owner's reply with the records (R131, R133, R168). -/
theorem State.valleyCommand_reply {s : State} {kind : Octet} {m : ValleyMsg} {own : State → Reply} {r : Reply}
    (h : s.takes kind m = true) (hown : own s.heardOrder = r) :
    s.valleyCommand m kind own = (r.st.noteResult r.code kind .valley).withOutcome m.order r.code := by
  obtain ⟨hfree, hpasses⟩ := State.takes_iff.1 h
  subst hown
  rw [State.valleyCommand_free hfree]
  simp [State.takeOrder, State.judge, State.gateCheck_heardOrder hpasses, State.withOutcome]

/-- An accepted order: the owner's state with the outcome recorded (R168). -/
def State.orderAccepted (order : Octet) (s : State) : State :=
  s.withHandler { s.handler with outcomes := s.handler.outcomes.acceptedBy order }

/-- A refused order: the refusal and the outcome recorded (R133, R168). -/
def State.orderRefused (kind order : Octet) (code : ResultCode) (s : State) : State :=
  (s.withRefusal (some { code := code, index := kind.toNat, valley := true })).withHandler
    { s.handler with outcomes := s.handler.outcomes.refusedBy order code }

theorem State.withOutcome_accepted {code : ResultCode} (h : code.accepted = true) (kind order : Octet) (s : State) :
    (s.noteResult code kind .valley).withOutcome order code = s.orderAccepted order := by
  simp [State.noteResult, h, State.withOutcome, State.orderAccepted, Outcomes.note_accepted _ _ h]

theorem State.withOutcome_refused {code : ResultCode} (h : code.accepted = false) (kind order : Octet) (s : State) :
    (s.noteResult code kind .valley).withOutcome order code = s.orderRefused kind order code := by
  simp [State.noteResult, h, State.withOutcome, State.orderRefused, Outcomes.note_refused _ _ h, Origin.isValley]

theorem State.valleyCommand_accepted {s t : State} {kind : Octet} {m : ValleyMsg} {own : State → Reply}
    (h : s.takes kind m = true) (hown : own s.heardOrder = accept t) :
    s.valleyCommand m kind own = t.orderAccepted m.order :=
  (State.valleyCommand_reply h hown).trans (State.withOutcome_accepted rfl kind m.order t)

theorem State.valleyCommand_refused {s t : State} {kind : Octet} {m : ValleyMsg} {own : State → Reply} {code : ResultCode}
    (h : s.takes kind m = true) (hown : own s.heardOrder = refuse code t) (hcode : code.accepted = false) :
    s.valleyCommand m kind own = t.orderRefused kind m.order code :=
  (State.valleyCommand_reply h hown).trans (State.withOutcome_refused hcode kind m.order t)

@[simp] theorem State.orderAccepted_frame (order : Octet) (s : State) :
    (s.orderAccepted order).params = s.params ∧ (s.orderAccepted order).gates = s.gates ∧
      (s.orderAccepted order).token = s.token ∧ (s.orderAccepted order).refusal = s.refusal ∧
      (s.orderAccepted order).line = s.line ∧ (s.orderAccepted order).pos = s.pos ∧
      (s.orderAccepted order).contact = s.contact ∧ (s.orderAccepted order).sup = s.sup ∧
      (s.orderAccepted order).brk = s.brk ∧ (s.orderAccepted order).valves = s.valves ∧
      (s.orderAccepted order).doors = s.doors ∧ (s.orderAccepted order).upper = s.upper ∧
      (s.orderAccepted order).lower = s.lower ∧ (s.orderAccepted order).flags = s.flags ∧
      (s.orderAccepted order).rx = s.rx ∧ (s.orderAccepted order).lineCode = s.lineCode ∧
      (s.orderAccepted order).tx = s.tx ∧ (s.orderAccepted order).reports = s.reports ∧
      (s.orderAccepted order).mon = s.mon ∧ (s.orderAccepted order).mode = s.mode ∧
      (s.orderAccepted order).pending = s.pending := by
  simp [State.orderAccepted]

@[simp] theorem State.orderAccepted_handler (order : Octet) (s : State) : (s.orderAccepted order).handler =
    { s.handler with outcomes := s.handler.outcomes.acceptedBy order } := rfl

@[simp] theorem State.orderRefused_frame (kind order : Octet) (code : ResultCode) (s : State) :
    (s.orderRefused kind order code).params = s.params ∧ (s.orderRefused kind order code).gates = s.gates ∧
      (s.orderRefused kind order code).token = s.token ∧
      (s.orderRefused kind order code).refusal = some { code := code, index := kind.toNat, valley := true } ∧
      (s.orderRefused kind order code).line = s.line ∧ (s.orderRefused kind order code).pos = s.pos ∧
      (s.orderRefused kind order code).contact = s.contact ∧ (s.orderRefused kind order code).sup = s.sup ∧
      (s.orderRefused kind order code).brk = s.brk ∧ (s.orderRefused kind order code).valves = s.valves ∧
      (s.orderRefused kind order code).doors = s.doors ∧ (s.orderRefused kind order code).upper = s.upper ∧
      (s.orderRefused kind order code).lower = s.lower ∧ (s.orderRefused kind order code).flags = s.flags ∧
      (s.orderRefused kind order code).rx = s.rx ∧ (s.orderRefused kind order code).lineCode = s.lineCode ∧
      (s.orderRefused kind order code).tx = s.tx ∧ (s.orderRefused kind order code).reports = s.reports ∧
      (s.orderRefused kind order code).mon = s.mon ∧ (s.orderRefused kind order code).mode = s.mode ∧
      (s.orderRefused kind order code).pending = s.pending := by
  simp [State.orderRefused]

@[simp] theorem State.orderRefused_handler (kind order : Octet) (code : ResultCode) (s : State) :
    (s.orderRefused kind order code).handler =
      { s.handler with outcomes := s.handler.outcomes.refusedBy order code } := rfl

/-! ## The gate's refusals -/

/-- A request its gate stops is answered the gate's code and recorded, and nothing else changes (R131, R133). -/
theorem State.cabCommand_stopped {s : State} {kind : Octet} {m : CabMsg} {own : State → Reply} {code : ResultCode}
    (h : s.portFree m = true) (hgate : (s.heard m.cab).gateCheck kind (.cab m.cab) = some code)
    (hcode : code.accepted = false) : s.cabCommand m kind own = s.refused kind m code := by
  simp only [State.portFree, Bool.and_eq_true, decide_eq_true_eq, Option.isNone_iff_eq_none] at h
  obtain ⟨⟨hasm, hwaiting⟩, hlength⟩ := h
  have hnote : (s.heard m.cab).noteResult code kind (.cab m.cab) =
      (s.heard m.cab).withRefusal (some { code := code, index := kind.toNat, valley := false }) := by
    simp [State.noteResult, hcode, Origin.isValley]
  have hport : ∀ (t : State) (r : Option Refused), (t.withRefusal r).port m.cab = t.port m.cab := fun t r =>
    State.port_congr rfl rfl m.cab
  simp only [State.cabCommand, hasm, hwaiting, hlength, and_self, if_true, State.serve, State.judge, hgate, hnote, hport,
    State.heard_port_same, Port.post_eq_withAnswer, State.refused, State.answer, State.answered]
  exact State.withPort_withRefusal_withPort ..

/-- An order its gate stops is recorded and nothing else changes but what the hearing does (R131, R133, R168). -/
theorem State.valleyCommand_stopped {s : State} {kind : Octet} {m : ValleyMsg} {own : State → Reply} {code : ResultCode}
    (h : s.handlerFree m = true) (hgate : s.heardOrder.gateCheck kind .valley = some code)
    (hcode : code.accepted = false) :
    s.valleyCommand m kind own = s.heardOrder.orderRefused kind m.order code := by
  rw [State.valleyCommand_free h]
  simp only [State.takeOrder, State.judge, hgate]
  exact State.withOutcome_refused hcode kind m.order _

/-- Steps 1 to 4 of the check order, for a cab just heard, with the first failure (R131). -/
theorem State.gateCheck_cab_fails {s : State} {kind : Octet} {c : Cab} {code : ResultCode}
    (h : match s.gates[kind.toNat]? with
      | none => code = .absent
      | some g =>
        if g.present = false then code = .absent
        else if g.origins = .valley then code = .origin
        else if s.rankHeard c < g.least then code = .rank
        else g.drive = true ∧ s.token.driving ≠ some c ∧ code = .notDriving) :
    (s.heard c).gateCheck kind (.cab c) = some code ∧ code.accepted = false := by
  unfold State.gateCheck
  simp only [State.heard_frame, State.rank, State.cabRank_heard, State.drives]
  cases hg : s.gates[kind.toNat]? with
  | none =>
    simp only [hg] at h
    exact ⟨by rw [h], h ▸ rfl⟩
  | some g =>
    simp only [hg] at h
    split at h
    · next hpresent => simp [h, hpresent, ResultCode.accepted]
    · next hpresent =>
      split at h
      · next horigins => simp [h, hpresent, horigins, GateOrigins.allows, ResultCode.accepted]
      · next horigins =>
        split at h
        · next hrank =>
          simp [h, hpresent, GateOrigins.allows_cab c horigins, hrank, ResultCode.accepted]
        · next hrank =>
          obtain ⟨hdrive, hnot, rfl⟩ := h
          simp [hpresent, GateOrigins.allows_cab c horigins, hrank, hdrive, hnot, ResultCode.accepted]

/-- Steps 1 to 4 of the check order, for the valley, with the first failure (R131). -/
theorem State.gateCheck_valley_fails {s : State} {kind : Octet} {code : ResultCode}
    (h : match s.gates[kind.toNat]? with
      | none => code = .absent
      | some g =>
        if g.present = false then code = .absent
        else if g.origins = .cab then code = .origin
        else if s.valleyRank < g.least then code = .rank
        else g.drive = true ∧ code = .notDriving) :
    s.heardOrder.gateCheck kind .valley = some code ∧ code.accepted = false := by
  unfold State.gateCheck
  simp only [State.heardOrder_frame, State.rank, State.valleyRank_heardOrder, State.drives]
  cases hg : s.gates[kind.toNat]? with
  | none =>
    simp only [hg] at h
    exact ⟨by rw [h], h ▸ rfl⟩
  | some g =>
    simp only [hg] at h
    split at h
    · next hpresent => simp [h, hpresent, ResultCode.accepted]
    · next hpresent =>
      split at h
      · next horigins => simp [h, hpresent, horigins, GateOrigins.allows, ResultCode.accepted]
      · next horigins =>
        split at h
        · next hrank =>
          simp [h, hpresent, GateOrigins.allows_valley horigins, hrank, ResultCode.accepted]
        · next hrank =>
          obtain ⟨hdrive, rfl⟩ := h
          simp [hpresent, GateOrigins.allows_valley horigins, hrank, hdrive, ResultCode.accepted]

/-! ## Every kind is its owner's -/

theorem octet_eq_of_toNat {o : Octet} {n : Nat} (h : o.toNat = n) : o = BitVec.ofNat 8 n := by
  apply BitVec.eq_of_toNat_eq
  have := o.isLt
  simp only [BitVec.toNat_ofNat]
  omega

theorem exec_of_owner {m : CabMsg} {kind : Octet} {s : State} {own own' : State → Reply} (h : own = own') :
    (Host.Outcome.next (s.cabCommand m kind own) : Host.Outcome State Fault Refusal) =
      .next (s.cabCommand m kind own') := by
  rw [h]

theorem exec_of_order {m : ValleyMsg} {kind : Octet} {s : State} {own own' : State → Reply} (h : own = own') :
    (Host.Outcome.next (s.valleyCommand m kind own) : Host.Outcome State Fault Refusal) =
      .next (s.valleyCommand m kind own') := by
  rw [h]

/-- A cab message of any kind is a command of its port with the owner of its kind (R131, R183). -/
theorem exec_cabRequest (kind : Octet) (m : CabMsg) (s : State) :
    exec (cabRequest kind m) s = .next (s.cabCommand m kind (cabOwner kind m.cab m.payload)) := by
  unfold cabRequest
  split
  case h_3 h =>
    cases octet_eq_of_toNat h
    have hnext : asksNext m.payload = true ↔ m.payload[1]? = some 0xFF#8 ∧ m.payload[2]? = some 0xFF#8 := by
      simp [asksNext]
    split
    · next hasks => exact exec_of_owner (funext fun _ => (if_pos (hnext.1 hasks)).symm)
    · next hasks => exact exec_of_owner (funext fun _ => (if_neg (mt hnext.2 hasks)).symm)
  case h_16 h =>
    cases octet_eq_of_toNat h
    split
    · next hoff => exact exec_of_owner (funext fun _ => (if_pos hoff).symm)
    · next hon => exact exec_of_owner (funext fun _ => (if_neg hon).symm)
  case h_25 h =>
    cases octet_eq_of_toNat h
    split
    · next hsel => exact exec_of_owner (funext fun _ => (if_pos hsel).symm)
    · next hsel => exact exec_of_owner (funext fun _ => (if_neg hsel).symm)
  case h_26 => rfl
  all_goals
    next h =>
    cases octet_eq_of_toNat h
    rfl

/-- A valley message of any kind is a command of the handler with the owner of its kind (R131, R166). -/
theorem exec_valleyOrder (kind : Octet) (m : ValleyMsg) (s : State) :
    exec (valleyOrder kind m) s = .next (s.valleyCommand m kind (valleyOwner kind m.order m.payload)) := by
  unfold valleyOrder
  split
  case h_5 h =>
    cases octet_eq_of_toNat h
    split
    · next hsev => exact exec_of_order (funext fun _ => (if_pos hsev).symm)
    · next hsev => exact exec_of_order (funext fun _ => (if_neg hsev).symm)
  case h_11 => rfl
  all_goals
    next h =>
    cases octet_eq_of_toNat h
    rfl

/-- What a refused order leaves beside the records (R168). -/
theorem State.orderRefused_heard (kind order : Octet) (code : ResultCode) (s : State) :
    Heard s (s.heardOrder.orderRefused kind order code) ∧
      (s.heardOrder.orderRefused kind order code).handler =
        { s.handler with outcomes := s.handler.outcomes.refusedBy order code } ∧
      SameSetup s (s.heardOrder.orderRefused kind order code) ∧
      SameRadio s (s.heardOrder.orderRefused kind order code) := by
  refine ⟨s.heardOrder_heard.congr (by simp) (by simp), by simp, ?_, ?_⟩
  · simp [SameSetup]
  · simp [SameRadio]

/-- Settles O4: the gate's first failure is the code answered, and no owner is reached. -/
theorem requestsAreJudgedByTheirGate : Obligations.RequestsAreJudgedByTheirGate := by
  intro s kind code _
  refine ⟨fun m hfree hfails => ?_, fun m hfree hfails => ?_⟩
  · obtain ⟨hgate, hcode⟩ := State.gateCheck_cab_fails hfails
    rw [exec_cabRequest, State.cabCommand_stopped hfree hgate hcode]
  · obtain ⟨hgate, hcode⟩ := State.gateCheck_valley_fails hfails
    obtain ⟨hheard, hhandler, hsetup, hradio⟩ := State.orderRefused_heard kind m.order code s
    refine ⟨_, ?_, hheard, ?_, hhandler, hsetup, hradio, ?_⟩
    · rw [exec_valleyOrder, State.valleyCommand_stopped hfree hgate hcode]
    · simp
    · simp

/-! ## Kinds beside the rows of their origin -/

/-- The present mark and origins of an entry of a table that has those of the defaults (R130). -/
theorem gate_of_defaults {gates : List GateEntry}
    (h : gates.map (fun g => (g.present, g.origins)) = gateDefaults.map (fun g => (g.present, g.origins))) (i : Nat) :
    (gates[i]?).map (fun g => (g.present, g.origins)) = (gateDefaults[i]?).map (fun g => (g.present, g.origins)) := by
  simpa only [List.getElem?_map] using congrArg (fun l => l[i]?) h

/-- Beside a cab's rows the defaults are the valley's for 32 to 41 and absent else (Table 7-3). -/
theorem gateDefaults_besideCab {k : Nat} (h : 24 < k) :
    (gateDefaults[k]?).map (fun g => (g.present, g.origins)) =
      if 32 ≤ k ∧ k ≤ 41 then some (true, .valley) else if k < 48 then some (false, .both) else none := by
  by_cases hk : k < 48
  · have hall : ∀ i : Fin 48, 24 < i.val → (gateDefaults[i.val]?).map (fun g => (g.present, g.origins)) =
        if 32 ≤ i.val ∧ i.val ≤ 41 then some (true, .valley) else if i.val < 48 then some (false, .both) else none := by
      decide
    exact hall ⟨k, hk⟩ h
  · have hnone : gateDefaults[k]? = none := List.getElem?_eq_none (by simpa [gateDefaults, cabGates, valleyGates] using hk)
    simp [hnone, hk, show ¬ k ≤ 41 by omega]

/-- Beside the valley's rows the defaults are a cab's for 0 to 24 and absent else (Table 7-3). -/
theorem gateDefaults_besideValley {k : Nat} (h : k < 32 ∨ 41 < k) :
    (gateDefaults[k]?).map (fun g => (g.present, g.origins)) =
      if k ≤ 24 then some (true, .cab) else if k < 48 then some (false, .both) else none := by
  by_cases hk : k < 48
  · have hall : ∀ i : Fin 48, i.val < 32 ∨ 41 < i.val → (gateDefaults[i.val]?).map (fun g => (g.present, g.origins)) =
        if i.val ≤ 24 then some (true, .cab) else if i.val < 48 then some (false, .both) else none := by
      decide
    exact hall ⟨k, hk⟩ h
  · have hnone : gateDefaults[k]? = none := List.getElem?_eq_none (by simpa [gateDefaults, cabGates, valleyGates] using hk)
    simp [hnone, hk, show ¬ k ≤ 24 by omega]

/-- Settles O5: the default table stops every kind beside the rows of its origin, at step 1 or 2. -/
theorem absentKindsAreRefused : Obligations.AbsentKindsAreRefused := by
  intro s kind hgates
  have hentry := gate_of_defaults hgates kind.toNat
  refine ⟨fun m hfree hrow => ?_, fun m hfree hrow => ?_⟩
  · have hk : 24 < kind.toNat := by simpa [cabRow] using hrow
    rw [gateDefaults_besideCab hk] at hentry
    have hfails : (s.heard m.cab).gateCheck kind (.cab m.cab) =
        some (if 32 ≤ kind.toNat ∧ kind.toNat ≤ 41 then .origin else .absent) := by
      unfold State.gateCheck
      simp only [State.heard_frame]
      cases hg : s.gates[kind.toNat]? with
      | none =>
        have hno : ¬ (32 ≤ kind.toNat ∧ kind.toNat ≤ 41) := fun hin => by simp [hg, hin] at hentry
        rw [if_neg hno]
      | some g =>
        by_cases hin : 32 ≤ kind.toNat ∧ kind.toNat ≤ 41
        · obtain ⟨hpresent, horigins⟩ : g.present = true ∧ g.origins = .valley := by simpa [hg, hin] using hentry
          simp [hpresent, horigins, hin, GateOrigins.allows]
        · have hpresent : g.present = false := by
            rw [hg, if_neg hin] at hentry
            split at hentry
            · simp_all
            · cases hentry
          simp [hpresent, hin]
    exact congrArg Host.Outcome.next (State.cabCommand_stopped hfree hfails (by split <;> rfl))
  · have hk : kind.toNat < 32 ∨ 41 < kind.toNat := by
      simp only [valleyRow, Bool.and_eq_false_iff, decide_eq_false_iff_not] at hrow
      omega
    rw [gateDefaults_besideValley hk] at hentry
    have hfails : s.heardOrder.gateCheck kind .valley = some (if kind.toNat ≤ 24 then .origin else .absent) := by
      unfold State.gateCheck
      simp only [State.heardOrder_frame]
      cases hg : s.gates[kind.toNat]? with
      | none =>
        have hno : ¬ kind.toNat ≤ 24 := fun hin => by simp [hg, hin] at hentry
        rw [if_neg hno]
      | some g =>
        by_cases hin : kind.toNat ≤ 24
        · obtain ⟨hpresent, horigins⟩ : g.present = true ∧ g.origins = .cab := by simpa [hg, hin] using hentry
          simp [hpresent, horigins, hin, GateOrigins.allows]
        · have hpresent : g.present = false := by
            rw [hg, if_neg hin] at hentry
            split at hentry
            · simp_all
            · cases hentry
          simp [hpresent, hin]
    obtain ⟨hheard, hhandler, hsetup, hradio⟩ := State.orderRefused_heard kind m.order
      (if kind.toNat ≤ 24 then .origin else .absent) s
    refine ⟨_, congrArg Host.Outcome.next (State.valleyCommand_stopped hfree hfails (by split <;> rfl)), hheard, ?_,
      hhandler, hsetup, hradio, ?_⟩
    · simp
    · simp

end Sys2Proof.Machine

/-! SUPPORT. Requests that read, and those on the holding brake and on one leaf. -/

namespace Sys2Proof.Machine

/-! ## Reads -/

/-- A gate that stops a message answers a code of refusal (R131). -/
theorem State.gateCheck_refuses {s : State} {kind : Octet} {o : Origin} {code : ResultCode}
    (h : s.gateCheck kind o = some code) : code.accepted = false := by
  unfold State.gateCheck at h
  split at h
  · cases h
    rfl
  · split at h
    · cases h
      rfl
    · split at h
      · cases h
        rfl
      · split at h
        · cases h
          rfl
        · split at h
          · cases h
            rfl
          · cases h

/-- A message that does not pass steps 1 to 4 finds a failure at the gate (R131). -/
theorem State.gateCheck_heard_isSome {s : State} {kind : Octet} {c : Cab} (h : s.cabPasses kind c = false) :
    ∃ code, (s.heard c).gateCheck kind (.cab c) = some code := by
  cases hcheck : (s.heard c).gateCheck kind (.cab c) with
  | some code => exact ⟨code, rfl⟩
  | none =>
    refine absurd ?_ (ne_true_of_eq_false h)
    unfold State.gateCheck at hcheck
    simp only [State.heard_frame, State.rank, State.cabRank_heard, State.drives] at hcheck
    unfold State.cabPasses
    cases hg : s.gates[kind.toNat]? with
    | none => simp [hg] at hcheck
    | some g =>
      have horigins : g.origins.allows (.cab c) = true → g.origins ≠ .valley := fun hallows he => by
        simp [he, GateOrigins.allows] at hallows
      simp only [hg] at hcheck
      split at hcheck
      · cases hcheck
      · next hpresent =>
        split at hcheck
        · cases hcheck
        · next hallows =>
          split at hcheck
          · cases hcheck
          · next hrank =>
            split at hcheck
            · cases hcheck
            · next hdrive =>
              have hnot := horigins (by simpa using hallows)
              simp only [Bool.not_eq_true', Bool.not_eq_false, Bool.and_eq_true, decide_eq_true_eq, not_and,
                Nat.not_lt] at hpresent hrank hdrive
              simp only [hpresent, hnot, hrank, ne_eq, not_false_eq_true, decide_true, Bool.and_self, Bool.true_and,
                Bool.or_eq_true, Bool.not_eq_true', decide_eq_true_eq]
              by_cases hd : g.drive = true
              · exact .inr (by simpa using hdrive hd)
              · exact .inl (by simpa using hd)

/-- The count of errors of a port that has just been heard. -/
theorem State.heard_errors (c : Cab) (s : State) :
    (s.heard c).upper.errors = s.upper.errors ∧ (s.heard c).lower.errors = s.lower.errors := by
  cases c <;> exact ⟨rfl, rfl⟩

theorem CabFlags.emptied_get (f : CabFlags) (c : Cab) :
    (f.emptied c).get c = {} ∧ (f.emptied c).get (otherCab c) = f.get (otherCab c) := by
  cases c <;> exact ⟨rfl, rfl⟩

theorem exec_readStatus_taken {s : State} {m : CabMsg} (h : s.admits 1#8 m = true) :
    ∃ t, exec (.readStatus m) s = .next (t.withPort m.cab
        (({ s.port m.cab with errors := 0 } : Port).heard.withAnswer
          { kind := 1#8, tag := m.tag, code := .ok,
            payload := (s.withPort m.cab (s.port m.cab).heard).indication m.cab
              ++ [oct s.upper.errors, oct s.lower.errors] })) ∧
      t = ((s.heard m.cab).withFlags (s.flags.emptied m.cab)).withPort m.cab
        ({ s.port m.cab with errors := 0 } : Port).heard := by
  refine ⟨_, ?_, rfl⟩
  have hreply := State.cabCommand_reply (own := ownReadStatus m.cab) h rfl rfl
  obtain ⟨hup, hlow⟩ := s.heard_errors m.cab
  simp only [ownReadStatus, State.noteResult, ResultCode.accepted, if_true, State.heard_frame, State.heard_port_same,
    State.withPort_port_same, hup, hlow] at hreply
  exact congrArg Host.Outcome.next hreply

theorem exec_readCounters_taken {s : State} {m : CabMsg} (h : s.admits 3#8 m = true) :
    exec (.readCounters m) s = .next (s.answer 3#8 m .ok s.mon.octets) := by
  have hown : ownReadCounters (s.heard m.cab) = acceptWith (fun t => t.mon.octets) (s.heard m.cab) := rfl
  refine congrArg Host.Outcome.next ((State.cabCommand_acceptedWith h hown (State.heard_port_same m.cab s)).trans ?_)
  obtain ⟨c, tag, payload⟩ := m
  cases c <;> rfl

theorem exec_transferCounters_taken {s : State} {m : CabMsg} (h : s.admits 4#8 m = true) :
    exec (.transferCounters m) s = .next (s.transfer.answer 4#8 m .ok s.transfer.mon.octets) := by
  have hown : ownTransferCounters (s.heard m.cab) = acceptWith (fun t => t.mon.octets) (s.heard m.cab).transfer := rfl
  have hport : (s.heard m.cab).transfer.port m.cab = (s.port m.cab).heard :=
    (State.port_congr rfl rfl m.cab).trans (State.heard_port_same m.cab s)
  refine congrArg Host.Outcome.next ((State.cabCommand_acceptedWith h hown hport).trans ?_)
  obtain ⟨c, tag, payload⟩ := m
  cases c <;> rfl

theorem exec_readResetCause_taken {s : State} {m : CabMsg} (h : s.admits 5#8 m = true) :
    exec (.readResetCause m) s =
      .next ((s.withMode { s.mode with resetCauses := {} }).answer 5#8 m .ok [s.mode.resetCauses.octet]) := by
  have hown : ownReadResetCause (s.heard m.cab) = acceptWith (fun _ => [(s.heard m.cab).mode.resetCauses.octet])
      ((s.heard m.cab).withMode { (s.heard m.cab).mode with resetCauses := {} }) := rfl
  have hport : ((s.heard m.cab).withMode { (s.heard m.cab).mode with resetCauses := {} }).port m.cab =
      (s.port m.cab).heard := (State.port_congr rfl rfl m.cab).trans (State.heard_port_same m.cab s)
  refine congrArg Host.Outcome.next ((State.cabCommand_acceptedWith h hown hport).trans ?_)
  obtain ⟨c, tag, payload⟩ := m
  cases c <;> rfl

theorem firstOctets_length (f : Option FirstCause) : (firstOctets f).length = 7 := by
  cases f <;> rfl

/-- The CHECK_FAIL value of the snapshot stands after 35 octets of a STATUS (Table 12-7). -/
theorem State.statusPayload_drop (s : State) : s.statusPayload.drop 35 = oct2 s.mon.snapshot.checkFail.value := by
  refine List.drop_left' ?_
  cases s.line.authority <;>
    simp [oct3, oct2, CauseSet.octets, firstOctets_length, Outcomes.octets]

/-- Settles O9: each read answers what it finds at the message, and empties what the rule names. -/
theorem readsAnswerWhatIsHeld : Obligations.ReadsAnswerWhatIsHeld := by
  intro s m
  refine ⟨fun h => ?_, exec_readCounters_taken, exec_transferCounters_taken, exec_readResetCause_taken,
    fun hfree hpasses => ?_, rfl, rfl, rfl, s.statusPayload_drop⟩
  · obtain ⟨t, hexec, rfl⟩ := exec_readStatus_taken h
    refine ⟨_, hexec, State.withPort_port_same .., ?_, ?_⟩
    · simp only [State.withPort_port_other]
      exact (State.port_congr rfl rfl _).trans (State.heard_port_other m.cab s)
    · obtain ⟨hemptied, hkept⟩ := s.flags.emptied_get m.cab
      simp [hemptied, hkept, State.attention, FlagSet.isEmpty, SameSetup, SameRadio, SameHandler, SameCar]
  · obtain ⟨code, hcode⟩ := State.gateCheck_heard_isSome hpasses
    exact ⟨code, congrArg Host.Outcome.next (State.cabCommand_stopped hfree hcode (State.gateCheck_refuses hcode))⟩

/-! ## Reading a profile entry back -/

/-- An index below the table's count is answered with its entry and left in the cursor (R17, R18). -/
theorem State.cabCommand_readBack {s : State} {m : CabMsg} {own : State → Reply} {tab : TableId} {i : Nat}
    (h : s.admits 2#8 m = true) (hown : own (s.heard m.cab) = readBackAt m.cab tab i (s.heard m.cab))
    (hlt : i < s.line.readCount tab) : s.cabCommand m 2#8 own =
      s.withPort m.cab (({ s.port m.cab with cursor := { table := tab, index := some i } } : Port).heard.withAnswer
        { kind := 2#8, tag := m.tag, code := .ok, payload := readBackBody tab i s }) := by
  rw [readBackAt, if_pos (by simpa using hlt)] at hown
  rw [State.cabCommand_reply h hown rfl]
  obtain ⟨c, tag, payload⟩ := m
  cases c <;> rfl

/-- An index at or beyond it is refused RANGE (R17). -/
theorem State.cabCommand_readBeyond {s : State} {m : CabMsg} {own : State → Reply} {tab : TableId} {i : Nat}
    (h : s.admits 2#8 m = true) (hown : own (s.heard m.cab) = readBackAt m.cab tab i (s.heard m.cab))
    (hge : ¬ i < s.line.readCount tab) : s.cabCommand m 2#8 own = s.refused 2#8 m .range := by
  rw [readBackAt, if_neg (by simpa using hge)] at hown
  exact State.cabCommand_refused h hown rfl

/-- The index "next" names is the one after the cursor's in the same table, where that exists (R18). -/
theorem Cursor.nextIndex_eq {k : Cursor} {tab : TableId} {count i : Nat}
    (h : match k.index with
      | some j => i = if k.table = tab ∧ j + 1 < count then j + 1 else 0
      | none => i = 0) : k.nextIndex tab count = i := by
  unfold Cursor.nextIndex
  obtain ⟨table, index⟩ := k
  cases index with
  | none => simpa using h.symm
  | some j =>
    dsimp only at h ⊢
    rw [h]
    by_cases ht : table = tab <;> simp [ht]

/-- Settles O10: the index asked for is the one carried or the cursor's next, and is judged against the table's count. -/
theorem readBackAnswersTheEntry : Obligations.ReadBackAnswersTheEntry := by
  intro s m code a b rest tab i h hpayload htab hi
  by_cases hnext : asksNext m.payload = true
  · rw [if_pos hnext] at hi ⊢
    have hown : ownReadProfileEntryNext m.cab m.payload (s.heard m.cab) = readBackAt m.cab tab i (s.heard m.cab) := by
      have hcursor : ((s.heard m.cab).port m.cab).cursor = (s.port m.cab).cursor := by
        rw [State.heard_port_same]; rfl
      simp only [ownReadProfileEntryNext, hpayload, htab, hcursor, State.heard_frame, Cursor.nextIndex_eq hi]
    split
    · next hin => exact congrArg Host.Outcome.next (State.cabCommand_readBack h hown hin.1)
    · next hout =>
      exact congrArg Host.Outcome.next (State.cabCommand_readBeyond h hown fun hlt => hout ⟨hlt, .inl hnext⟩)
  · rw [if_neg hnext] at hi ⊢
    by_cases hrange : num2 a b ≤ 255
    · have hown : ownReadProfileEntry m.cab m.payload (s.heard m.cab) = readBackAt m.cab tab i (s.heard m.cab) := by
        simp only [ownReadProfileEntry, hpayload, htab, hrange, if_true, hi]
      split
      · next hin => exact congrArg Host.Outcome.next (State.cabCommand_readBack h hown hin.1)
      · next hout =>
        exact congrArg Host.Outcome.next (State.cabCommand_readBeyond h hown fun hlt => hout ⟨hlt, .inr (hi ▸ hrange)⟩)
    · have hown : ownReadProfileEntry m.cab m.payload (s.heard m.cab) = refuse .range (s.heard m.cab) := by
        simp only [ownReadProfileEntry, hpayload, htab, hrange, if_false]
      rw [if_neg fun hin => hin.2.elim hnext fun hle => hrange (hi ▸ hle)]
      exact congrArg Host.Outcome.next (State.cabCommand_refused h hown rfl)

end Sys2Proof.Machine

/-! SUPPORT. The spring brakes and the door leaves, operation by operation: the requests of one cab and the events of their
own inputs and timers. -/

namespace Sys2Proof.Machine

/-! ## Spring brakes commanded to apply -/

/-- A spring brake after an apply command (R89, R90, R93). -/
def SpringBrake.commanded (x : SpringBrake) : SpringBrake :=
  if x.state.energized then
    if x.feedback = .applied then { x with state := .applied, timer := none }
    else { x with state := .applying, timer := some applyTime }
  else x

theorem SpringBrake.commanded_of_not_energized {x : SpringBrake} (h : x.state.energized = false) : x.commanded = x := by
  simp [SpringBrake.commanded, h]

theorem SpringBrake.commanded_energized (x : SpringBrake) : x.commanded.state.energized = false := by
  unfold SpringBrake.commanded
  split
  · split <;> rfl
  · next h => simpa using h

theorem SpringBrake.commanded_feedback (x : SpringBrake) : x.commanded.feedback = x.feedback := by
  unfold SpringBrake.commanded
  split
  · split <;> rfl
  · rfl

/-- The brake commanded takes the state and its timer, where it did not stand in it (R89, R90). -/
theorem State.setBrake_get {b : BrakeId} {st : BrakeState} {s : State} (h : (s.brk.get b).state ≠ st) :
    (s.setBrake b st).brk.get b = { s.brk.get b with state := st, timer := brakeTimer st } := by
  simp [State.setBrake, h]

/-- An apply command (R93). -/
theorem State.applyCmd_get (b : BrakeId) (s : State) : (s.applyCmd b).brk.get b = (s.brk.get b).commanded := by
  have happlying (hst : (s.brk.get b).state.energized = true) :
      (s.setBrake b .applying).brk.get b = { s.brk.get b with state := .applying, timer := some applyTime } :=
    State.setBrake_get fun he => by simp [he, BrakeState.energized] at hst
  have hmoves (hst : (s.brk.get b).state.energized = true) :
      ((match ((s.setBrake b .applying).brk.get b).feedback with
        | .applied => (s.setBrake b .applying).setBrake b .applied
        | .clear => s.setBrake b .applying).brk.get b) = (s.brk.get b).commanded := by
    have ht := happlying hst
    unfold SpringBrake.commanded
    rw [if_pos hst, ht]
    cases hf : (s.brk.get b).feedback with
    | applied => rw [State.setBrake_get (by rw [ht]; simp), ht]; simp [brakeTimer, hf]
    | clear => simp [ht, hf]
  unfold State.applyCmd
  split
  case h_1 hst | h_2 hst => exact hmoves (by rw [hst]; rfl)
  case h_3 hst | h_4 hst | h_5 hst => rw [SpringBrake.commanded_of_not_energized (by rw [hst]; rfl)]

/-- From `b` to `c` each spring brake stays or is commanded to apply. -/
def Brakes.Commanded (b c : Brakes) : Prop := ∀ i, c.get i = b.get i ∨ c.get i = (b.get i).commanded

theorem Brakes.Commanded.of_get {b c : Brakes} (h : ∀ i, c.get i = b.get i) : b.Commanded c := fun i => .inl (h i)

theorem Brakes.Commanded.refl (b : Brakes) : b.Commanded b := .of_get fun _ => rfl

theorem Brakes.Commanded.trans {b c d : Brakes} (h : b.Commanded c) (g : c.Commanded d) : b.Commanded d := by
  intro i
  rcases g i with hg | hg <;> rcases h i with hh | hh
  · exact .inl (hg.trans hh)
  · exact .inr (hg.trans hh)
  · exact .inr (by rw [hg, hh])
  · right
    rw [hg, hh]
    exact SpringBrake.commanded_of_not_energized (SpringBrake.commanded_energized _)

theorem Brakes.Commanded.ite {p : Prop} [Decidable p] {b : Brakes} {s t : State} (hs : b.Commanded s.brk)
    (ht : b.Commanded t.brk) : b.Commanded (if p then s else t).brk := by
  split
  · exact hs
  · exact ht

/-- A brake whose valve is de-energized is not moved by a command to apply. -/
theorem Brakes.Commanded.get {b c : Brakes} (h : b.Commanded c) {i : BrakeId} (hi : (b.get i).state.energized = false) :
    c.get i = b.get i := by
  rcases h i with h | h
  · exact h
  · rw [h, SpringBrake.commanded_of_not_energized hi]

theorem Brakes.Commanded.feedback {b c : Brakes} (h : b.Commanded c) (i : BrakeId) :
    (c.get i).feedback = (b.get i).feedback := by
  rcases h i with h | h <;> rw [h]
  exact SpringBrake.commanded_feedback _

theorem State.applyCmd_commanded (b : BrakeId) (s : State) : s.brk.Commanded (s.applyCmd b).brk := by
  intro c
  by_cases hcb : c = b
  · exact .inr (hcb ▸ State.applyCmd_get b s)
  · exact .inl (State.applyCmd_other hcb s)

theorem State.setTerms_commanded (t : Terms) (s : State) : s.brk.Commanded (s.setTerms t).brk := by
  have hsettled : s.brk.Commanded (s.withBrk { s.brk with terms := t }).settleOutputs.brk :=
    .of_get fun b => (State.settleOutputs_brake _ b).trans (by cases b <;> rfl)
  exact .ite (hsettled.trans (State.applyCmd_commanded .hold _)) hsettled

theorem State.joinCause_commanded (k : CauseKind) (s : State) : s.brk.Commanded (s.joinCause k).brk := by
  have hjoined : ∀ c f, s.brk.Commanded ((s.withBrk { s.brk with causes := c, first := f }).flag .causes).brk :=
    fun c f => .of_get fun b => by cases b <;> simp [Brakes.get]
  have happly : ∀ t : State, t.brk.Commanded (if t.pos.standstill then t.applyCmd .hold else t).brk :=
    fun t => .ite (State.applyCmd_commanded .hold t) (.refl _)
  have halarm : ∀ t : State, (t.offerAlarm k).brk = t.brk := fun t => by simp
  unfold State.joinCause
  rw [halarm]
  exact .trans (hjoined _ _) <| .trans (State.setTerms_commanded _ _) <|
    .trans (State.applyCmd_commanded .rack _) (happly _)

theorem State.addCause_eq {k : CauseKind} (hk : k ≠ .rollaway) (s : State) :
    s.addCause k = if s.brk.causes.has k then s else s.joinCause k :=
  if_neg fun h => hk h.1

theorem State.addCause_commanded {k : CauseKind} (hk : k ≠ .rollaway) (s : State) :
    s.brk.Commanded (s.addCause k).brk := by
  rw [State.addCause_eq hk]
  exact .ite (.refl _) (State.joinCause_commanded k s)

/-! ## Leaves -/

@[simp] theorem Doors.leaf_putLeaf_same (d : Doors) (i : LeafId) (x : Leaf) : (d.putLeaf i x).leaf i = x := by
  cases i <;> rfl

theorem Doors.leaf_putLeaf_other (d : Doors) {i j : LeafId} (x : Leaf) (h : j ≠ i) : (d.putLeaf i x).leaf j = d.leaf j := by
  cases i <;> cases j <;> first | rfl | exact absurd rfl h

@[simp] theorem Doors.putLeaf_putLeaf (d : Doors) (i : LeafId) (x y : Leaf) :
    (d.putLeaf i x).putLeaf i y = d.putLeaf i y := by
  cases i <;> rfl

@[simp] theorem Doors.putLeaf_leaf (d : Doors) (i : LeafId) : d.putLeaf i (d.leaf i) = d := by
  cases i <;> rfl

theorem State.setLeaf_doors (i : LeafId) (st : LeafState) (r : Nat) (s : State) : (s.setLeaf i st r).doors =
    s.doors.putLeaf i { s.doors.leaf i with state := st, timer := leafTimer st, reversals := r } := by
  unfold State.setLeaf
  dsimp only
  split <;> simp

theorem State.setLeaf_flagged (i : LeafId) (st : LeafState) (r : Nat) (s : State) : Flagged (s.setLeaf i st r) .doors := by
  unfold State.setLeaf
  dsimp only
  split
  · exact flagged_flag _ _
  · exact (State.applyCmd_subdued .hold _).flags _ (flagged_flag _ _)

theorem State.setLeaf_shut {st : LeafState} (h : st.shut = true) (i : LeafId) (r : Nat) (s : State) :
    s.setLeaf i st r = (s.withDoors
      (s.doors.putLeaf i { s.doors.leaf i with state := st, timer := leafTimer st, reversals := r })).flag .doors := by
  simp [State.setLeaf, h]

theorem State.setLeaf_commanded (i : LeafId) (st : LeafState) (r : Nat) (s : State) :
    s.brk.Commanded (s.setLeaf i st r).brk := by
  unfold State.setLeaf
  refine .ite (.of_get fun _ => by simp) (.trans ?_ (State.applyCmd_commanded .hold _))
  exact .of_get fun _ => by simp

theorem State.setLeaf_still (i : LeafId) (st : LeafState) (r : Nat) (s : State) :
    (s.setLeaf i st r).brk.still = s.brk.still := by
  unfold State.setLeaf
  dsimp only
  split <;> simp

/-- A leaf that awaits nothing which already reads stays. -/
theorem State.settleLeaf_idle {i : LeafId} {s : State}
    (h : (s.doors.leaf i).judged (s.doors.side (leafSide i)) = none) (n : Nat) : s.settleLeaf i n = s := by
  cases n with
  | zero => rfl
  | succ n => simp [State.settleLeaf, h]

/-- A leaf whose levels act takes what they make of it, and is judged again; the lock that a CLOSED_LOCKED leaf loses is
reported besides (R86, R108, R122). -/
theorem State.settleLeaf_acts {i : LeafId} {s : State} {st : LeafState} {r : Nat}
    (h : (s.doors.leaf i).judged (s.doors.side (leafSide i)) = some (st, r))
    (hlost : ¬ ((s.doors.leaf i).state = .closedLocked ∧ st = .fault)) (n : Nat) :
    s.settleLeaf i (n + 1) = (s.setLeaf i st r).settleLeaf i n := by
  simp [State.settleLeaf, h, hlost]

theorem State.settleLeaf_lost {i : LeafId} {s : State} {r : Nat}
    (h : (s.doors.leaf i).judged (s.doors.side (leafSide i)) = some (.fault, r))
    (hlost : (s.doors.leaf i).state = .closedLocked) (n : Nat) :
    s.settleLeaf i (n + 1) = (s.setLeaf i .fault r).lockLoss.settleLeaf i n := by
  simp [State.settleLeaf, h, hlost]

/-- A leaf entered in a state that awaits nothing stays in it. -/
theorem State.enterLeaf_idle {i : LeafId} {st : LeafState} {r : Nat} {s : State}
    (h : ({ s.doors.leaf i with state := st, timer := leafTimer st, reversals := r } : Leaf).judged
      (s.doors.side (leafSide i)) = none) : s.enterLeaf i st r = s.setLeaf i st r :=
  State.settleLeaf_idle (by simpa [State.setLeaf_doors] using h) 10

end Sys2Proof.Machine

/-! SUPPORT. The requests on the holding brake and the isolation of a leaf. -/

namespace Sys2Proof.Machine

/-! ## The holding brake at a request -/

/-- A brake that changes its state reports it (R89, R187). -/
theorem State.setBrake_flagged {b : BrakeId} {st : BrakeState} {s : State} (h : (s.brk.get b).state ≠ st) :
    Flagged (s.setBrake b st) .brakes := by
  have hset := (State.settleOutputs_subdued _).flags _ (flagged_flag .brakes
    (s.withBrk (s.brk.put b { s.brk.get b with state := st, timer := brakeTimer st })))
  unfold State.setBrake
  rw [if_neg h]
  exact hset.congr (by simp)

theorem State.setBrake_flagged_of_ne {b : BrakeId} {st : BrakeState} {s : State}
    (h : ((s.setBrake b st).brk.get b).state ≠ (s.brk.get b).state) : Flagged (s.setBrake b st) .brakes :=
  State.setBrake_flagged fun he => h ((State.setBrake_same b st s).1.trans he.symm)

/-- The state a brake is in after a release command (R89, R93). -/
def SpringBrake.freed (x : SpringBrake) : BrakeState :=
  match x.state with
  | .released => .released
  | .releasing => .releasing
  | _ => if x.feedback = .clear then .released else .releasing

theorem State.releaseValve_freed {b : BrakeId} {s : State} (h : (s.brk.get b).state ≠ .fault) :
    ((s.releaseValve b).brk.get b).state = (s.brk.get b).freed := by
  have hfeedback := (State.setBrake_same b .releasing s).2
  unfold State.releaseValve SpringBrake.freed
  split
  case h_1 hst | h_2 hst =>
    dsimp only
    rw [hfeedback, hst]
    cases (s.brk.get b).feedback <;> simp [(State.setBrake_same b _ _).1]
  case h_3 hst | h_4 hst => rw [hst]
  case h_5 hst => exact absurd hst h

/-- A brake that a release command moves reports it (R187). -/
theorem State.releaseValve_flagged {b : BrakeId} {s : State}
    (h : ((s.releaseValve b).brk.get b).state ≠ (s.brk.get b).state) : Flagged (s.releaseValve b) .brakes := by
  unfold State.releaseValve at h ⊢
  split
  case h_1 hst | h_2 hst =>
    have hopened : Flagged (s.setBrake b .releasing) .brakes := State.setBrake_flagged (by simp [hst])
    dsimp only
    split
    · exact hopened.setBrake b _
    · exact hopened
  case h_3 hst | h_4 hst | h_5 hst => simp [hst] at h

/-- A brake that an apply command moves reports it (R187). -/
theorem State.applyCmd_flagged {b : BrakeId} {s : State}
    (h : ((s.applyCmd b).brk.get b).state ≠ (s.brk.get b).state) : Flagged (s.applyCmd b) .brakes := by
  unfold State.applyCmd at h ⊢
  split
  case h_1 hst | h_2 hst =>
    have hclosed : Flagged (s.setBrake b .applying) .brakes := State.setBrake_flagged (by simp [hst])
    dsimp only
    split
    · exact hclosed.setBrake b _
    · exact hclosed
  case h_3 hst | h_4 hst | h_5 hst => simp [hst] at h

/-- With no side RELEASED a withdrawal has nothing to do (R114). -/
theorem State.withdrawAll_locked {s : State} (h : s.doors.sideReleased = false) : s.withdrawAll = s := by
  have hside := (Doors.sideReleased_eq_false_iff _).1 h
  simp [State.withdrawAll, State.withdrawSide, hside]

/-- With no side RELEASED the holding brake's release withdraws nothing (R93, R114). -/
theorem State.releaseCmd_hold_locked {s : State} (h : s.doors.sideReleased = false) :
    s.releaseCmd .hold = s.releaseValve .hold := by
  rcases State.releaseCmd_cases .hold s with hcmd | hcmd
  · exact hcmd
  · rw [hcmd]
    exact State.withdrawAll_locked (by simpa using h)

theorem State.heard_holdMayRelease (c : Cab) {s : State} (hdriving : s.token.driving = some c) :
    (s.heard c).holdMayRelease = true ↔
      s.doors.allClosed = true ∧ s.doors.sideReleased = false ∧ s.brk.causes.isEmpty = true ∧
        s.brk.rack.state = .released ∧ (∃ r, (s.port c).controls = some r ∧ r.selector ≠ .neutral) ∧
        s.brk.hold.state ≠ .fault := by
  have hdirection : (s.heard c).directionSelected = true ↔ ∃ r, (s.port c).controls = some r ∧ r.selector ≠ .neutral := by
    have hcontrols : (s.heard c).drivingControls = (s.port c).controls := by
      simp only [State.drivingControls, State.heard_frame, hdriving, State.heard_port_same]
      rfl
    unfold State.directionSelected
    rw [hcontrols]
    cases (s.port c).controls <;> simp
  rw [State.holdMayRelease_iff, hdirection]
  simp

theorem exec_holdRelease_taken {s : State} {m : CabMsg} (h : s.admits 11#8 m = true)
    (hmay : (s.heard m.cab).holdMayRelease = true) :
    exec (.holdRelease m) s = .next (((s.heard m.cab).releaseValve .hold).withPort m.cab
      (s.answered 11#8 m .ok [oct ((s.heard m.cab).releaseValve .hold).brk.hold.state.num])) := by
  have hlocked : (s.heard m.cab).doors.sideReleased = false := ((State.holdMayRelease_iff _).1 hmay).2.1
  have hown : ownHoldRelease (s.heard m.cab) = acceptWith State.holdBody ((s.heard m.cab).releaseValve .hold) := by
    rw [ownHoldRelease, if_pos hmay, State.releaseCmd_hold_locked hlocked]
  exact congrArg Host.Outcome.next (State.cabCommand_acceptedWith h hown
    ((State.port_congr (by simp) (by simp) _).trans (State.heard_port_same m.cab s)))

theorem exec_holdRelease_stateFails {s : State} {m : CabMsg} (h : s.admits 11#8 m = true)
    (hmay : ¬ (s.heard m.cab).holdMayRelease = true) :
    exec (.holdRelease m) s = .next (s.refused 11#8 m .stateFails) :=
  congrArg Host.Outcome.next (State.cabCommand_refused h (if_neg hmay) rfl)

theorem exec_holdApply_taken {s : State} {m : CabMsg} (h : s.admits 12#8 m = true) :
    exec (.holdApply m) s = .next (((s.heard m.cab).applyCmd .hold).withPort m.cab
      (s.answered 12#8 m .ok [oct ((s.heard m.cab).applyCmd .hold).brk.hold.state.num])) :=
  congrArg Host.Outcome.next (State.cabCommand_acceptedWith (body := State.holdBody) h rfl
    ((State.port_congr (by simp) (by simp) _).trans (State.heard_port_same m.cab s)))

/-- An owner's state that left both ports as they were heard answers the message. -/
theorem answers_of_ports (s : State) (m : CabMsg) {t : State} {kind : Octet} {code : ResultCode} {p q : List Octet}
    (hu : t.upper = (s.heard m.cab).upper) (hl : t.lower = (s.heard m.cab).lower) (hpayload : p = q) :
    Answers s (t.withPort m.cab (s.answered kind m code p)) kind m code q :=
  hpayload ▸ answers_withPort ((State.port_congr hu hl _).trans (State.heard_port_other m.cab s))

/-- Settles O15: a release command finds no side to withdraw, and either command moves the holding brake alone. -/
theorem holdingBrakeObeysTheCab : Obligations.HoldingBrakeObeysTheCab := by
  intro s m
  have hbrk : (s.heard m.cab).brk = s.brk := by simp
  refine ⟨fun h hdriving => ?_, fun h => ?_⟩
  · split
    · next hmay =>
      have hnot : ((s.heard m.cab).brk.get .hold).state ≠ .fault := by
        obtain ⟨-, -, -, -, -, hfault⟩ := hmay
        simpa [Brakes.get] using hfault
      have hfreed : ((s.heard m.cab).releaseValve .hold).brk.hold.state = s.brk.hold.freed :=
        (State.releaseValve_freed hnot).trans (by rw [hbrk]; rfl)
      obtain ⟨hterms, hcauses, -⟩ := Brakes.still_iff.1 (State.releaseValve_still .hold (s.heard m.cab))
      have hrack := State.releaseValve_other (b := .hold) (c := .rack) (by decide) (s.heard m.cab)
      have hflagged := State.releaseValve_flagged (b := .hold) (s := s.heard m.cab)
      refine ⟨_, exec_holdRelease_taken h ((State.heard_holdMayRelease _ hdriving).2 hmay),
        answers_of_ports s m (t := (s.heard m.cab).releaseValve .hold) (by simp) (by simp) (by simp), ?_, ?_, ?_, ?_,
        fun hne => (hflagged ?_).congr ?_, ?_⟩
      · change _ = s.brk.hold.freed
        simpa only [State.withPort_frame] using hfreed
      · simpa [Brakes.get] using hrack
      · simpa using hterms
      · simpa using hcauses
      · simpa [Brakes.get] using hne
      · simp
      · simp [SameSetup, SameRadio, SameHandler]
    · next hmay => exact exec_holdRelease_stateFails h (mt (State.heard_holdMayRelease _ hdriving).1 hmay)
  · obtain ⟨hterms, hcauses, -⟩ := Brakes.still_iff.1 (State.applyCmd_still .hold (s.heard m.cab))
    have hrack := State.applyCmd_other (b := .hold) (c := .rack) (by decide) (s.heard m.cab)
    have hflagged := State.applyCmd_flagged (b := .hold) (s := s.heard m.cab)
    have hhold : ((s.heard m.cab).applyCmd .hold).brk.hold.state = s.brk.hold.commanded.state :=
      congrArg SpringBrake.state ((State.applyCmd_get .hold (s.heard m.cab)).trans (by rw [hbrk]; rfl))
    refine ⟨_, exec_holdApply_taken h,
      answers_of_ports s m (t := (s.heard m.cab).applyCmd .hold) (by simp) (by simp) (by simp), ?_, ?_, ?_, ?_,
      fun hne => (hflagged ?_).congr ?_, ?_⟩
    · simp only [State.withPort_frame, hhold]
      unfold SpringBrake.commanded
      cases hst : s.brk.hold.state <;> simp [hst, BrakeState.energized] <;> split <;> rfl
    · simpa [Brakes.get] using hrack
    · simpa using hterms
    · simpa using hcauses
    · simpa [Brakes.get] using hne
    · simp
    · simp [SameSetup, SameRadio, SameHandler]

end Sys2Proof.Machine

/-! SUPPORT. The leaves: what entering a state and judging the levels makes of one leaf, and the requests and events that
act on a single leaf. -/

namespace Sys2Proof.Machine

/-- A port's answer flags nothing (R187). -/
theorem flagged_withPort {c : Cab} {p : Port} {s : State} {k : FlagKind} : Flagged (s.withPort c p) k ↔ Flagged s k := by
  simp [Flagged]

/-! ## One leaf -/

/-- A leaf that enters a state (R108). -/
def Leaf.entered (st : LeafState) (r : Nat) (l : Leaf) : Leaf :=
  { l with state := st, timer := leafTimer st, reversals := r }

/-- A leaf whose levels have been judged (R108). -/
def Leaf.settled (side : SideState) : Nat → Leaf → Leaf
  | 0, l => l
  | n + 1, l =>
    match l.judged side with
    | none => l
    | some (st, r) => (l.entered st r).settled side n

theorem State.settleLeaf_doors (i : LeafId) (n : Nat) (s : State) : (s.settleLeaf i n).doors =
    s.doors.putLeaf i ((s.doors.leaf i).settled (s.doors.side (leafSide i)) n) := by
  induction n generalizing s with
  | zero => simp [State.settleLeaf, Leaf.settled]
  | succ n ih =>
    cases hj : (s.doors.leaf i).judged (s.doors.side (leafSide i)) with
    | none => simp [State.settleLeaf, Leaf.settled, hj]
    | some p =>
      have hacts : ∀ t : State, t.doors = (s.setLeaf i p.1 p.2).doors → (t.settleLeaf i n).doors =
          s.doors.putLeaf i (((s.doors.leaf i).entered p.1 p.2).settled (s.doors.side (leafSide i)) n) := fun t ht => by
        rw [ih, ht, State.setLeaf_doors]
        simp [Leaf.entered]
      simp only [State.settleLeaf, Leaf.settled, hj]
      exact hacts _ (by split <;> simp)

/-- The doors after a leaf enters a state: that leaf alone is changed (R108). -/
theorem State.enterLeaf_doors (i : LeafId) (st : LeafState) (r : Nat) (s : State) : (s.enterLeaf i st r).doors =
    s.doors.putLeaf i (((s.doors.leaf i).entered st r).settled (s.doors.side (leafSide i)) 10) := by
  rw [State.enterLeaf, State.settleLeaf_doors, State.setLeaf_doors]
  simp [Leaf.entered]

theorem State.enterLeaf_flagged (i : LeafId) (st : LeafState) (r : Nat) (s : State) :
    Flagged (s.enterLeaf i st r) .doors :=
  (State.settleLeaf_subdued i 10 _).flags _ (State.setLeaf_flagged i st r s)

/-- Levels that act report the leaf (R125). -/
theorem State.settleLeaf_flagged {i : LeafId} {s : State} (n : Nat)
    (h : (s.doors.leaf i).judged (s.doors.side (leafSide i)) ≠ none) : Flagged (s.settleLeaf i (n + 1)) .doors := by
  obtain ⟨⟨st, r⟩, hj⟩ := Option.ne_none_iff_exists'.1 h
  by_cases hlost : (s.doors.leaf i).state = .closedLocked ∧ st = .fault
  · obtain ⟨hlocked, rfl⟩ := hlost
    rw [State.settleLeaf_lost hj hlocked]
    exact (State.settleLeaf_subdued i n _).flags _ ((State.lockLoss_subdued _).flags _ (State.setLeaf_flagged i _ r s))
  · rw [State.settleLeaf_acts hj hlost]
    exact (State.settleLeaf_subdued i n _).flags _ (State.setLeaf_flagged i st r s)

/-- A leaf that is locked at its entry into CLOSED_LOCKED unlocks on a RELEASED side (R108, R112). -/
theorem Leaf.settled_closedLocked {l : Leaf} (hlocked : l.locked = true) (side : SideState) (r : Nat) :
    (l.entered .closedLocked r).settled side 10 =
      { l with state := if side = .released then .closedUnlocked else .closedLocked, timer := none, reversals := r } := by
  cases side <;> simp [Leaf.settled, Leaf.judged, Leaf.entered, hlocked, leafTimer]

/-! ## Isolation -/

theorem State.isolated_answer {s : State} {m : CabMsg} {i : LeafId} (h : s.admits 15#8 m = true)
    (hstate : (s.doors.leaf i).state = .isolated)
    {own : State → Reply} (hown : own (s.heard m.cab) = acceptWith (leafBody i) (s.heard m.cab)) :
    s.cabCommand m 15#8 own = s.answer 15#8 m .ok [8#8] := by
  rw [State.cabCommand_acceptedWith h hown (State.heard_port_same m.cab s)]
  have hbody : leafBody i (s.heard m.cab) = [8#8] := by simp [leafBody, hstate, LeafState.num]; rfl
  rw [hbody]
  obtain ⟨c, tag, payload⟩ := m
  cases c <;> rfl

/-- A leaf isolated moves no brake (R95, R123). -/
theorem State.enterLeaf_isolated {i : LeafId} {s : State} (hlocked : (s.doors.leaf i).locked = true) :
    s.enterLeaf i .isolated 0 = (s.withDoors
      (s.doors.putLeaf i { s.doors.leaf i with state := .isolated, timer := none, reversals := 0 })).flag .doors := by
  rw [State.enterLeaf_idle (by simp [Leaf.judged, hlocked]), State.setLeaf_shut rfl]
  rfl

theorem exec_doorIsolateOn_range {s : State} {m : CabMsg} {code setting : Octet} {rest : List Octet}
    (h : s.admits 15#8 m = true) (hp : m.payload = code :: setting :: rest)
    (hrange : leafOf code.toNat = none ∨ setting ≠ 1#8) :
    exec (.doorIsolateOn m) s = .next (s.refused 15#8 m .range) := by
  refine congrArg Host.Outcome.next (State.cabCommand_refused (own := ownDoorIsolateOn m.payload) h ?_ rfl)
  rw [ownDoorIsolateOn, hp]
  cases hleaf : leafOf code.toNat with
  | none => simp [leafIn, hleaf]
  | some i => simp [leafIn, hleaf, hrange.resolve_left (by simp [hleaf])]

theorem exec_doorIsolateOff_range {s : State} {m : CabMsg} {code : Octet} {rest : List Octet}
    (h : s.admits 15#8 m = true) (hp : m.payload = code :: rest) (hleaf : leafOf code.toNat = none) :
    exec (.doorIsolateOff m) s = .next (s.refused 15#8 m .range) :=
  congrArg Host.Outcome.next (State.cabCommand_refused (own := ownDoorIsolateOff m.payload) h
    (by simp [ownDoorIsolateOff, hp, leafIn, hleaf]) rfl)

/-- What DOOR_ISOLATE on does with a leaf it names (R123). -/
theorem ownDoorIsolateOn_named {s : State} {p : List Octet} {i : LeafId} (hleaf : leafIn p = some i)
    (hon : p[1]? = some 1#8) : ownDoorIsolateOn p s =
      if (s.doors.leaf i).state = .isolated then acceptWith (leafBody i) s
      else if (s.doors.leaf i).locked then acceptWith (leafBody i) (s.enterLeaf i .isolated 0)
      else refuse .stateFails s := by
  simp [ownDoorIsolateOn, hleaf, hon]

/-- Settles O18: the locked switch decides the entry into ISOLATED, and the side where an ISOLATED leaf returns to. -/
theorem isolationFollowsTheLockedSwitch : Obligations.IsolationFollowsTheLockedSwitch := by
  intro s m code setting rest h hp
  have hdoors : (s.heard m.cab).doors = s.doors := by simp
  split
  · next hleaf =>
    split
    · exact exec_doorIsolateOff_range h hp hleaf
    · exact exec_doorIsolateOn_range h hp (.inl hleaf)
  next i hleaf =>
  have hin : leafIn m.payload = some i := by rw [hp]; exact hleaf
  split
  · next hrange => exact exec_doorIsolateOn_range h hp (.inr fun he => by simp [he] at hrange)
  split
  · next hon =>
    have hown := ownDoorIsolateOn_named (s := s.heard m.cab) hin (by rw [hp, hon]; rfl)
    rw [hdoors] at hown
    split
    · next hstate => exact congrArg Host.Outcome.next (State.isolated_answer h hstate (hown.trans (if_pos hstate)))
    next hstate =>
    rw [if_neg hstate] at hown
    split
    · next hlocked =>
      exact congrArg Host.Outcome.next (State.cabCommand_refused h (hown.trans (if_neg (by simp [hlocked]))) rfl)
    next hlocked =>
    have hlocked : (s.doors.leaf i).locked = true := by simpa using hlocked
    rw [if_pos hlocked, State.enterLeaf_isolated (by rwa [hdoors]), hdoors] at hown
    refine ⟨_, congrArg Host.Outcome.next (State.cabCommand_acceptedWith h hown
      ((State.port_congr (by simp) (by simp) _).trans (State.heard_port_same m.cab s))),
      answers_of_ports s m (by simp) (by simp) ?_, ?_⟩
    · simp [leafBody, LeafState.num]
      rfl
    · refine ⟨by simp, flagged_withPort.2 (flagged_flag _ _), ?_⟩
      simp [SameSetup, SameRadio, SameHandler]
  split
  · next hstate =>
    intro hlocked
    have hown : ownDoorIsolateOff m.payload (s.heard m.cab) = acceptWith (leafBody i)
        ((s.heard m.cab).enterLeaf i .closedLocked (s.doors.leaf i).reversals) := by
      simp [ownDoorIsolateOff, hin, hstate]
    have hentered := State.enterLeaf_doors i .closedLocked (s.doors.leaf i).reversals (s.heard m.cab)
    rw [hdoors, Leaf.settled_closedLocked hlocked] at hentered
    refine ⟨_, congrArg Host.Outcome.next (State.cabCommand_acceptedWith h hown
      ((State.port_congr (by simp) (by simp) _).trans (State.heard_port_same m.cab s))),
      answers_of_ports s m (by simp) (by simp) ?_, ?_, fun j hj => ?_, ?_, ?_⟩
    · simp only [leafBody, hentered, Doors.leaf_putLeaf_same]
      split <;> rfl
    · simp [hentered]
    · simp [hentered, Doors.leaf_putLeaf_other _ _ hj]
    · exact flagged_withPort.2 (State.enterLeaf_flagged i _ _ _)
    · simp [SameSetup, SameRadio, SameHandler]
  · next hstate =>
    refine congrArg Host.Outcome.next (State.cabCommand_refused (own := ownDoorIsolateOff m.payload) h ?_ rfl)
    simp [ownDoorIsolateOff, hin, hstate]

/-! ## The events of a leaf -/

/-- A leaf takes a place; the doors' flag is set, and of the rest the brakes and the supervision of them alone may change. -/
def LeafTakes (s t : State) (i : LeafId) (x : Leaf) : Prop :=
  t.doors = s.doors.putLeaf i x ∧ Flagged t .doors ∧
  SameSetup s t ∧ SameRadio s t ∧ SameHandler s t ∧ t.token = s.token ∧ t.pos = s.pos ∧ t.line = s.line ∧
  t.mode = s.mode ∧ t.upper = s.upper ∧ t.lower = s.lower

/-- A leaf whose inputs have changed takes what its levels make of it (R108). -/
theorem State.readLeaf_takes {i : LeafId} {s : State} {x y : Leaf} (hacts : x.judged (s.doors.side (leafSide i)) ≠ none)
    (hy : x.settled (s.doors.side (leafSide i)) 10 = y) :
    LeafTakes s ((s.withDoors (s.doors.putLeaf i x)).settleLeaf i 10) i y := by
  refine ⟨?_, State.settleLeaf_flagged 9 (by simpa using hacts), ?_⟩
  · rw [State.settleLeaf_doors, ← hy]
    simp
  · simp [SameSetup, SameRadio, SameHandler]

/-- Inputs that await nothing change the reading alone (R108). -/
theorem State.readLeaf_idle {i : LeafId} {s : State} {x : Leaf} (h : x.judged (s.doors.side (leafSide i)) = none) :
    (s.withDoors (s.doors.putLeaf i x)).settleLeaf i 10 = s.withDoors (s.doors.putLeaf i x) :=
  State.settleLeaf_idle (by simpa using h) 10

/-- A leaf that enters a state takes what its levels make of it there (R108). -/
theorem State.enterLeaf_takes {i : LeafId} {s : State} {st : LeafState} {r : Nat} {y : Leaf}
    (hy : ((s.doors.leaf i).entered st r).settled (s.doors.side (leafSide i)) 10 = y) :
    LeafTakes s (s.enterLeaf i st r) i y := by
  refine ⟨?_, State.enterLeaf_flagged i st r s, ?_⟩
  · rw [State.enterLeaf_doors, hy]
  · simp [SameSetup, SameRadio, SameHandler]

theorem exec_lockedSwitchChange (i : LeafId) (v : Bool) (s : State) : exec (.lockedSwitchChange i v) s =
    .next ((s.withDoors (s.doors.putLeaf i { s.doors.leaf i with locked := v })).settleLeaf i 10) := rfl

theorem exec_openEndSwitchChange (i : LeafId) (v : Bool) (s : State) : exec (.openEndSwitchChange i v) s =
    .next ((s.withDoors (s.doors.putLeaf i { s.doors.leaf i with openEnd := v })).settleLeaf i 10) := rfl

theorem exec_obstruction (i : LeafId) (v : Bool) (s : State) : exec (.obstruction i v) s =
    .next ((s.withDoors (s.doors.putLeaf i { s.doors.leaf i with edge := v })).settleLeaf i 10) := rfl

/-- A leaf that goes to FAULT awaits nothing there, and its departure commands the holding brake to apply (R95). -/
theorem State.setLeaf_fault (i : LeafId) (r : Nat) (s : State) :
    ((s.setLeaf i .fault r).brk.get .hold).state.energized = false ∧
      (s.setLeaf i .fault r).brk.terms = s.brk.terms := by
  obtain ⟨hterms, -⟩ := Brakes.still_iff.1 (s.setLeaf_still i .fault r)
  exact ⟨State.applyCmd_energized .hold _, hterms⟩

/-- A lock lost holds the DOOR term on a moving car, and releases no brake (R86). -/
theorem State.lockLoss_effect {s : State} (h : (s.brk.get .hold).state.energized = false) :
    (s.lockLoss.brk.get .hold).state.energized = false ∧
      s.lockLoss.brk.terms = if s.pos.standstill = false then { s.brk.terms with door := 100 } else s.brk.terms := by
  unfold State.lockLoss
  cases hstill : s.pos.standstill
  · obtain ⟨hterms, -⟩ := State.setTerms_effect { s.brk.terms with door := 100 } s
    exact ⟨(State.setTerms_subdued _ s).valves .hold h, hterms⟩
  · exact ⟨h, rfl⟩

/-- A lock lost in CLOSED_LOCKED or ISOLATED: FAULT, the holding brake applied, and DOOR for a CLOSED_LOCKED leaf (R86,
R122). -/
theorem State.lockLost_effect {i : LeafId} {s : State}
    (hstate : (s.doors.leaf i).state = .closedLocked ∨ (s.doors.leaf i).state = .isolated) :
    let t := (s.withDoors (s.doors.putLeaf i { s.doors.leaf i with locked := false })).settleLeaf i 10
    t.brk.hold.state.energized = false ∧
      t.brk.terms = (if (s.doors.leaf i).state = .closedLocked ∧ s.pos.standstill = false then
        { s.brk.terms with door := 100 } else s.brk.terms) := by
  obtain ⟨u, hu⟩ : ∃ u, u = s.withDoors (s.doors.putLeaf i { s.doors.leaf i with locked := false }) := ⟨_, rfl⟩
  have hleaf : u.doors.leaf i = { s.doors.leaf i with locked := false } := by simp [hu]
  have hterms : u.brk.terms = s.brk.terms := by simp [hu]
  have hpos : u.pos = s.pos := by simp [hu]
  obtain ⟨hholdF, htermsF⟩ := u.setLeaf_fault i (s.doors.leaf i).reversals
  have hidle : ∀ t : State, (t.doors.leaf i).state = .fault → t.settleLeaf i 9 = t := fun t ht =>
    State.settleLeaf_idle (by simp [Leaf.judged, ht]) 9
  have hfault : ((u.setLeaf i .fault (s.doors.leaf i).reversals).doors.leaf i).state = .fault := by
    simp [State.setLeaf_doors]
  rw [← hu]
  rcases hstate with hst | hst
  · have hj : (u.doors.leaf i).judged (u.doors.side (leafSide i)) = some (.fault, (s.doors.leaf i).reversals) := by
      simp [hleaf, Leaf.judged, hst]
    obtain ⟨hhold, htermsL⟩ := State.lockLoss_effect hholdF
    rw [State.settleLeaf_lost hj (by simp [hleaf, hst]), hidle _ (by simpa using hfault)]
    refine ⟨hhold, ?_⟩
    simp only [htermsL, htermsF, hterms, State.setLeaf_frame, hpos, hst, true_and]
  · have hj : (u.doors.leaf i).judged (u.doors.side (leafSide i)) = some (.fault, (s.doors.leaf i).reversals) := by
      simp [hleaf, Leaf.judged, hst]
    rw [State.settleLeaf_acts hj (by simp [hleaf, hst]), hidle _ hfault]
    exact ⟨hholdF, by simp [htermsF, hterms, hst]⟩

/-- A lock lost takes the leaf to FAULT (R122). -/
theorem Leaf.settled_lockLost {l : Leaf} (h : l.state = .closedLocked ∨ l.state = .isolated) (side : SideState) :
    ({ l with locked := false } : Leaf).judged side = some (.fault, l.reversals) ∧
      ({ l with locked := false } : Leaf).settled side 10 = { l with state := .fault, timer := none, locked := false } := by
  rcases h with h | h <;> simp [Leaf.settled, Leaf.judged, Leaf.entered, h, leafTimer]

/-- A leaf locked in CLOSING or OBSTRUCTED is closed, and unlocks again on a RELEASED side (R117, R121). -/
theorem Leaf.settled_locked {l : Leaf} (h : l.state = .closing ∨ l.state = .obstructed) (side : SideState) :
    ({ l with locked := true } : Leaf).judged side = some (.closedLocked, l.reversals) ∧
      ({ l with locked := true } : Leaf).settled side 10 =
        { l with
          state := if side = .released then .closedUnlocked else .closedLocked
          timer := none, locked := true } := by
  rcases h with h | h <;> cases side <;> simp [Leaf.settled, Leaf.judged, Leaf.entered, h, leafTimer]

/-- An edge in CLOSING reverses the leaf, the third time it obstructs it (R118). -/
theorem Leaf.settled_edge {l : Leaf} (h : l.state = .closing) (hlocked : l.locked = false) (hopen : l.openEnd = false)
    (hcount : l.reversals < 3) (side : SideState) :
    ({ l with edge := true } : Leaf).judged side ≠ none ∧
      ({ l with edge := true } : Leaf).settled side 10 = { l with
        state := if l.reversals = 2 then .obstructed else .reversing
        timer := if l.reversals = 2 then none else some 1000
        reversals := l.reversals + 1, edge := true } := by
  by_cases htwo : l.reversals = 2
  · simp [Leaf.settled, Leaf.judged, Leaf.entered, h, hlocked, htwo, leafTimer]
  · have hlt : l.reversals + 1 < 3 := by omega
    simp [Leaf.settled, Leaf.judged, Leaf.entered, h, hlocked, hopen, htwo, hlt, leafTimer, reversalTime]

/-- Settles O45: each event is a leaf's levels judged, or its entry into a state, as far as they act. -/
theorem leavesFollowTheirInputsAndTimers : Obligations.LeavesFollowTheirInputsAndTimers := by
  rintro s i _ rfl
  refine ⟨fun h => ?_, fun h => ?_, fun h v => ?_, fun h => ?_, fun h hlocked hedge => ?_,
    fun h hlocked hopen hcount => ?_, fun h hopen => ?_, fun h v => ?_, ?_, ?_, ?_, ?_⟩
  · obtain ⟨hj, hsettled⟩ := Leaf.settled_lockLost h (s.doors.side (leafSide i))
    obtain ⟨hdoors, hflag, hsetup, hradio, hhandler, htoken, hpos, hline, hmode, hup, hlow⟩ :=
      State.readLeaf_takes (by simp [hj]) hsettled
    obtain ⟨hhold, hterms⟩ := State.lockLost_effect h
    exact ⟨_, exec_lockedSwitchChange .., hdoors, hhold, hflag, hterms, hsetup, hradio, hhandler, htoken, by simp, hpos,
      hline, by simp, by simp, hmode, hup, hlow⟩
  · obtain ⟨hj, hsettled⟩ := Leaf.settled_locked h (s.doors.side (leafSide i))
    exact ⟨_, exec_lockedSwitchChange .., State.readLeaf_takes (by simp [hj]) hsettled⟩
  · rw [exec_lockedSwitchChange, State.readLeaf_idle (by simp [Leaf.judged, h])]
  · exact ⟨_, exec_openEndSwitchChange .., State.readLeaf_takes (by simp [Leaf.judged, h])
      (by simp [Leaf.settled, Leaf.judged, Leaf.entered, h, leafTimer])⟩
  · exact ⟨_, exec_openEndSwitchChange .., State.readLeaf_takes (by simp [Leaf.judged, h])
      (by simp [Leaf.settled, Leaf.judged, Leaf.entered, h, hlocked, hedge, leafTimer, closeLimit])⟩
  · obtain ⟨hj, hsettled⟩ := Leaf.settled_edge h hlocked hopen hcount (s.doors.side (leafSide i))
    exact ⟨_, exec_obstruction .., State.readLeaf_takes hj hsettled⟩
  · rw [exec_obstruction, State.readLeaf_idle (by simp [Leaf.judged, h, hopen])]
  · rw [exec_obstruction, exec_openEndSwitchChange, State.readLeaf_idle, State.readLeaf_idle]
    · exact ⟨rfl, rfl⟩
    all_goals rcases h with h | h | h <;> simp [Leaf.judged, h]
  · split
    · next hpress =>
      refine ⟨_, congrArg Host.Outcome.next (if_pos hpress), State.enterLeaf_takes ?_⟩
      cases hopen : (s.doors.leaf i).openEnd <;>
        simp [Leaf.settled, Leaf.judged, Leaf.entered, hopen, leafTimer, openLimit]
    · next hnot => exact congrArg Host.Outcome.next (if_neg hnot)
  · split
    · next h =>
      exact ⟨_, congrArg Host.Outcome.next (if_pos h), State.enterLeaf_takes
        (by simp [Leaf.settled, Leaf.judged, Leaf.entered, leafTimer])⟩
    · next h => exact congrArg Host.Outcome.next (if_neg h)
  · split
    · next h =>
      exact ⟨_, congrArg Host.Outcome.next (if_pos h), State.enterLeaf_takes
        (by simp [Leaf.settled, Leaf.judged, Leaf.entered, leafTimer])⟩
    · next h => exact congrArg Host.Outcome.next (if_neg h)
  · split
    · next h =>
      exact fun hlocked hedge => ⟨_, congrArg Host.Outcome.next (if_pos h), State.enterLeaf_takes
        (by simp [Leaf.settled, Leaf.judged, Leaf.entered, hlocked, hedge, leafTimer, closeLimit])⟩
    · next h => exact congrArg Host.Outcome.next (if_neg h)

end Sys2Proof.Machine

/-! SUPPORT. The joining of a cause, the faults of a spring brake, and the brake unit's own events. -/

namespace Sys2Proof.Machine

/-! ## A cause joins -/

theorem CauseSet.has_join (c : CauseSet) (k j : CauseKind) : (c.join k).has j = (decide (j = k) || c.has j) := by
  cases k <;> cases j <;> simp [CauseSet.join, CauseSet.has]

theorem Flagged.applyCmd {s : State} {k : FlagKind} (h : Flagged s k) (b : BrakeId) : Flagged (s.applyCmd b) k :=
  (State.applyCmd_subdued b s).flags k h

theorem Flagged.setTerms {s : State} {k : FlagKind} (h : Flagged s k) (t : Terms) : Flagged (s.setTerms t) k :=
  (State.setTerms_subdued t s).flags k h

/-- A kind that joins the set: the set, its record, EMERGENCY at 100 and the CAUSES flags (R99, R103). -/
theorem State.joinCause_effect (k : CauseKind) (s : State) :
    (s.joinCause k).brk.terms = { s.brk.terms with emergency := 100 } ∧
      (s.joinCause k).brk.causes = s.brk.causes.join k ∧ (s.joinCause k).brk.first = s.firstAfter k ∧
      OutputLaw (s.joinCause k) ∧ Flagged (s.joinCause k) .causes := by
  obtain ⟨hterms, hcauses, hfirst, hlaw, -⟩ := s.takeCause_effect k
  obtain ⟨htermsH, hcausesH, hfirstH, -⟩ := Brakes.still_iff.1 (State.applyCmd_still .hold (s.takeCause k))
  have hflag : Flagged (s.takeCause k) .causes := ((flagged_flag _ _).setTerms _).applyCmd .rack
  have halarm : ∀ t : State, (t.offerAlarm k).brk = t.brk ∧ (t.offerAlarm k).flags = t.flags := fun t => by simp
  rw [State.joinCause_eq]
  split
  · obtain ⟨hbrk, hflags⟩ := halarm ((s.takeCause k).applyCmd .hold)
    refine ⟨by rw [hbrk, htermsH, hterms], by rw [hbrk, hcausesH, hcauses], by rw [hbrk, hfirstH, hfirst], ?_,
      (hflag.applyCmd .hold).congr hflags⟩
    exact (State.applyCmd_law hlaw .hold).congr (by rw [hbrk]) (by rw [hbrk]) (by rw [hbrk]) (by rw [hbrk]) (by rw [hbrk])
  · obtain ⟨hbrk, hflags⟩ := halarm (s.takeCause k)
    refine ⟨by rw [hbrk, hterms], by rw [hbrk, hcauses], by rw [hbrk, hfirst], ?_, hflag.congr hflags⟩
    exact hlaw.congr (by rw [hbrk]) (by rw [hbrk]) (by rw [hbrk]) (by rw [hbrk]) (by rw [hbrk])

/-- A cause added is held, and EMERGENCY stands at 100 where it joins (R99). -/
theorem State.addCause_effect {k : CauseKind} (hk : k ≠ .rollaway) (s : State) :
    (s.addCause k).brk.causes.has k = true ∧
      (s.addCause k).brk.terms.emergency = if s.brk.causes.has k = true then s.brk.terms.emergency else 100 := by
  rw [State.addCause_eq hk]
  split
  · next h => exact ⟨h, by simp⟩
  · obtain ⟨hterms, hcauses, -⟩ := s.joinCause_effect k
    exact ⟨by simp [hcauses, CauseSet.has_join], by rw [hterms]⟩

/-! ## Doors command no brake but the holding brake -/

theorem State.settleLeaf_commanded (i : LeafId) (n : Nat) (s : State) : s.brk.Commanded (s.settleLeaf i n).brk := by
  induction n generalizing s with
  | zero => exact .refl _
  | succ n ih =>
    unfold State.settleLeaf
    dsimp only
    split
    · exact .refl _
    · next x r _ =>
      have hleaf := State.setLeaf_commanded i x r s
      split
      · refine hleaf.trans (.trans ?_ (ih _))
        exact .ite (.refl _) (State.setTerms_commanded _ _)
      · exact hleaf.trans (ih _)

theorem State.enterLeaf_commanded (i : LeafId) (x : LeafState) (r : Nat) (s : State) :
    s.brk.Commanded (s.enterLeaf i x r).brk :=
  (State.setLeaf_commanded i x r s).trans (State.settleLeaf_commanded i 10 _)

theorem State.withdrawLeaf_commanded (i : LeafId) (s : State) : s.brk.Commanded (s.withdrawLeaf i).brk := by
  unfold State.withdrawLeaf
  split
  case h_1 | h_2 | h_3 | h_4 => exact State.enterLeaf_commanded i .closing 0 s
  all_goals exact .refl _

theorem State.withdrawSide_commanded (d : SideId) (s : State) : s.brk.Commanded (s.withdrawSide d).brk := by
  have hleaves : ∀ t : State, t.brk.Commanded (t.withdrawLeaves d).brk := fun t => by
    cases d <;> exact (State.withdrawLeaf_commanded _ t).trans (State.withdrawLeaf_commanded _ _)
  have hside : (s.setSide d .locked).brk = s.brk := by
    unfold State.setSide
    split <;> simp
  unfold State.withdrawSide
  split
  · exact .refl _
  · exact hside ▸ hleaves _

theorem State.leftApplied_commanded (b : BrakeId) (s : State) : s.brk.Commanded (s.leftApplied b).brk := by
  have hall : s.brk.Commanded s.withdrawAll.brk :=
    (State.withdrawSide_commanded .a s).trans (State.withdrawSide_commanded .b _)
  unfold State.leftApplied
  split
  · exact hall
  · exact .ite hall (.refl _)

/-! ## A fault of a spring brake -/

/-- A brake in FAULT with the withdrawals and the cause of its entry, before its feedback is judged (R91). -/
def State.faulted (b : BrakeId) (s : State) : State :=
  (if (s.brk.get b).state = .applied then (s.setBrake b .fault).leftApplied b else s.setBrake b .fault).addCause
    .brakeFeedback

/-- From the entry into FAULT on the brakes are at most commanded to apply (R91). -/
theorem State.faulted_commanded (b : BrakeId) (s : State) : (s.setBrake b .fault).brk.Commanded (s.faulted b).brk := by
  refine .trans ?_ (State.addCause_commanded (by simp) _)
  exact .ite (State.leftApplied_commanded b _) (.refl _)

theorem State.faulted_brake (b : BrakeId) (s : State) :
    ((s.faulted b).brk.get b).state = .fault ∧ ((s.faulted b).brk.get b).feedback = (s.brk.get b).feedback := by
  obtain ⟨hstate, hfeedback⟩ := State.setBrake_same b .fault s
  have hget := (s.faulted_commanded b).get (i := b) (by rw [hstate]; rfl)
  exact ⟨by rw [hget, hstate], by rw [hget, hfeedback]⟩

/-- A feedback that reads APPLIED takes the brake on out of FAULT (R92). -/
theorem State.brakeFault_eq (b : BrakeId) (s : State) :
    s.brakeFault b = if (s.brk.get b).feedback = .applied then (s.faulted b).setBrake b .applied else s.faulted b := by
  obtain ⟨-, hfeedback⟩ := s.faulted_brake b
  change (match ((s.faulted b).brk.get b).feedback with
    | .applied => (s.faulted b).setBrake b .applied
    | .clear => s.faulted b) = _
  rw [hfeedback]
  cases (s.brk.get b).feedback <;> rfl

/-- What a fault leaves of causes, flags and doors (R91, R114). -/
theorem State.faulted_effect {b : BrakeId} {s : State} (h : (s.brk.get b).state ≠ .fault) :
    (s.faulted b).brk.causes.brakeFeedback = true ∧
      (s.faulted b).brk.terms.emergency =
        (if s.brk.causes.brakeFeedback = true then s.brk.terms.emergency else 100) ∧
      Flagged (s.faulted b) .brakes ∧
      ((s.brk.get b).state ≠ .applied → (s.faulted b).doors = s.doors) ∧
      ((s.brk.get b).state = .applied → b = .hold → (s.faulted b).doors.sideReleased = false) := by
  obtain ⟨u, hu⟩ : ∃ u, u = if (s.brk.get b).state = .applied then (s.setBrake b .fault).leftApplied b
    else s.setBrake b .fault := ⟨_, rfl⟩
  have hfault : s.faulted b = u.addCause .brakeFeedback := by rw [hu]; rfl
  have hbeside : u.brk.emergency = s.brk.emergency := by
    have hset := Brakes.emergency_of_still (State.setBrake_still b .fault s)
    rw [hu]
    split
    · exact (Brakes.besideDoors_eq_iff.1 (State.leftApplied_besideDoors b _)).2.trans hset
    · exact hset
  have hflagged : Flagged u .brakes := by
    have hset := State.setBrake_flagged h
    rw [hu]
    split
    · exact (State.leftApplied_subdued b _).flags _ hset
    · exact hset
  obtain ⟨hcauses, hemergency⟩ := State.addCause_effect (k := .brakeFeedback) (by simp) u
  simp only [Brakes.emergency, Prod.mk.injEq] at hbeside
  obtain ⟨hc, -, he⟩ := hbeside
  rw [hfault]
  refine ⟨hcauses, ?_, (State.addCause_subdued (by simp) u).flags _ hflagged, fun hst => ?_, fun hst hb => ?_⟩
  · simpa [CauseSet.has, hc, he] using hemergency
  · simp [hu, hst]
  · subst hb
    simp [hu, hst, State.leftApplied]

/-- A brake fault keeps what the entry into FAULT made of causes and doors (R92). -/
theorem State.brakeFault_effect {b : BrakeId} {s : State} (h : (s.brk.get b).state ≠ .fault) :
    ((s.brakeFault b).brk.get b).state = (if (s.brk.get b).feedback = .applied then .applied else .fault) ∧
      ((s.brakeFault b).brk.get b).feedback = (s.brk.get b).feedback ∧
      (s.brakeFault b).brk.causes.brakeFeedback = true ∧
      (s.brakeFault b).brk.terms.emergency =
        (if s.brk.causes.brakeFeedback = true then s.brk.terms.emergency else 100) ∧
      Flagged (s.brakeFault b) .brakes ∧
      ((s.brk.get b).state ≠ .applied → (s.brakeFault b).doors = s.doors) ∧
      ((s.brk.get b).state = .applied → b = .hold → (s.brakeFault b).doors.sideReleased = false) := by
  obtain ⟨hstate, hfeedback⟩ := s.faulted_brake b
  obtain ⟨hcauses, hemergency, hflag, hdoors, hside⟩ := State.faulted_effect h
  rw [State.brakeFault_eq]
  split
  · next happlied =>
    obtain ⟨hst, hfb⟩ := State.setBrake_same b .applied (s.faulted b)
    obtain ⟨hterms, hcs, -⟩ := Brakes.still_iff.1 (State.setBrake_still b .applied (s.faulted b))
    exact ⟨hst, hfb.trans hfeedback, hcs ▸ hcauses, hterms ▸ hemergency, hflag.setBrake b _,
      by simpa using hdoors, by simpa using hside⟩
  · exact ⟨hstate, hfeedback, hcauses, hemergency, hflag, hdoors, hside⟩

/-! ## The brake unit's events -/

/-- What a changed feedback makes of a brake's state (R89 to R92). -/
def BrakeState.judged (x : BrakeState) (r : Feedback) : BrakeState :=
  match x, r with
  | .applied, .clear => .fault
  | .released, .applied => .applied
  | .releasing, .clear => .released
  | .applying, .applied => .applied
  | .fault, .applied => .applied
  | x, _ => x

/-- A state and a reading that disagree: the two of R91. -/
def BrakeState.disagrees (x : BrakeState) (r : Feedback) : Prop := x = .applied ∧ r = .clear ∨ x = .released ∧ r = .applied

theorem State.judgeFeedback_fault {b : BrakeId} {s : State}
    (h : (s.brk.get b).state.disagrees (s.brk.get b).feedback) : s.judgeFeedback b = s.brakeFault b := by
  unfold State.judgeFeedback
  rcases h with ⟨hs, hf⟩ | ⟨hs, hf⟩ <;> simp [hs, hf]

theorem State.judgeFeedback_moves {b : BrakeId} {s : State}
    (h : ¬ (s.brk.get b).state.disagrees (s.brk.get b).feedback) :
    s.judgeFeedback b = s.setBrake b ((s.brk.get b).state.judged (s.brk.get b).feedback) := by
  have hsame : ∀ st, (s.brk.get b).state = st → s.setBrake b st = s := fun st hst => by simp [State.setBrake, hst]
  unfold State.judgeFeedback
  split
  case h_1 hs hf => exact absurd (.inl ⟨hs, hf⟩) h
  case h_2 hs hf => exact absurd (.inr ⟨hs, hf⟩) h
  all_goals
    next hs hf =>
    rw [hs, hf]
    simp [BrakeState.judged, hsame _ hs]

/-- A feedback judged by the brake's state (R89 to R92). -/
theorem State.judgeFeedback_effect (b : BrakeId) (s : State) :
    ((s.judgeFeedback b).brk.get b).feedback = (s.brk.get b).feedback ∧
      ((s.judgeFeedback b).brk.get b).state = (s.brk.get b).state.judged (s.brk.get b).feedback ∧
      ((s.brk.get b).state.disagrees (s.brk.get b).feedback → (s.judgeFeedback b).brk.causes.brakeFeedback = true ∧
        (s.judgeFeedback b).brk.terms.emergency =
          (if s.brk.causes.brakeFeedback = true then s.brk.terms.emergency else 100)) ∧
      ((s.brk.get b).state = .applied → (s.brk.get b).feedback = .clear → b = .hold →
        (s.judgeFeedback b).doors.sideReleased = false) ∧
      (((s.judgeFeedback b).brk.get b).state ≠ (s.brk.get b).state → Flagged (s.judgeFeedback b) .brakes) := by
  by_cases hdis : (s.brk.get b).state.disagrees (s.brk.get b).feedback
  · have hnot : (s.brk.get b).state ≠ .fault := by rcases hdis with ⟨hs, -⟩ | ⟨hs, -⟩ <;> simp [hs]
    obtain ⟨hstate, hfeedback, hcauses, hemergency, hflag, -, hside⟩ := State.brakeFault_effect hnot
    rw [State.judgeFeedback_fault hdis]
    refine ⟨hfeedback, ?_, fun _ => ⟨hcauses, hemergency⟩, fun hs _ hb => hside hs hb, fun _ => hflag⟩
    rw [hstate]
    rcases hdis with ⟨hs, hf⟩ | ⟨hs, hf⟩ <;> simp [hs, hf, BrakeState.judged]
  · obtain ⟨hstate, hfeedback⟩ := State.setBrake_same b ((s.brk.get b).state.judged (s.brk.get b).feedback) s
    rw [State.judgeFeedback_moves hdis]
    exact ⟨hfeedback, hstate, fun h => absurd h hdis, fun hs hf => absurd (.inl ⟨hs, hf⟩) hdis,
      State.setBrake_flagged_of_ne⟩

theorem State.judgeFeedback_frame (b : BrakeId) (s : State) :
    SameSetup s (s.judgeFeedback b) ∧ SameRadio s (s.judgeFeedback b) ∧ (s.judgeFeedback b).token = s.token ∧
      (s.judgeFeedback b).refusal = s.refusal ∧ (s.judgeFeedback b).handler = s.handler ∧
      (s.judgeFeedback b).mon = s.mon ∧ (s.judgeFeedback b).pos = s.pos ∧ (s.judgeFeedback b).line = s.line ∧
      (s.judgeFeedback b).sup = s.sup ∧ (s.judgeFeedback b).contact = s.contact ∧ (s.judgeFeedback b).mode = s.mode ∧
      (s.judgeFeedback b).upper = s.upper ∧ (s.judgeFeedback b).lower = s.lower := by
  by_cases hdis : (s.brk.get b).state.disagrees (s.brk.get b).feedback
  · rw [State.judgeFeedback_fault hdis]
    simp [SameSetup, SameRadio]
  · rw [State.judgeFeedback_moves hdis]
    simp [SameSetup, SameRadio]

theorem State.setFeedback_get (b : BrakeId) (r : Feedback) (s : State) :
    (s.setFeedback b r).brk.get b = { s.brk.get b with feedback := r } ∧
      (s.setFeedback b r).brk.causes = s.brk.causes ∧ (s.setFeedback b r).brk.terms = s.brk.terms := by
  cases b <;> exact ⟨rfl, rfl, rfl⟩

/-- Writing demand terms leaves the watches of vigilance and standstill (R84, R96). -/
theorem State.setTerms_watches (t : Terms) (s : State) : (s.setTerms t).brk.vigTimer = s.brk.vigTimer ∧
    (s.setTerms t).brk.holdTimer = s.brk.holdTimer ∧ (s.setTerms t).brk.long = s.brk.long := by
  have hout := Brakes.still_iff.1 (State.settleOutputs_still (s.withBrk { s.brk with terms := t }))
  have hcmd := Brakes.still_iff.1 (State.applyCmd_still .hold (s.withBrk { s.brk with terms := t }).settleOutputs)
  obtain ⟨-, -, -, hvig, hhold, hlong⟩ := hout
  obtain ⟨-, -, -, hvigC, hholdC, hlongC⟩ := hcmd
  unfold State.setTerms
  dsimp only
  split
  · exact ⟨hvigC.trans hvig, hholdC.trans hhold, hlongC.trans hlong⟩
  · exact ⟨hvig, hhold, hlong⟩

theorem Terms.vigilance_le_top (t : Terms) : t.vigilance ≤ t.top := by
  simp only [Terms.top]
  omega

theorem exec_vigilanceTimerExpiry {s : State} {n : Nat} (h : s.brk.vigTimer = some n) : exec .vigilanceTimerExpiry s =
    .next ((s.withBrk { s.brk with vigTimer := none }).setTerms { s.brk.terms with vigilance := 100 }) := by
  change execVigilanceTimerExpiry s = _
  simp [execVigilanceTimerExpiry, h]

theorem exec_holdTimerExpiry {s : State} {n : Nat} (h : s.brk.holdTimer = some n) :
    exec .holdTimerExpiry s = .next s.holdExpired := by
  change execHoldTimerExpiry s = _
  simp [execHoldTimerExpiry, h]

/-- The long standstill: in DRIVE with a demand the holding brake is commanded to apply, else no brake is (R96). -/
theorem State.holdExpired_effect (s : State) :
    s.holdExpired.brk.holdTimer = none ∧ s.holdExpired.brk.long = true ∧
      (s.mode.mode = .drive → 0 < s.brk.serviceOut → s.holdExpired.brk.hold.state.energized = false) ∧
      (s.mode.mode ≠ .drive ∨ s.brk.serviceOut = 0 → s.holdExpired.brk.hold = s.brk.hold) ∧
      s.holdExpired.brk.terms = s.brk.terms ∧ s.holdExpired.brk.causes = s.brk.causes ∧
      s.holdExpired.brk.rack = s.brk.rack := by
  unfold State.holdExpired
  dsimp only
  split
  · next h =>
    obtain ⟨hterms, hcauses, -, -, hhold, hlong⟩ := Brakes.still_iff.1
      (State.applyCmd_still .hold (s.withBrk { s.brk with holdTimer := none, long := true }))
    refine ⟨hhold, hlong, fun _ _ => State.applyCmd_energized .hold _, fun hno => ?_, hterms, hcauses,
      State.applyCmd_other (b := .hold) (c := .rack) (by decide) _⟩
    rcases hno with hno | hno
    · exact absurd h.1 hno
    · exact absurd h.2 (by simp [hno])
  · next h => exact ⟨rfl, rfl, fun hmode hout => absurd ⟨hmode, hout⟩ h, fun _ => rfl, rfl, rfl, rfl⟩

/-- Settles O44: a disagreeing feedback is a fault of the brake, every other reading moves it by its state, and the timers'
expiries are the entry into FAULT, the VIGILANCE term and the long standstill. -/
theorem feedbackAndTimersMoveTheBrakes : Obligations.FeedbackAndTimersMoveTheBrakes := by
  intro s b
  refine ⟨fun r hr => ?_, fun hst hfb => ?_, fun hst hfb => ?_, fun h => congrArg Host.Outcome.next (if_neg h),
    fun h => congrArg Host.Outcome.next (if_neg h), fun n => ⟨fun h => ?_, fun h => ?_⟩⟩
  · obtain ⟨hget, hcausesU, htermsU⟩ := s.setFeedback_get b r
    obtain ⟨hfeedback, hstate, hfault, hside, hflag⟩ := (s.setFeedback b r).judgeFeedback_effect b
    rw [hget] at hfeedback hstate hfault hside hflag
    rw [hcausesU, htermsU] at hfault
    exact ⟨_, congrArg Host.Outcome.next (if_neg hr), hfeedback, hstate, hfault, hside, hflag,
      (s.setFeedback b r).judgeFeedback_frame b⟩
  · obtain ⟨hstate, -, hcauses, -, hflag, hdoors, -⟩ := State.brakeFault_effect (b := b) (s := s) (by simp [hst])
    refine ⟨_, congrArg Host.Outcome.next (if_pos hst), by rw [hstate, hfb]; rfl, hcauses, hflag, ?_⟩
    simp [SameSetup, SameRadio, hdoors (by simp [hst])]
  · obtain ⟨hstate, -, hcauses, -, hflag, hdoors, -⟩ := State.brakeFault_effect (b := b) (s := s) (by simp [hst])
    refine ⟨_, congrArg Host.Outcome.next (if_pos hst), by rw [hstate, hfb]; rfl, hcauses, hflag, ?_⟩
    simp [SameSetup, SameRadio, hdoors (by simp [hst])]
  · obtain ⟨x, hx⟩ : ∃ x : Terms, x = { s.brk.terms with vigilance := 100 } := ⟨_, rfl⟩
    obtain ⟨u, hu⟩ : ∃ u, u = s.withBrk { s.brk with vigTimer := none } := ⟨_, rfl⟩
    obtain ⟨hterms, -, -, hout, hcut⟩ := State.setTerms_effect x u
    obtain ⟨hvig, -⟩ := State.setTerms_watches x u
    have hdemand : 100 ≤ (u.setTerms x).brk.serviceOut := by
      have htop := Terms.vigilance_le_top x
      rw [hout, hterms]
      exact Nat.le_trans (by simp [hx]) htop
    refine ⟨u.setTerms x, ?_, by rw [hvig, hu]; rfl, hx ▸ hterms, hdemand, hcut.2 (.inl (by omega)), ?_⟩
    · rw [exec_vigilanceTimerExpiry h, hu, hx]
    · simp [SameSetup, SameRadio, SameHandler, hu]
  · obtain ⟨htimer, hlong, happlied, hkept, hterms, hcauses, hrack⟩ := s.holdExpired_effect
    refine ⟨_, exec_holdTimerExpiry h, htimer, hlong, happlied, hkept, hterms, hcauses, hrack, ?_⟩
    simp [SameSetup, SameRadio, SameHandler]

end Sys2Proof.Machine

/-! SUPPORT. Doors released and doors closed: each side's act is an act on each of its leaves. -/

namespace Sys2Proof.Machine

/-! ## States that differ in their doors -/

/-- Nothing but the doors and the change flags differs, and doors that differ are reported (R125). -/
structure DoorsMove (s t : State) : Prop where
  alone : t = (s.withDoors t.doors).withFlags t.flags
  kept : Flagged s .doors → Flagged t .doors
  reported : t.doors ≠ s.doors → Flagged t .doors

theorem DoorsMove.refl (s : State) : DoorsMove s s := ⟨rfl, id, fun h => absurd rfl h⟩

theorem DoorsMove.trans {s t u : State} (h : DoorsMove s t) (g : DoorsMove t u) : DoorsMove s u where
  alone := by
    have hu := g.alone
    rw [h.alone] at hu
    exact hu
  kept := fun hs => g.kept (h.kept hs)
  reported := fun hne => by
    by_cases hsame : t.doors = s.doors
    · exact g.reported fun he => hne (he.trans hsame)
    · exact g.kept (h.reported hsame)

theorem DoorsMove.of_flag (d : Doors) (s : State) : DoorsMove s ((s.withDoors d).flag .doors) :=
  ⟨rfl, fun _ => flagged_flag _ _, fun _ => flagged_flag _ _⟩

theorem DoorsMove.frame {s t : State} (h : DoorsMove s t) :
    t.brk = s.brk ∧ t.valves = s.valves ∧ SameSetup s t ∧ SameRadio s t ∧ SameHandler s t ∧ t.token = s.token ∧
      t.refusal = s.refusal ∧ t.pos = s.pos ∧ t.line = s.line ∧ t.sup = s.sup ∧ t.contact = s.contact ∧
      t.mode = s.mode ∧ t.upper = s.upper ∧ t.lower = s.lower := by
  rw [h.alone]
  simp [SameSetup, SameRadio, SameHandler]

/-! ## A side released -/

theorem State.applyCmd_of_applied {s : State} (h : s.brk.hold.state = .applied) : s.applyCmd .hold = s := by
  have hget : (s.brk.get .hold).state = .applied := h
  simp only [State.applyCmd, hget]

/-- A CLOSED_LOCKED leaf is unlocked (R112). -/
def Leaf.unlocked (l : Leaf) : Leaf :=
  if l.state = .closedLocked then { l with state := .closedUnlocked, timer := none } else l

theorem State.unlockLeaf_moves (i : LeafId) {s : State} (h : s.brk.hold.state = .applied) :
    DoorsMove s (s.unlockLeaf i) ∧ (s.unlockLeaf i).doors = s.doors.putLeaf i (s.doors.leaf i).unlocked := by
  unfold State.unlockLeaf Leaf.unlocked
  dsimp only
  split
  · have hset : ∀ d : Doors, ((s.withDoors d).flag .doors).applyCmd .hold = (s.withDoors d).flag .doors := fun d =>
      State.applyCmd_of_applied (by simpa using h)
    have hleaf : s.setLeaf i .closedUnlocked (s.doors.leaf i).reversals =
        ((s.withDoors (s.doors.putLeaf i ((s.doors.leaf i).entered .closedUnlocked (s.doors.leaf i).reversals))).flag
          .doors).applyCmd .hold := rfl
    have henter : s.enterLeaf i .closedUnlocked (s.doors.leaf i).reversals = (s.withDoors (s.doors.putLeaf i
        ((s.doors.leaf i).entered .closedUnlocked (s.doors.leaf i).reversals))).flag .doors := by
      have hidle := State.enterLeaf_idle (i := i) (s := s) (st := .closedUnlocked) (r := (s.doors.leaf i).reversals)
        (by simp [Leaf.judged])
      exact hidle.trans (hleaf.trans (hset _))
    rw [henter]
    exact ⟨.of_flag _ s, by simp [Leaf.entered, leafTimer]⟩
  · simp [DoorsMove.refl]

/-- A side released is RELEASED, and its CLOSED_LOCKED leaves are unlocked where it was LOCKED (R112). -/
theorem State.releaseSide_moves (d : SideId) {s : State} (h : s.brk.hold.state = .applied) :
    DoorsMove s (s.releaseSide d) ∧ (∀ e, (s.releaseSide d).doors.side e = if e = d then .released else s.doors.side e) ∧
      ∀ i, (s.releaseSide d).doors.leaf i =
        if leafSide i = d ∧ s.doors.side d = .locked then (s.doors.leaf i).unlocked else s.doors.leaf i := by
  unfold State.releaseSide
  split
  · next hside =>
    refine ⟨.refl s, fun e => ?_, fun i => by simp [hside]⟩
    split
    · next he => rw [he, hside]
    · rfl
  · next hside =>
    obtain ⟨u, hu⟩ : ∃ u, u = s.setSide d .released := ⟨_, rfl⟩
    have hset : u = (s.withDoors (s.doors.putSide d .released)).flag .doors :=
      hu.trans (State.setSide_released_eq h (by simp [hside]))
    have hopen : DoorsMove s u := hset ▸ .of_flag _ s
    have hhold : u.brk.hold.state = .applied := by rw [hopen.frame.1, h]
    have hleaves : ∀ i j, i ≠ j → DoorsMove u ((u.unlockLeaf i).unlockLeaf j) ∧
        ((u.unlockLeaf i).unlockLeaf j).doors =
          (u.doors.putLeaf i (u.doors.leaf i).unlocked).putLeaf j (u.doors.leaf j).unlocked := fun i j hij => by
      obtain ⟨hfirst, hdoors⟩ := State.unlockLeaf_moves i hhold
      obtain ⟨hsecond, hdoors2⟩ := State.unlockLeaf_moves j (s := u.unlockLeaf i) (by rw [hfirst.frame.1, hhold])
      refine ⟨hfirst.trans hsecond, ?_⟩
      rw [hdoors2, hdoors, Doors.leaf_putLeaf_other _ _ (Ne.symm hij)]
    rw [← hu]
    have hud : u.doors = s.doors.putSide d .released := by simp [hset]
    cases d
    · obtain ⟨hmove, hdoors⟩ := hleaves .a1 .a2 (by decide)
      refine ⟨hopen.trans hmove, fun e => ?_, fun i => ?_⟩ <;>
        simp only [SideId.leaves, List.foldl_cons, List.foldl_nil, hdoors, hud, hside]
      · cases e <;> rfl
      · cases i <;> rfl
    · obtain ⟨hmove, hdoors⟩ := hleaves .b1 .b2 (by decide)
      refine ⟨hopen.trans hmove, fun e => ?_, fun i => ?_⟩ <;>
        simp only [SideId.leaves, List.foldl_cons, List.foldl_nil, hdoors, hud, hside]
      · cases e <;> rfl
      · cases i <;> rfl

/-- Sides released one after another (R112). -/
theorem State.releaseSides_moves (sides : List SideId) (hnodup : sides.Nodup) {s : State}
    (h : s.brk.hold.state = .applied) :
    DoorsMove s (sides.foldl (fun t d => t.releaseSide d) s) ∧
      (∀ e, (sides.foldl (fun t d => t.releaseSide d) s).doors.side e =
        if e ∈ sides then .released else s.doors.side e) ∧
      ∀ i, (sides.foldl (fun t d => t.releaseSide d) s).doors.leaf i =
        if leafSide i ∈ sides ∧ s.doors.side (leafSide i) = .locked then (s.doors.leaf i).unlocked
        else s.doors.leaf i := by
  induction sides generalizing s with
  | nil => exact ⟨.refl s, fun _ => by simp, fun _ => by simp⟩
  | cons d rest ih =>
    obtain ⟨hnot, hrest⟩ := List.nodup_cons.1 hnodup
    obtain ⟨hmove, hside, hleaf⟩ := State.releaseSide_moves d h
    obtain ⟨hmoves, hsides, hleaves⟩ := ih hrest (s := s.releaseSide d) (by rw [hmove.frame.1, h])
    refine ⟨hmove.trans hmoves, fun e => ?_, fun i => ?_⟩
    · rw [List.foldl_cons, hsides, hside]
      by_cases he : e = d <;> by_cases her : e ∈ rest <;> simp [he, her]
    · rw [List.foldl_cons, hleaves, hside, hleaf]
      by_cases hi : leafSide i = d
      · rw [hi]
        simp [hnot]
      · simp [hi]

theorem sidesOf_nodup {n : Nat} {sides : List SideId} (h : sidesOf n = some sides) : sides.Nodup := by
  unfold sidesOf at h
  split at h <;> cases h <;> decide

theorem State.steep_iff (s : State) :
    s.steep = true ↔ ∃ p ∈ s.extentSpans, s.params.doorGradient < p.seg.gradient.natAbs := by
  simp [State.steep]

theorem State.doorsMayRelease_iff (s : State) : s.doorsMayRelease = true ↔
    s.mode.mode ≠ .parked ∧ s.mode.mode ≠ .waking ∧ s.pos.standstill = true ∧ s.brk.hold.state = .applied ∧
      ((∃ p ∈ s.extentSpans, s.params.doorGradient < p.seg.gradient.natAbs) → s.brk.rack.state = .applied) ∧
      s.pos.confidence = .confirmed := by
  rw [← State.steep_iff]
  cases hs : s.steep <;> simp [State.doorsMayRelease, hs, and_assoc]

theorem PlatformSide.serves_iff (p : PlatformSide) (d : SideId) :
    p.serves d = true ↔ p = .both ∨ p = (match d with | .a => .a | .b => .b) := by
  cases p <;> cases d <;> decide

/-- The platform condition of the sides named (R111). -/
theorem State.atPlatforms_iff (sides : List SideId) (hsides : sides ≠ []) (s : State) :
    (sides.all fun d => s.atPlatform d) = true ↔
      s.line.profile = .valid ∧ s.params.carLength ≤ s.pos.count ∧ s.pos.count ≤ s.line.lineEnd ∧
        ∀ d ∈ sides, ∀ p ∈ s.extentSpans, p.seg.side = .both ∨ p.seg.side = (match d with | .a => .a | .b => .b) := by
  have hone : ∀ d, s.atPlatform d = true ↔ s.line.profile = .valid ∧ s.params.carLength ≤ s.pos.count ∧
      s.pos.count ≤ s.line.lineEnd ∧
        ∀ p ∈ s.extentSpans, p.seg.side = .both ∨ p.seg.side = (match d with | .a => .a | .b => .b) := fun d => by
    have hlow : 0 ≤ s.lowerEnd ↔ s.params.carLength ≤ s.pos.count := by
      unfold State.lowerEnd
      omega
    have hup : s.upperEnd ≤ (s.line.lineEnd : Int) ↔ s.pos.count ≤ s.line.lineEnd := by
      unfold State.upperEnd
      omega
    simp only [State.atPlatform, Bool.and_eq_true, decide_eq_true_eq, and_assoc, List.all_eq_true,
      PlatformSide.serves_iff, hlow, hup]
  obtain ⟨d, hd⟩ := List.exists_mem_of_ne_nil sides hsides
  simp only [List.all_eq_true, hone]
  constructor
  · intro h
    obtain ⟨hvalid, hlow, hup, -⟩ := h d hd
    exact ⟨hvalid, hlow, hup, fun e he => (h e he).2.2.2⟩
  · rintro ⟨hvalid, hlow, hup, hall⟩ e he
    exact ⟨hvalid, hlow, hup, hall e he⟩

theorem sidesOf_ne_nil {n : Nat} {sides : List SideId} (h : sidesOf n = some sides) : sides ≠ [] := by
  unfold sidesOf at h
  split at h <;> cases h <;> simp

theorem State.heard_reads (c : Cab) (s : State) :
    (s.heard c).doorsMayRelease = s.doorsMayRelease ∧ ∀ d, (s.heard c).atPlatform d = s.atPlatform d := by
  cases c <;> exact ⟨rfl, fun _ => rfl⟩

/-- Settles O16: with the holding brake APPLIED a release moves no brake, and each side named unlocks its own leaves. -/
theorem doorReleaseReleasesTheNamedSides : Obligations.DoorReleaseReleasesTheNamedSides := by
  intro s m code rest h hp
  obtain ⟨hmayH, hplatH⟩ := s.heard_reads m.cab
  have hrefused : ∀ (c : ResultCode), c.accepted = false →
      ownDoorRelease m.payload (s.heard m.cab) = refuse c (s.heard m.cab) →
      exec (.doorRelease m) s = .next (s.refused 13#8 m c) := fun c hc hown =>
    congrArg Host.Outcome.next (State.cabCommand_refused h hown hc)
  have hnamed : sidesIn m.payload = sidesOf code.toNat := by rw [hp]; rfl
  split
  · next hmay =>
    have hmayB : (s.heard m.cab).doorsMayRelease = true := hmayH ▸ (s.doorsMayRelease_iff).2 hmay
    have happlied : (s.heard m.cab).brk.hold.state = .applied := by
      obtain ⟨-, -, -, hhold, -⟩ := hmay
      simpa using hhold
    split
    · next hnone =>
      exact hrefused _ rfl (by simp [ownDoorRelease, hmayB, hnamed, hnone])
    · next sides hsome =>
      have hplat := State.atPlatforms_iff sides (sidesOf_ne_nil hsome) s
      split
      · next hall =>
        have hown : ownDoorRelease m.payload (s.heard m.cab) = acceptWith State.doorBody
            (sides.foldl (fun t d => t.releaseSide d) (s.heard m.cab)) := by
          simp only [ownDoorRelease, hmayB, hnamed, hsome, hplatH, hplat.2 hall]
          rfl
        obtain ⟨hmove, hside, hleaf⟩ := State.releaseSides_moves sides (sidesOf_nodup hsome) happlied
        obtain ⟨t, ht⟩ : ∃ t, t = sides.foldl (fun t d => t.releaseSide d) (s.heard m.cab) := ⟨_, rfl⟩
        rw [← ht] at hown hmove hside hleaf
        obtain ⟨hbrk, hvalves, hsetup, hradio, hhandler, htoken, hrefusal, hpos, hline, hsup, hcontact, hmode, hup, hlow⟩ :=
          hmove.frame
        refine ⟨t.withPort m.cab (s.answered 13#8 m .ok t.doors.states), ?_, answers_of_ports s m hup hlow (by simp), ?_⟩
        · exact congrArg Host.Outcome.next (State.cabCommand_acceptedWith h hown
            ((State.port_congr hup hlow _).trans (State.heard_port_same m.cab s)))
        · simp only [State.heard_frame, SameSetup, SameRadio, SameHandler] at *
          simp only [State.withPort_frame, flagged_withPort]
          refine ⟨hside, fun i => ?_, hmove.reported ∘ fun hne => by simpa using hne, hbrk, hvalves, hsetup, hradio,
            hhandler, htoken, hrefusal, hpos, hline, hsup, hcontact, hmode⟩
          split
          · next hi =>
            obtain ⟨hin, hlocked, hstate⟩ := hi
            simp [hleaf, hin, hlocked, Leaf.unlocked, hstate]
          · next hi =>
            rw [hleaf]
            split
            · next hin =>
              exact if_neg fun hstate => hi ⟨hin.1, hin.2, hstate⟩
            · rfl
      · next hnot =>
        exact hrefused _ rfl (by simp [ownDoorRelease, hmayB, hnamed, hsome, hplatH, mt hplat.1 hnot])
  · next hnot =>
    have hmayB : (s.heard m.cab).doorsMayRelease = false := by
      rw [hmayH]
      exact eq_false_of_ne_true (mt (s.doorsMayRelease_iff).1 hnot)
    exact hrefused _ rfl (by simp [ownDoorRelease, hmayB])

/-! ## A side closed -/

/-- What a withdrawal makes of a leaf of a LOCKED side (R113). -/
def Leaf.withdrawn (l : Leaf) : Leaf := if l.state.withdraws then (l.entered .closing 0).settled .locked 10 else l

/-- What the second act of a close makes of a leaf of a LOCKED side (R113). -/
def Leaf.closedAgain (l : Leaf) : Leaf :=
  match l.state with
  | .closing => { l with timer := some closeLimit, reversals := 0 }
  | .reversing => (l.entered .closing 0).settled .locked 10
  | .fault => if l.locked then (l.entered .closedLocked l.reversals).settled .locked 10 else l
  | .closedLocked | .closedUnlocked | .opening | .opened | .obstructed | .isolated => l

/-- What a close makes of a leaf (R113). -/
def Leaf.closed (l : Leaf) : Leaf := if l.state.withdraws then l.withdrawn else l.closedAgain

/-- An act on one leaf of a LOCKED side: it takes what `f` makes of it. -/
def LeafActs (f : Leaf → Leaf) (i : LeafId) (s t : State) : Prop :=
  s.doors.side (leafSide i) = .locked → t.doors = s.doors.putLeaf i (f (s.doors.leaf i))

theorem State.withdrawLeaf_acts (i : LeafId) (s : State) : LeafActs Leaf.withdrawn i s (s.withdrawLeaf i) := by
  intro hside
  have henter := s.enterLeaf_doors i .closing 0
  rw [hside] at henter
  unfold State.withdrawLeaf Leaf.withdrawn
  split
  case h_1 hst | h_2 hst | h_3 hst | h_4 hst => simpa [hst, LeafState.withdraws] using henter
  case h_5 hst | h_6 hst | h_7 hst | h_8 hst | h_9 hst => simp [hst, LeafState.withdraws]

theorem State.closeLeafAgain_acts (i : LeafId) (s : State) : LeafActs Leaf.closedAgain i s (s.closeLeafAgain i) := by
  intro hside
  have hclosing := s.enterLeaf_doors i .closing 0
  have hlocked := s.enterLeaf_doors i .closedLocked (s.doors.leaf i).reversals
  rw [hside] at hclosing hlocked
  unfold State.closeLeafAgain Leaf.closedAgain
  dsimp only
  split
  case h_1 hst => simp [hst]
  case h_2 hst => simpa [hst] using hclosing
  case h_3 hst =>
    cases hl : (s.doors.leaf i).locked
    · simp [hst]
    · simpa [hst, hl] using hlocked
  case h_4 hst | h_5 hst | h_6 hst | h_7 hst | h_8 hst | h_9 hst => simp [hst]

theorem State.closeSide_eq (d : SideId) (s : State) : ∃ i j : LeafId, i ≠ j ∧ (∀ k, leafSide k = d ↔ k = i ∨ k = j) ∧
    s.closeSide d = [i, j].foldl (fun t i => if (s.doors.leaf i).state.withdraws then t else t.closeLeafAgain i)
      (((s.setSide d .locked).withdrawLeaf i).withdrawLeaf j) := by
  cases d
  · exact ⟨.a1, .a2, by decide, fun k => by cases k <;> decide, rfl⟩
  · exact ⟨.b1, .b2, by decide, fun k => by cases k <;> decide, rfl⟩

theorem State.setSide_locked_leaf (d : SideId) (s : State) (i : LeafId) :
    (s.setSide d .locked).doors.leaf i = s.doors.leaf i := by
  unfold State.setSide
  split
  · rfl
  · cases d <;> cases i <;> simp [Doors.putSide, Doors.leaf]

/-- A close locks its side and acts on its own leaves (R113). -/
theorem State.closeSide_doors (d : SideId) (s : State) :
    (∀ e, (s.closeSide d).doors.side e = if e = d then .locked else s.doors.side e) ∧
      ∀ k, (s.closeSide d).doors.leaf k = if leafSide k = d then (s.doors.leaf k).closed else s.doors.leaf k := by
  obtain ⟨i, j, hij, hsides, heq⟩ := s.closeSide_eq d
  have hi : leafSide i = d := (hsides i).2 (.inl rfl)
  have hj : leafSide j = d := (hsides j).2 (.inr rfl)
  obtain ⟨u, hu⟩ : ∃ u, u = s.setSide d .locked := ⟨_, rfl⟩
  have huside : u.doors.side d = .locked := by simp [hu]
  have huleaf : ∀ k, u.doors.leaf k = s.doors.leaf k := fun k => hu ▸ State.setSide_locked_leaf d s k
  have hagain : ∀ (k : LeafId) (t : State), leafSide k = d → t.doors.side d = .locked →
      (if (s.doors.leaf k).state.withdraws then t else t.closeLeafAgain k).doors =
        t.doors.putLeaf k (if (s.doors.leaf k).state.withdraws then t.doors.leaf k else (t.doors.leaf k).closedAgain) :=
    fun k t hk ht => by
      split
      · simp
      · exact State.closeLeafAgain_acts k t (by rw [hk, ht])
  have hdoors : (s.closeSide d).doors = (u.doors.putLeaf i (s.doors.leaf i).closed).putLeaf j (s.doors.leaf j).closed := by
    have hw1 := u.withdrawLeaf_acts i (by rw [hi, huside])
    have hw2 := (u.withdrawLeaf i).withdrawLeaf_acts j (by rw [hw1, hj]; simpa using huside)
    have hc1 := hagain i ((u.withdrawLeaf i).withdrawLeaf j) hi (by rw [hw2, hw1]; simpa using huside)
    have hc2 := hagain j _ hj (by rw [hc1, hw2, hw1]; simpa using huside)
    have hclosed : ∀ l : Leaf, (if l.state.withdraws then l.withdrawn else l.withdrawn.closedAgain) = l.closed := fun l => by
      unfold Leaf.closed
      split
      · rfl
      · next hno => rw [Leaf.withdrawn, if_neg hno]
    rw [heq, ← hu, List.foldl_cons, List.foldl_cons, List.foldl_nil, hc2, hc1, hw2, hw1]
    simp only [Doors.leaf_putLeaf_same, Doors.leaf_putLeaf_other _ _ (Ne.symm hij), Doors.leaf_putLeaf_other _ _ hij,
      huleaf, hclosed]
    cases i <;> cases j <;> rfl
  rw [hdoors]
  refine ⟨fun e => ?_, fun k => ?_⟩
  · simp only [Doors.putLeaf_side, hu]
    split
    · next he => simp [he]
    · next he => exact State.setSide_locked_side_other he s
  · by_cases hkj : k = j
    · subst hkj
      simp [hj]
    · by_cases hki : k = i
      · subst hki
        simp [hi, Doors.leaf_putLeaf_other _ _ hkj]
      · have hno : leafSide k ≠ d := fun he => ((hsides k).1 he).elim hki hkj
        rw [Doors.leaf_putLeaf_other _ _ hkj, Doors.leaf_putLeaf_other _ _ hki, huleaf, if_neg hno]

@[simp] theorem State.closeLeafAgain_frame (i : LeafId) (s : State) :
    (s.closeLeafAgain i).params = s.params ∧ (s.closeLeafAgain i).gates = s.gates ∧
      (s.closeLeafAgain i).token = s.token ∧ (s.closeLeafAgain i).refusal = s.refusal ∧
      (s.closeLeafAgain i).line = s.line ∧ (s.closeLeafAgain i).pos = s.pos ∧
      (s.closeLeafAgain i).contact = s.contact ∧ (s.closeLeafAgain i).sup = s.sup ∧
      (s.closeLeafAgain i).upper = s.upper ∧ (s.closeLeafAgain i).lower = s.lower ∧
      (s.closeLeafAgain i).rx = s.rx ∧ (s.closeLeafAgain i).lineCode = s.lineCode ∧
      (s.closeLeafAgain i).tx = s.tx ∧ (s.closeLeafAgain i).handler = s.handler ∧
      (s.closeLeafAgain i).reports = s.reports ∧ (s.closeLeafAgain i).mon = s.mon ∧
      (s.closeLeafAgain i).mode = s.mode ∧ (s.closeLeafAgain i).pending = s.pending := by
  unfold State.closeLeafAgain
  dsimp only
  split
  case h_3 => split <;> simp
  all_goals simp

@[simp] theorem State.closeSide_frame (d : SideId) (s : State) :
    (s.closeSide d).params = s.params ∧ (s.closeSide d).gates = s.gates ∧
      (s.closeSide d).token = s.token ∧ (s.closeSide d).refusal = s.refusal ∧
      (s.closeSide d).line = s.line ∧ (s.closeSide d).pos = s.pos ∧
      (s.closeSide d).contact = s.contact ∧ (s.closeSide d).sup = s.sup ∧
      (s.closeSide d).upper = s.upper ∧ (s.closeSide d).lower = s.lower ∧
      (s.closeSide d).rx = s.rx ∧ (s.closeSide d).lineCode = s.lineCode ∧
      (s.closeSide d).tx = s.tx ∧ (s.closeSide d).handler = s.handler ∧
      (s.closeSide d).reports = s.reports ∧ (s.closeSide d).mon = s.mon ∧
      (s.closeSide d).mode = s.mode ∧ (s.closeSide d).pending = s.pending := by
  obtain ⟨i, j, -, -, heq⟩ := s.closeSide_eq d
  rw [heq, List.foldl_cons, List.foldl_cons, List.foldl_nil]
  split <;> split <;> simp

/-- Sides closed one after another (R113). -/
theorem State.closeSides_doors (sides : List SideId) (hnodup : sides.Nodup) (s : State) :
    (∀ e, (sides.foldl (fun t d => t.closeSide d) s).doors.side e = if e ∈ sides then .locked else s.doors.side e) ∧
      ∀ k, (sides.foldl (fun t d => t.closeSide d) s).doors.leaf k =
        if leafSide k ∈ sides then (s.doors.leaf k).closed else s.doors.leaf k := by
  induction sides generalizing s with
  | nil => exact ⟨fun _ => by simp, fun _ => by simp⟩
  | cons d rest ih =>
    obtain ⟨hnot, hrest⟩ := List.nodup_cons.1 hnodup
    obtain ⟨hside, hleaf⟩ := s.closeSide_doors d
    obtain ⟨hsides, hleaves⟩ := ih hrest (s.closeSide d)
    refine ⟨fun e => ?_, fun k => ?_⟩
    · rw [List.foldl_cons, hsides, hside]
      by_cases he : e = d <;> by_cases her : e ∈ rest <;> simp [he, her]
    · rw [List.foldl_cons, hleaves, hleaf]
      by_cases hk : leafSide k = d
      · rw [hk]
        simp [hnot]
      · simp [hk]

theorem State.closeSides_frame (sides : List SideId) (s : State) :
    SameSetup s (sides.foldl (fun t d => t.closeSide d) s) ∧ SameRadio s (sides.foldl (fun t d => t.closeSide d) s) ∧
      SameHandler s (sides.foldl (fun t d => t.closeSide d) s) ∧
      (sides.foldl (fun t d => t.closeSide d) s).token = s.token ∧
      (sides.foldl (fun t d => t.closeSide d) s).refusal = s.refusal ∧
      (sides.foldl (fun t d => t.closeSide d) s).pos = s.pos ∧
      (sides.foldl (fun t d => t.closeSide d) s).line = s.line ∧
      (sides.foldl (fun t d => t.closeSide d) s).sup = s.sup ∧
      (sides.foldl (fun t d => t.closeSide d) s).contact = s.contact ∧
      (sides.foldl (fun t d => t.closeSide d) s).mode = s.mode ∧
      (sides.foldl (fun t d => t.closeSide d) s).upper = s.upper ∧
      (sides.foldl (fun t d => t.closeSide d) s).lower = s.lower := by
  induction sides generalizing s with
  | nil => simp [SameSetup, SameRadio, SameHandler]
  | cons d rest ih => simpa [SameSetup, SameRadio, SameHandler] using ih (s.closeSide d)

/-- A close of a leaf that reads neither locked nor obstructed (R113). -/
theorem Leaf.closed_unlocked {l : Leaf} (hlocked : l.locked = false) (hedge : l.edge = false) :
    (l.closed.state, l.closed.reversals) = closedBy l ∧ (l.closed.state = .closing → l.closed.timer = some 8000) := by
  cases hst : l.state <;>
    simp [Leaf.closed, Leaf.withdrawn, Leaf.closedAgain, Leaf.entered, Leaf.settled, Leaf.judged, closedBy, hst,
      LeafState.withdraws, leafTimer, hlocked, hedge, closeLimit]

/-- A close of a leaf in FAULT whose switch reads LOCKED (R113). -/
theorem Leaf.closed_fault {l : Leaf} (hlocked : l.locked = true) (hst : l.state = .fault) :
    l.closed.state = .closedLocked := by
  simp [Leaf.closed, Leaf.closedAgain, Leaf.entered, Leaf.settled, Leaf.judged, hst, LeafState.withdraws, hlocked]

theorem exec_doorsClose_taken {s : State} {m : ValleyMsg} (h : s.takes 38#8 m = true) :
    exec (.doorsClose m) s =
      .next (([SideId.a, .b].foldl (fun t d => t.closeSide d) s.heardOrder).orderAccepted m.order) :=
  congrArg Host.Outcome.next (State.valleyCommand_accepted h rfl)

/-- Settles O17: a close is the same act on every leaf of the sides named, whichever origin it comes from. -/
theorem doorCloseClosesTheNamedSides : Obligations.DoorCloseClosesTheNamedSides := by
  intro s
  refine ⟨fun m code rest sides h hp hsome => ?_, fun m code rest h hp hcode => ?_, fun m h => ?_⟩
  · have hown : ownDoorClose m.payload (s.heard m.cab) =
        acceptWith State.doorBody (sides.foldl (fun t d => t.closeSide d) (s.heard m.cab)) := by
      simp [ownDoorClose, sidesIn, hp, hsome]
    obtain ⟨hside, hleaf⟩ := State.closeSides_doors sides (sidesOf_nodup hsome) (s.heard m.cab)
    obtain ⟨hsetup, hradio, hhandler, htoken, hrefusal, hpos, hline, hsup, hcontact, hmode, hup, hlow⟩ :=
      State.closeSides_frame sides (s.heard m.cab)
    obtain ⟨t, ht⟩ : ∃ t, t = sides.foldl (fun t d => t.closeSide d) (s.heard m.cab) := ⟨_, rfl⟩
    rw [← ht] at hown hside hleaf hsetup hradio hhandler htoken hrefusal hpos hline hsup hcontact hmode hup hlow
    refine ⟨t.withPort m.cab (s.answered 14#8 m .ok t.doors.states), ?_, answers_of_ports s m hup hlow (by simp), ?_⟩
    · exact congrArg Host.Outcome.next (State.cabCommand_acceptedWith h hown
        ((State.port_congr hup hlow _).trans (State.heard_port_same m.cab s)))
    · simp only [State.heard_frame, SameSetup, SameRadio, SameHandler] at *
      simp only [State.withPort_frame]
      refine ⟨hside, fun i hi => ?_, fun i hi => ?_, hsetup, hradio, hhandler, htoken, hrefusal, hpos, hline, hsup,
        hcontact, hmode⟩
      · rw [hleaf, if_pos hi]
        exact ⟨Leaf.closed_unlocked, Leaf.closed_fault⟩
      · rw [hleaf, if_neg hi]
  · have hnone : sidesOf code.toNat = none := by
      unfold sidesOf
      split <;> first | omega | rfl
    refine congrArg Host.Outcome.next (State.cabCommand_refused (own := ownDoorClose m.payload) h ?_ rfl)
    simp [ownDoorClose, sidesIn, hp, hnone]
  · obtain ⟨hside, hleaf⟩ := State.closeSides_doors [.a, .b] (by decide) s.heardOrder
    obtain ⟨hsetup, hradio, hhandler, htoken, hrefusal, hpos, hline, hsup, hcontact, hmode, hup, hlow⟩ :=
      State.closeSides_frame [.a, .b] s.heardOrder
    refine ⟨_, exec_doorsClose_taken h, s.heardOrder_heard.congr hcontact hmode, ?_, ?_, fun i => ?_, ?_⟩
    · refine (Doors.sideReleased_eq_false_iff _).2 fun e => (hside e).trans (if_pos ?_)
      cases e <;> simp
    · simp only [State.orderAccepted_handler, hhandler.1, State.heardOrder_frame]
    · have hin : leafSide i ∈ [SideId.a, .b] := by cases i <;> simp [leafSide]
      have hclosed := (hleaf i).trans (if_pos hin)
      simp only [State.orderAccepted_frame]
      rw [hclosed]
      simp only [State.heardOrder_frame]
      exact ⟨fun hlocked hedge => (Leaf.closed_unlocked hlocked hedge).1, Leaf.closed_fault⟩
    · simp only [State.heardOrder_frame, SameSetup, SameRadio, SameHandler] at *
      simp only [State.orderAccepted_frame]
      obtain ⟨-, -, hmon⟩ := hhandler
      exact ⟨hsetup, hradio, htoken, hrefusal, hup, hlow, hpos, hline, hmon⟩

end Sys2Proof.Machine

/-! SUPPORT. The receive side: the line state code, the receive states, and the framer's events. -/

namespace Sys2Proof.Machine

/-! ## The line state code -/

@[simp] theorem State.setLineCode_lineCode (c : LineCode) (s : State) : (s.setLineCode c).lineCode = c := by
  unfold State.setLineCode
  dsimp only
  split <;> simp

/-- A code of the same value and condition is written and nothing else follows (R158). -/
theorem State.setLineCode_unchanged {c : LineCode} {s : State} (hv : c.value = s.lineCode.value)
    (hc : c.condition = s.lineCode.condition) : s.setLineCode c = s.withLineCode c := by
  simp [State.setLineCode, hv, hc]

theorem State.setLineCode_subdued (c : LineCode) (s : State) : Subdued s (s.setLineCode c) := by
  have hwith : Subdued s (s.withLineCode c) := .of_eq rfl (fun _ => rfl) rfl
  unfold State.setLineCode
  dsimp only
  split
  · exact hwith
  · exact hwith.trans ((State.flag_subdued _ _).trans ((State.setTerms_subdued _ _).trans (State.evaluate_subdued _)))

/-- A change of value or condition is flagged and forms the VALLEY term afresh (R85, R158). -/
theorem State.setLineCode_changed {c : LineCode} {s : State}
    (h : ¬ (s.lineCode.value = c.value ∧ s.lineCode.condition = c.condition)) :
    Flagged (s.setLineCode c) .lineCode ∧ ValleyTerm (s.setLineCode c) := by
  obtain ⟨u, hu⟩ : ∃ u, u = (s.withLineCode c).flag .lineCode := ⟨_, rfl⟩
  have hcode : s.setLineCode c = u.valleyTerm.evaluate := by rw [hu]; exact if_neg h
  obtain ⟨hterms, -⟩ := State.setTerms_effect { u.brk.terms with
    valley := if u.handler.stopService = true ∨ u.lineCode.effective = .stop then 100 else 0 } u
  rw [hcode]
  constructor
  · exact (State.evaluate_subdued _).flags _ ((hu ▸ flagged_flag _ _ : Flagged u .lineCode).setTerms _)
  · refine (State.evaluate_reacts _).valleyTerm ?_
    unfold ValleyTerm
    rw [State.valleyTerm, hterms]
    simp

theorem State.holdCode_subdued (s : State) : Subdued s s.holdCode := State.setLineCode_subdued _ s

/-- A departure from CHECKED holds a LIVE code (R158). -/
theorem State.holdCode_live {s : State} (h : s.lineCode.condition = .live) : s.holdCode.lineCode =
    { s.lineCode with candidate := none, run := 0, condition := .held, holdTimer := some s.params.degradeMs } := by
  simp [State.holdCode, h]

/-- An entry into CHECKED makes a HELD code LIVE (R158). -/
theorem State.resumeCode_held {s : State} (h : s.lineCode.condition = .held) :
    s.resumeCode.lineCode.condition = .live := by
  simp [State.resumeCode, h]

theorem State.resumeCode_subdued (s : State) : Subdued s s.resumeCode := by
  unfold State.resumeCode
  split
  · exact State.setLineCode_subdued _ s
  · exact .refl s

/-! ## The receive states -/

/-- A change of the receive state is flagged (R146). -/
theorem State.setRxState_flagged {x : RxState} {s : State} (h : s.rx.state ≠ x) : Flagged (s.setRxState x) .radio := by
  unfold State.setRxState
  rw [if_neg h]
  exact flagged_flag _ _

theorem State.toHunt_handler (n : Nat) (s : State) : (s.toHunt n).handler = { s.handler with buffer := [] } := by
  unfold State.toHunt
  dsimp only
  split <;> simp [State.discard, State.withBuffer]

/-- Alignment dropped is flagged (R146). -/
theorem State.toHunt_flagged {n : Nat} {s : State} (h : s.rx.state ≠ .hunt) : Flagged (s.toHunt n) .radio := by
  have hset : Flagged ((s.discard.withRx (s.rx.hunting n)).setRxState .hunt) .radio :=
    State.setRxState_flagged (by simpa [RadioRx.hunting] using h)
  unfold State.toHunt
  dsimp only
  split
  · exact (State.holdCode_subdued _).flags _ hset
  · exact hset

/-- Alignment dropped in CHECKED holds a LIVE code (R158). -/
theorem State.toHunt_lineCode {n : Nat} {s : State} (h : s.rx.state = .checked) (hlive : s.lineCode.condition = .live) :
    (s.toHunt n).lineCode =
      { s.lineCode with candidate := none, run := 0, condition := .held, holdTimer := some s.params.degradeMs } := by
  unfold State.toHunt
  dsimp only
  rw [if_pos h, State.holdCode_live (by simpa using hlive)]
  simp

@[simp] theorem State.toChecked_frame (s : State) :
    s.toChecked.params = s.params ∧ s.toChecked.gates = s.gates ∧ s.toChecked.token = s.token ∧
      s.toChecked.refusal = s.refusal ∧ s.toChecked.pos = s.pos ∧ s.toChecked.doors = s.doors ∧
      s.toChecked.upper = s.upper ∧ s.toChecked.lower = s.lower ∧ s.toChecked.tx = s.tx ∧
      s.toChecked.handler = s.handler ∧ s.toChecked.mon = s.mon ∧ s.toChecked.mode = s.mode ∧
      s.toChecked.pending = s.pending := by
  simp [State.toChecked]

@[simp] theorem State.acquire_frame (o : Octet) (s : State) :
    (s.acquire o).params = s.params ∧ (s.acquire o).gates = s.gates ∧ (s.acquire o).token = s.token ∧
      (s.acquire o).refusal = s.refusal ∧ (s.acquire o).pos = s.pos ∧ (s.acquire o).doors = s.doors ∧
      (s.acquire o).upper = s.upper ∧ (s.acquire o).lower = s.lower ∧ (s.acquire o).tx = s.tx ∧
      (s.acquire o).handler = s.handler ∧ (s.acquire o).mon = s.mon ∧ (s.acquire o).mode = s.mode ∧
      (s.acquire o).pending = s.pending := by
  unfold State.acquire
  split <;> simp

/-- A header that completes nothing moves the superframe candidate alone (R149). -/
theorem State.acquire_seeks {o : Octet} {s : State} (h : ¬ (markerOf o = true ∧ s.rx.superCand = some 7)) :
    s.acquire o =
      s.withRx { s.rx with superCand := candidateAfter s.rx.superCand (goodHeader o) (markerOf o) } :=
  if_neg fun hall => h hall.2

/-- A marker eight frames after the candidate's reaches CHECKED (R149). -/
theorem State.acquire_completes {o : Octet} {s : State} (hgood : goodHeader o = true) (hmarker : markerOf o = true)
    (hcand : s.rx.superCand = some 7) : s.acquire o = s.toChecked :=
  if_pos ⟨hgood, hmarker, hcand⟩

theorem State.toChecked_rx (s : State) : s.toChecked.rx = { s.rx with
    state := .checked, frameNo := some 0, offTimer := none, fallTimer := none, offHunt := false, superCand := none
    violated := false, violatedPrev := false, halfWhole := false, judged := 0, failed := 0 } := by
  simp [State.toChecked]

/-- CHECKED reached is flagged, and a HELD code is LIVE (R146, R158). -/
theorem State.toChecked_effect (s : State) : (s.rx.state ≠ .checked → Flagged s.toChecked .radio) ∧
    (s.lineCode.condition = .held → s.toChecked.lineCode.condition = .live) := by
  refine ⟨fun h => (State.resumeCode_subdued _).flags _ (State.setRxState_flagged h), fun h => ?_⟩
  exact State.resumeCode_held (by simpa using h)

/-! ## Candidates -/

theorem confirms_iff (a b : Octet) : confirms a b = true ↔ a.toNat / 4 = 26 ∧ b.toNat / 4 = 26 := by
  simp [confirms, goodHeader]

theorem goodHeader_iff (o : Octet) : goodHeader o = true ↔ o.toNat / 4 = 26 := by simp [goodHeader]

/-- A good header with no candidate before it (R149). -/
theorem State.acquire_first {o : Octet} {s : State} (hgood : goodHeader o = true) (hcand : s.rx.superCand = none) :
    s.acquire o = s.withRx { s.rx with superCand := if o.getLsbD 1 = true then some 0 else none } := by
  rw [State.acquire_seeks fun h => by simp [hcand] at h]
  simp [candidateAfter, hgood, hcand, markerOf]

/-- A candidate confirmed in HUNT (R147). -/
theorem State.confirm_effect {pos : Nat} {o : Octet} {s : State} (hstate : s.rx.state = .hunt) (hgood : goodHeader o = true) :
    (s.confirm pos o).rx = { s.rx with
        state := .frame, align := some (pos + 384), badHeaders := 0, offTimer := some 480, fallTimer := some 4000
        superCand := if o.getLsbD 1 = true then some 0 else none } ∧
      Flagged (s.confirm pos o) .radio ∧ (s.confirm pos o).mode = { s.mode with window := s.mode.window.map Window.moved } ∧
      SameSetup s (s.confirm pos o) ∧ SameHandler s (s.confirm pos o) ∧ (s.confirm pos o).lineCode = s.lineCode ∧
      (s.confirm pos o).tx = s.tx ∧ (s.confirm pos o).token = s.token ∧ (s.confirm pos o).refusal = s.refusal ∧
      (s.confirm pos o).upper = s.upper ∧ (s.confirm pos o).lower = s.lower ∧ (s.confirm pos o).line = s.line ∧
      (s.confirm pos o).pos = s.pos ∧ (s.confirm pos o).sup = s.sup ∧ (s.confirm pos o).contact = s.contact ∧
      (s.confirm pos o).brk = s.brk ∧ (s.confirm pos o).doors = s.doors := by
  obtain ⟨r, hr⟩ : ∃ r : RadioRx, r = { s.rx with
    align := some (pos + 384), badHeaders := 0, superCand := none, offTimer := some offlineTime
    fallTimer := some fallbackTime } := ⟨_, rfl⟩
  obtain ⟨u, hu⟩ : ∃ u, u = ((s.withRx r).setRxState .frame).windowMoves := ⟨_, rfl⟩
  have hconfirm : s.confirm pos o = u.acquire o := by rw [hu, hr]; rfl
  have hrx : u.rx = { r with state := .frame } := by simp [hu]
  have hflag : Flagged u .radio := by
    have hset : Flagged ((s.withRx r).setRxState .frame) .radio := State.setRxState_flagged (by simp [hr, hstate])
    exact hset.congr (by simp [hu])
  rw [hconfirm, State.acquire_first hgood (by simp [hrx, hr])]
  refine ⟨by simp [hrx, hr, offlineTime, fallbackTime], hflag, by simp [hu, State.windowMoves], ?_⟩
  simp [hu, SameSetup, SameHandler]

/-- A slip to an offline candidate (R151). -/
theorem State.slip_effect {pos : Nat} {o : Octet} {s : State} (hgood : goodHeader o = true) :
    (s.slip pos o).rx = { s.rx with
        align := some (pos + 384), badHeaders := 0, offTimer := some 480, offHunt := false
        superCand := if o.getLsbD 1 = true then some 0 else none } ∧
      (s.slip pos o).mon = { s.mon with live := { s.mon.live with slip := s.mon.live.slip.up 255 } } ∧
      (s.slip pos o).handler = { s.handler with buffer := [] } ∧ SameSetup s (s.slip pos o) ∧
      (s.slip pos o).reports = s.reports ∧ (s.slip pos o).flags = s.flags ∧ (s.slip pos o).lineCode = s.lineCode ∧
      (s.slip pos o).tx = s.tx ∧ (s.slip pos o).token = s.token ∧ (s.slip pos o).refusal = s.refusal ∧
      (s.slip pos o).upper = s.upper ∧ (s.slip pos o).lower = s.lower ∧ (s.slip pos o).line = s.line ∧
      (s.slip pos o).pos = s.pos ∧ (s.slip pos o).sup = s.sup ∧ (s.slip pos o).contact = s.contact ∧
      (s.slip pos o).brk = s.brk ∧ (s.slip pos o).doors = s.doors := by
  obtain ⟨r, hr⟩ : ∃ r : RadioRx, r = { s.rx with
    align := some (pos + 384), badHeaders := 0, superCand := none, offTimer := some offlineTime, offHunt := false } :=
    ⟨_, rfl⟩
  have hslip : s.slip pos o = ((((s.countEvent .slip).discard).withRx r).windowMoves).acquire o := by rw [hr]; rfl
  rw [hslip, State.acquire_first hgood (by simp [hr])]
  refine ⟨by simp [hr, offlineTime], ?_, ?_, ?_⟩
  · simp [State.countEvent, Counters.put, Counters.get, CounterId.top]
  · simp [State.discard, State.withBuffer]
  · simp [SameSetup]

/-- Settles O46: either search takes a candidate whose pattern stands at both tests, and an expiry acts on its own timer. -/
theorem alignmentIsSoughtAndFound : Obligations.AlignmentIsSoughtAndFound := by
  intro s pos at192 at384
  refine ⟨fun hstate hpower hsearch => ?_, fun a hstate hhunt hsearch halign hpos => ?_, fun n a htimer halign => ?_,
    fun n htimer => ?_⟩
  · have hexec : exec (.candidateTest pos at192 at384) s = .next (if confirms at192 at384 then s.confirm pos at384
        else s.withRx { s.rx with search := pos + 1 }) := congrArg Host.Outcome.next (if_pos ⟨hstate, hpower, hsearch⟩)
    split
    · next hgood =>
      rw [hexec, if_pos ((confirms_iff _ _).2 hgood)]
      exact ⟨_, rfl, State.confirm_effect hstate ((goodHeader_iff _).2 hgood.2)⟩
    · next hno => rw [hexec, if_neg (mt (confirms_iff _ _).1 hno)]
  · have hoffline : s.rx.offline pos = true := by simp [RadioRx.offline, hhunt, hsearch, halign, hpos]
    have hexec : exec (.offlineCandidateTest pos at192 at384) s = .next (if confirms at192 at384 then s.slip pos at384
        else s.withRx { s.rx with offSearch := pos + 1 }) := congrArg Host.Outcome.next (if_pos hoffline)
    split
    · next hgood =>
      rw [hexec, if_pos ((confirms_iff _ _).2 hgood)]
      exact ⟨_, rfl, State.slip_effect ((goodHeader_iff _).2 hgood.2)⟩
    · next hno => rw [hexec, if_neg (mt (confirms_iff _ _).1 hno)]
  · change execOfflineTimerExpiry s = _
    simp [execOfflineTimerExpiry, htimer, halign]
  · have hexec : exec .fallbackTimerExpiry s = .next (if s.rx.state = .frame then
        (s.withRx { s.rx with fallTimer := none }).setRxState .unchecked else s.withRx { s.rx with fallTimer := none }) := by
      change execFallbackTimerExpiry s = _
      simp only [execFallbackTimerExpiry, htimer] <;> rfl
    rw [hexec]
    split
    · next hstate =>
      have hne : (s.withRx { s.rx with fallTimer := none }).rx.state ≠ .unchecked := by simp [hstate]
      refine ⟨_, rfl, ?_, State.setRxState_flagged hne, by simp [State.valleyRank]⟩
      rw [State.setRxState, if_neg hne]
      rfl
    · rfl

/-! ## Headers -/

/-- A live counter after an event, the others as they were (R177). -/
theorem State.countEvent_get (i j : CounterId) (s : State) : (s.countEvent i).mon.live.get j =
    if j = i then (s.mon.live.get i).up i.top else s.mon.live.get j := by
  cases i <;> cases j <;> rfl

/-- A header that is not good moves the candidate away in FRAME and UNCHECKED, and the frame number on in CHECKED (R149,
R152). -/
theorem State.superframe_bad {o : Octet} {s : State} (hbad : goodHeader o = false) :
    s.superframe o = s.withRx (match s.rx.state with
      | .hunt => s.rx
      | .frame | .unchecked => { s.rx with superCand := none }
      | .checked => s.rx.nextFrame) := by
  unfold State.superframe
  cases hst : s.rx.state
  · rfl
  · simp [State.acquire, hbad, candidateAfter]
  · simp [State.acquire, hbad, candidateAfter]
  · simp [hbad]

theorem RadioRx.nextFrame_effect (r : RadioRx) : r.nextFrame.state = r.state ∧ r.nextFrame.align = r.align ∧
    r.nextFrame.badHeaders = r.badHeaders ∧ r.nextFrame.superCand = r.superCand ∧
      r.nextFrame.frameNo = r.frameNo.map fun f => (f + 1) % 8 := by
  unfold RadioRx.nextFrame
  split
  · next h => simp [h]
  · next f h =>
    dsimp only
    split <;> simp [h]

theorem exec_headerReceived_bad {s : State} {o : Octet} {a : Nat} (hbad : goodHeader o = false)
    (halign : s.rx.align = some a) : exec (.headerReceived o) s =
      .next (((s.withRx { s.rx with align := some (a + 192) }).badHeader (a + 192)).superframe o) := by
  change execHeaderReceived o s = _
  simp only [execHeaderReceived, halign, hbad] <;> rfl

theorem exec_headerReceived_good {s : State} {o : Octet} {a : Nat} (hgood : goodHeader o = true)
    (halign : s.rx.align = some a) : exec (.headerReceived o) s =
      .next (((s.withRx { s.rx with align := some (a + 192), badHeaders := 0 }).windowMoves).superframe o) := by
  change execHeaderReceived o s = _
  simp only [execHeaderReceived, halign, hgood] <;> rfl

/-- A bad header at the first or second place in a row (R146). -/
theorem State.badHeader_counted {pos : Nat} {s : State} (h : s.rx.badHeaders < 2) :
    s.badHeader pos = (s.countEvent .syncErr).withRx { s.rx with badHeaders := s.rx.badHeaders + 1 } := by
  have hno : ¬ 3 ≤ s.rx.badHeaders + 1 := by omega
  have hrx : (s.countEvent .syncErr).rx = s.rx := by simp
  unfold State.badHeader
  dsimp only
  rw [if_neg (by simpa using hno), hrx]

/-- The third bad header in a row: a frame loss (R148). -/
theorem State.badHeader_lost {pos : Nat} {s : State} (h : 2 ≤ s.rx.badHeaders) : s.badHeader pos =
    ((((s.countEvent .syncErr).withRx { s.rx with badHeaders := s.rx.badHeaders + 1 }).countEvent .loss).toHunt
      (pos + 8)) := by
  have hyes : 3 ≤ s.rx.badHeaders + 1 := by omega
  have hrx : (s.countEvent .syncErr).rx = s.rx := by simp
  unfold State.badHeader
  dsimp only
  rw [if_pos (by simpa using hyes), hrx]

/-- Settles O47: a bad header below the third is counted and moves the superframe state on; the third drops the alignment,
and the header finds HUNT. -/
theorem thirdBadHeaderIsAFrameLoss : Obligations.ThirdBadHeaderIsAFrameLoss := by
  intro s o a ho halign hstate
  have hbad : goodHeader o = false := by simpa [goodHeader] using ho
  obtain ⟨u, hu⟩ : ∃ u, u = s.withRx { s.rx with align := some (a + 192) } := ⟨_, rfl⟩
  have hexec := exec_headerReceived_bad hbad halign
  rw [← hu] at hexec
  have hsync : s.mon.live.syncErr.up 65535 = (if s.mon.live.syncErr.value < 65535 then
      { s.mon.live.syncErr with value := s.mon.live.syncErr.value + 1 }
      else { s.mon.live.syncErr with overflowed := true }) := rfl
  have hmonu : u.mon = s.mon := by simp [hu]
  by_cases hcount : s.rx.badHeaders < 2
  · obtain ⟨v, hv⟩ : ∃ v, v = u.badHeader (a + 192) := ⟨_, rfl⟩
    have hvE : v = (u.countEvent .syncErr).withRx { u.rx with badHeaders := u.rx.badHeaders + 1 } :=
      hv.trans (State.badHeader_counted (by simpa [hu] using hcount))
    have hvrx : v.rx = { s.rx with align := some (a + 192), badHeaders := s.rx.badHeaders + 1 } := by simp [hvE, hu]
    have hvmon : v.mon = (u.countEvent .syncErr).mon := by simp [hvE]
    rw [← hv, State.superframe_bad hbad] at hexec
    obtain ⟨hst, hal, hbh, hsc, hfn⟩ := v.rx.nextFrame_effect
    refine ⟨_, hexec, ?_, fun _ => ?_, fun h2 => absurd hcount (by omega), ?_⟩
    · have hget := u.countEvent_get .syncErr .syncErr
      simp only [if_pos, Counters.get, CounterId.top, hmonu] at hget
      simp only [State.withRx_mon, hvmon, hget, hsync]
    · have hvst : v.rx.state = s.rx.state := by simp [hvrx]
      have hkept : v.handler = s.handler ∧ v.lineCode = s.lineCode ∧ v.flags = s.flags := by simp [hvE, hu]
      simp only [State.withRx_rx, State.withRx_handler, State.withRx_lineCode, State.withRx_flags, hkept, hvst, and_true]
      cases hs : s.rx.state
      · exact absurd hs hstate
      · simp [hvrx, hs]
      · simp [hvrx, hs]
      · simp only [hst, hal, hbh, hsc, hfn]
        simp [hvrx, hs]
    · simp [hvE, hu, SameSetup]
  · obtain ⟨w, hw⟩ : ∃ w, w = ((u.countEvent .syncErr).withRx { u.rx with badHeaders := u.rx.badHeaders + 1 }).countEvent
        .loss := ⟨_, rfl⟩
    have hlost : u.badHeader (a + 192) = w.toHunt (a + 200) :=
      (State.badHeader_lost (by simp [hu]; omega)).trans (by rw [hw])
    have hwrx : w.rx = { s.rx with align := some (a + 192), badHeaders := s.rx.badHeaders + 1 } := by simp [hw, hu]
    have hhunt : (w.toHunt (a + 200)).rx = { w.rx.hunting (a + 200) with state := .hunt } := State.toHunt_rx ..
    have hnone : (w.toHunt (a + 200)).superframe o = w.toHunt (a + 200) := by
      rw [State.superframe_bad hbad, hhunt]
      simp only [← hhunt]
      rfl
    have hmonw : ∀ j, w.mon.live.get j = if j = .loss then (s.mon.live.get .loss).up 255
        else if j = .syncErr then (s.mon.live.get .syncErr).up 65535 else s.mon.live.get j := fun j => by
      rw [hw, State.countEvent_get, State.withRx_mon, State.countEvent_get, State.countEvent_get, hmonu]
      cases j <;> rfl
    have hmonh : (w.toHunt (a + 200)).mon = w.mon := by simp
    rw [hlost, hnone] at hexec
    refine ⟨_, hexec, ?_, fun h2 => absurd h2 hcount, fun _ => ?_, ?_⟩
    · exact hmonh ▸ hmonw .syncErr
    · refine ⟨by simp [hhunt], by simp [hhunt, RadioRx.hunting], by simp [hhunt, RadioRx.hunting],
        by simp [hhunt, RadioRx.hunting], by simp [hhunt, RadioRx.hunting], by simp [hhunt, RadioRx.hunting],
        by simp [hhunt, RadioRx.hunting], by simp [hhunt, RadioRx.hunting], by simp [hhunt, RadioRx.hunting],
        by simp [hhunt, RadioRx.hunting], ?_, ?_, ?_, fun hchecked hlive => ?_⟩
      · exact hmonh ▸ hmonw .loss
      · simp [State.toHunt_handler, hw, hu]
      · exact State.toHunt_flagged (by simpa [hwrx] using hstate)
      · rw [State.toHunt_lineCode (by simpa [hwrx] using hchecked) (by simpa [hw, hu] using hlive)]
        simp [hw, hu, Params.degradeMs]
    · simp [hw, hu, SameSetup]

/-! ## Good headers -/

/-- Superframe alignment lost: FRAME with both timers afresh, the header a first candidate, the code held (R152, R158). -/
theorem State.superframeLoss_effect {o : Octet} {s : State} (hgood : goodHeader o = true) :
    (s.superframeLoss o).rx = { s.rx with
        state := .frame, frameNo := none, violated := false, violatedPrev := false, halfWhole := false, judged := 0
        failed := 0, offTimer := some 480, fallTimer := some 4000
        superCand := if o.getLsbD 1 = true then some 0 else none } ∧
      (s.rx.state ≠ .frame → Flagged (s.superframeLoss o) .radio) ∧
      (s.lineCode.condition = .live → (s.superframeLoss o).lineCode.condition = .held) := by
  obtain ⟨r, hr⟩ : ∃ r : RadioRx, r = { s.rx with
    frameNo := none, superCand := none, violated := false, violatedPrev := false, halfWhole := false, judged := 0
    failed := 0, offTimer := some offlineTime, fallTimer := some fallbackTime } := ⟨_, rfl⟩
  obtain ⟨u, hu⟩ : ∃ u, u = ((s.withRx r).setRxState .frame).holdCode := ⟨_, rfl⟩
  have hloss : s.superframeLoss o = u.acquire o := by rw [hu, hr]; rfl
  have hrx : u.rx = { r with state := .frame } := by simp [hu]
  rw [hloss, State.acquire_first hgood (by simp [hrx, hr])]
  refine ⟨by simp [hrx, hr, offlineTime, fallbackTime], fun hne => ?_, fun hlive => ?_⟩
  · have hset : Flagged ((s.withRx r).setRxState .frame) .radio := State.setRxState_flagged (by simpa [hr] using hne)
    exact hu ▸ (State.holdCode_subdued _).flags _ hset
  · rw [State.withRx_lineCode, hu, State.holdCode_live (by simpa using hlive)]

@[simp] theorem State.superframeLoss_frame (o : Octet) (s : State) :
    (s.superframeLoss o).params = s.params ∧ (s.superframeLoss o).gates = s.gates ∧
      (s.superframeLoss o).token = s.token ∧ (s.superframeLoss o).refusal = s.refusal ∧
      (s.superframeLoss o).pos = s.pos ∧ (s.superframeLoss o).doors = s.doors ∧
      (s.superframeLoss o).upper = s.upper ∧ (s.superframeLoss o).lower = s.lower ∧
      (s.superframeLoss o).tx = s.tx ∧ (s.superframeLoss o).handler = s.handler ∧
      (s.superframeLoss o).mon = s.mon ∧ (s.superframeLoss o).mode = s.mode ∧
      (s.superframeLoss o).pending = s.pending := by
  simp [State.superframeLoss]

@[simp] theorem State.superframe_frame (o : Octet) (s : State) :
    (s.superframe o).params = s.params ∧ (s.superframe o).gates = s.gates ∧ (s.superframe o).token = s.token ∧
      (s.superframe o).refusal = s.refusal ∧ (s.superframe o).pos = s.pos ∧ (s.superframe o).doors = s.doors ∧
      (s.superframe o).upper = s.upper ∧ (s.superframe o).lower = s.lower ∧ (s.superframe o).tx = s.tx ∧
      (s.superframe o).handler = s.handler ∧ (s.superframe o).mon = s.mon ∧ (s.superframe o).mode = s.mode ∧
      (s.superframe o).pending = s.pending := by
  unfold State.superframe
  split
  · simp
  · simp
  · simp
  · dsimp only
    split
    · unfold State.judgeMarker
      split
      · simp
      · split <;> simp
    · simp

/-- The marker of a good header in CHECKED: where it belongs, missed for the first time, or missed again (R152). -/
theorem State.superframe_checked {o : Octet} {s : State} (hgood : goodHeader o = true) (hst : s.rx.state = .checked) :
    s.superframe o = (if markerOf o = decide (s.rx.nextFrame.frameNo = some 0) then s.withRx s.rx.nextFrame
      else if s.rx.nextFrame.violatedPrev then (s.withRx s.rx.nextFrame).superframeLoss o
      else s.withRx { s.rx.nextFrame with violated := true }) := by
  simp only [State.superframe, hst, hgood, if_true, State.judgeMarker, State.withRx_rx]
  rfl

theorem State.superframe_seeks {o : Octet} {s : State} (hst : s.rx.state = .frame ∨ s.rx.state = .unchecked) :
    s.superframe o = s.acquire o := by
  unfold State.superframe
  rcases hst with hst | hst <;> simp [hst]

/-- No header moves the alignment or the count of bad headers by what it does to the superframe. -/
theorem State.superframe_align {o : Octet} {s : State} (hgood : goodHeader o = true) :
    (s.superframe o).rx.align = s.rx.align ∧ (s.superframe o).rx.badHeaders = s.rx.badHeaders := by
  have hacquire : (s.acquire o).rx.align = s.rx.align ∧ (s.acquire o).rx.badHeaders = s.rx.badHeaders := by
    unfold State.acquire
    split
    · simp [State.toChecked_rx]
    · simp
  cases hst : s.rx.state
  · simp [State.superframe, hst]
  · rwa [State.superframe_seeks (.inl hst)]
  · rwa [State.superframe_seeks (.inr hst)]
  · obtain ⟨-, hal, hbh, -⟩ := s.rx.nextFrame_effect
    rw [State.superframe_checked hgood hst]
    split
    · exact ⟨hal, hbh⟩
    · split
      · obtain ⟨hrx, -⟩ := State.superframeLoss_effect (s := s.withRx s.rx.nextFrame) hgood
        rw [hrx]
        exact ⟨hal, hbh⟩
      · exact ⟨hal, hbh⟩

/-- The violation marks after the frame number has moved on (R152). -/
theorem RadioRx.nextFrame_violated {r : RadioRx} {f : Nat} (h : r.frameNo = some f) :
    r.nextFrame.violatedPrev = (if (f + 1) % 8 = 0 then r.violated else r.violatedPrev) ∧
      r.nextFrame.frameNo = some ((f + 1) % 8) := by
  simp only [RadioRx.nextFrame, h]
  split <;> simp

/-- A good header in FRAME and UNCHECKED (R149). -/
theorem State.acquire_good {o : Octet} {s : State} (hgood : goodHeader o = true)
    (hst : s.rx.state = .frame ∨ s.rx.state = .unchecked) :
    (o.getLsbD 1 = true → s.rx.superCand = some 7 →
        (s.acquire o).rx.state = .checked ∧ (s.acquire o).rx.frameNo = some 0 ∧ (s.acquire o).rx.offTimer = none ∧
        (s.acquire o).rx.fallTimer = none ∧ (s.acquire o).rx.offHunt = false ∧ (s.acquire o).rx.judged = 0 ∧
        (s.acquire o).rx.failed = 0 ∧ (s.acquire o).rx.halfWhole = false ∧ (s.acquire o).valleyRank = 3 ∧
        Flagged (s.acquire o) .radio ∧ (s.lineCode.condition = .held → (s.acquire o).lineCode.condition = .live)) ∧
      (o.getLsbD 1 = true → s.rx.superCand ≠ some 7 →
        (s.acquire o).rx.state = s.rx.state ∧ (s.acquire o).rx.superCand = some 0 ∧
        (s.acquire o).lineCode = s.lineCode) ∧
      (o.getLsbD 1 = false →
        (s.acquire o).rx.state = s.rx.state ∧ (s.acquire o).lineCode = s.lineCode ∧
        (s.acquire o).rx.superCand = (match s.rx.superCand with
          | some n => if n < 7 then some (n + 1) else none
          | none => none)) := by
  refine ⟨fun hmark hcand => ?_, fun hmark hcand => ?_, fun hmark => ?_⟩
  · have hne : s.rx.state ≠ .checked := by rcases hst with hst | hst <;> simp [hst]
    obtain ⟨hflag, hcode⟩ := s.toChecked_effect
    rw [State.acquire_completes hgood hmark hcand]
    simpa [State.toChecked_rx, State.valleyRank] using ⟨hflag hne, hcode⟩
  · rw [State.acquire_seeks fun h => hcand h.2]
    simp [candidateAfter, hgood, markerOf, hmark]
  · rw [State.acquire_seeks fun h => Bool.false_ne_true (hmark.symm.trans h.1)]
    refine ⟨rfl, rfl, ?_⟩
    simp only [State.withRx_rx, candidateAfter, hgood, markerOf, hmark]
    rfl

/-- Settles O48: a good header either seeks the superframe or is judged in it. -/
theorem goodHeadersSeekAndKeepTheSuperframe : Obligations.GoodHeadersSeekAndKeepTheSuperframe := by
  intro s o a ho halign
  have hgood := (goodHeader_iff o).2 ho
  obtain ⟨u, hu⟩ : ∃ u, u = (s.withRx { s.rx with align := some (a + 192), badHeaders := 0 }).windowMoves := ⟨_, rfl⟩
  have hexec := exec_headerReceived_good hgood halign
  rw [← hu] at hexec
  have hrx : u.rx = { s.rx with align := some (a + 192), badHeaders := 0 } := by simp [hu]
  have hcode : u.lineCode = s.lineCode := by simp [hu]
  obtain ⟨hal, hbh⟩ := State.superframe_align (s := u) hgood
  refine ⟨_, hexec, by rw [hal, hrx], by rw [hbh, hrx], by simp [hu], by simp [hu], by simp [hu, State.windowMoves],
    fun hst => ?_, fun f hst hf => ⟨fun hmark => ?_, fun hmark => ?_⟩, by simp [hu, SameSetup]⟩
  · have hstu : u.rx.state = .frame ∨ u.rx.state = .unchecked := by rw [hrx]; exact hst
    have heffect := State.acquire_good hgood hstu
    rw [State.superframe_seeks hstu]
    rw [hcode] at heffect
    simp only [hrx] at heffect
    exact heffect
  · have hstu : u.rx.state = .checked := by rw [hrx]; exact hst
    obtain ⟨-, hfn⟩ := RadioRx.nextFrame_violated (r := u.rx) (f := f) (by rw [hrx]; exact hf)
    obtain ⟨hstate, -⟩ := u.rx.nextFrame_effect
    have hwhere : markerOf o = decide (u.rx.nextFrame.frameNo = some 0) := by rw [hfn]; simpa [markerOf] using hmark
    rw [State.superframe_checked hgood hstu, if_pos hwhere]
    exact ⟨hstate.trans hstu, hfn, hcode⟩
  · have hstu : u.rx.state = .checked := by rw [hrx]; exact hst
    obtain ⟨hviolated, hfn⟩ := RadioRx.nextFrame_violated (r := u.rx) (f := f) (by rw [hrx]; exact hf)
    obtain ⟨hstate, -⟩ := u.rx.nextFrame_effect
    have hwhere : ¬ markerOf o = decide (u.rx.nextFrame.frameNo = some 0) := by rw [hfn]; simpa [markerOf] using hmark
    have hprev : u.rx.nextFrame.violatedPrev = (if (f + 1) % 8 = 0 then s.rx.violated else s.rx.violatedPrev) := by
      rw [hviolated, hrx]
    rw [State.superframe_checked hgood hstu, if_neg hwhere, ← hprev]
    split
    · obtain ⟨hloss, hflag, hheld⟩ := State.superframeLoss_effect (s := u.withRx u.rx.nextFrame) hgood
      rw [hloss]
      refine ⟨rfl, rfl, rfl, rfl, rfl, hflag ?_, fun hlive => hheld ?_⟩
      · simp [hstate, hstu]
      · rw [State.withRx_lineCode, hcode, hlive]
    · exact ⟨hstate.trans hstu, hfn, rfl, hcode⟩

end Sys2Proof.Machine

/-! SUPPORT. The overhead octet: the checks of the halves, the far-end reports and the line code. -/

namespace Sys2Proof.Machine

/-! ## Check octets -/

theorem RadioRx.inFrame_iff (r : RadioRx) (a b : Nat) :
    r.inFrame a b = true ↔ r.frameNo = some a ∨ r.frameNo = some b := by
  simp [RadioRx.inFrame]

theorem exec_checkOctetReceived {s : State} {half : List Octet} {check : Octet} (hstate : s.rx.state = .checked)
    (hframe : s.rx.frameNo = some 0 ∨ s.rx.frameNo = some 4) (hwhole : s.rx.halfWhole = true) :
    exec (.checkOctetReceived half check) s = .next (if crc8 (half.set 23 0#8) = check then
        (s.withRx { s.rx with halfWhole := false }).judgeWindow false (s.rx.align.getD 0)
      else (s.withRx { s.rx with halfWhole := false }).halfFailed.judgeWindow true (s.rx.align.getD 0)) :=
  congrArg Host.Outcome.next (if_pos ⟨hstate, (RadioRx.inFrame_iff ..).2 hframe, hwhole⟩)

/-- A half that agrees takes its place in the window (R154). -/
theorem State.judgeWindow_agrees {pos : Nat} {s : State} (hjudged : s.rx.judged < 16) (hfailed : s.rx.failed < 8) :
    s.judgeWindow false pos = s.withRx { s.rx with
      judged := if s.rx.judged = 15 then 0 else s.rx.judged + 1
      failed := if s.rx.judged = 15 then 0 else s.rx.failed } := by
  have hno : ¬ 8 ≤ s.rx.failed := by omega
  unfold State.judgeWindow
  by_cases hlast : s.rx.judged = 15
  · simp [hno, hlast]
  · have hmore : ¬ 16 ≤ s.rx.judged + 1 := by omega
    simp [hno, hlast, hmore]

/-- A failure below the eighth takes its place in the window (R154). -/
theorem State.judgeWindow_fails {pos : Nat} {s : State} (hjudged : s.rx.judged < 16) (hfailed : s.rx.failed < 7) :
    s.judgeWindow true pos = s.withRx { s.rx with
      judged := if s.rx.judged = 15 then 0 else s.rx.judged + 1
      failed := if s.rx.judged = 15 then 0 else s.rx.failed + 1 } := by
  have hno : ¬ 8 ≤ s.rx.failed + 1 := by omega
  unfold State.judgeWindow
  by_cases hlast : s.rx.judged = 15
  · simp [hno, hlast]
  · have hmore : ¬ 16 ≤ s.rx.judged + 1 := by omega
    simp [hno, hlast, hmore]

/-- The eighth failure of a window is a loss (R154). -/
theorem State.judgeWindow_excessive {pos : Nat} {s : State} (h : s.rx.failed = 7) :
    s.judgeWindow true pos = (s.countEvent .loss).toHunt (pos + 192) := by
  simp [State.judgeWindow, h]

/-- A half that fails leaves the far-end mark and CHECK_FAIL (R153, R155). -/
theorem State.halfFailed_effect (s : State) : s.halfFailed.rx = { s.rx with farPending := true } ∧
    s.halfFailed.mon = { s.mon with live := { s.mon.live with checkFail := s.mon.live.checkFail.up 1023 } } := by
  simp [State.halfFailed, State.countEvent, Counters.put, Counters.get, CounterId.top]

@[simp] theorem State.halfFailed_frame (s : State) : s.halfFailed.params = s.params ∧ s.halfFailed.gates = s.gates ∧
    s.halfFailed.token = s.token ∧ s.halfFailed.refusal = s.refusal ∧ s.halfFailed.pos = s.pos ∧
      s.halfFailed.doors = s.doors ∧ s.halfFailed.upper = s.upper ∧ s.halfFailed.lower = s.lower ∧
      s.halfFailed.tx = s.tx ∧ s.halfFailed.handler = s.handler ∧ s.halfFailed.mode = s.mode ∧
      s.halfFailed.pending = s.pending := by
  simp [State.halfFailed]

/-- Settles O49: a half's check decides its place in the window of sixteen, and the eighth failure drops the alignment. -/
theorem halvesAreJudgedByTheirCheck : Obligations.HalvesAreJudgedByTheirCheck := by
  intro s half check hstate
  refine ⟨fun hframe hwhole hjudged hfailed => ?_, fun hframe => ?_⟩
  · have hexec := exec_checkOctetReceived (half := half) (check := check) hstate hframe hwhole
    obtain ⟨u, hu⟩ : ∃ u, u = s.withRx { s.rx with halfWhole := false } := ⟨_, rfl⟩
    have hrx : u.rx = { s.rx with halfWhole := false } := by simp [hu]
    rw [← hu] at hexec
    by_cases hagrees : crc8 (half.set 23 0#8) = check
    · rw [if_pos hagrees, State.judgeWindow_agrees (by simpa [hrx] using hjudged) (by simpa [hrx] using hfailed)] at hexec
      refine ⟨_, hexec, fun _ => by simp only [hu]; rfl, fun hno => absurd hagrees hno, ?_⟩
      simp [hu, SameSetup]
    · obtain ⟨hrxF, hmonF⟩ := u.halfFailed_effect
      rw [if_neg hagrees] at hexec
      have hmonu : u.mon = s.mon := by simp [hu]
      by_cases heighth : s.rx.failed = 7
      · rw [State.judgeWindow_excessive (by simpa [hrxF, hrx] using heighth)] at hexec
        obtain ⟨w, hw⟩ : ∃ w, w = u.halfFailed.countEvent .loss := ⟨_, rfl⟩
        rw [← hw] at hexec
        have hwrx : w.rx = { s.rx with halfWhole := false, farPending := true } := by simp [hw, hrxF, hrx]
        have hhunt : (w.toHunt (s.rx.align.getD 0 + 192)).rx =
            { w.rx.hunting (s.rx.align.getD 0 + 192) with state := .hunt } := State.toHunt_rx ..
        have hmon : (w.toHunt (s.rx.align.getD 0 + 192)).mon = (u.halfFailed.countEvent .loss).mon := by simp [hw]
        refine ⟨_, hexec, fun hno => absurd hno hagrees, fun _ => ⟨?_, ?_, ?_⟩, ?_⟩
        · rw [hmon, ← hmonu]
          exact (State.countEvent_get .loss .checkFail u.halfFailed).trans (by rw [hmonF]; rfl)
        · simp [hhunt, RadioRx.hunting, hwrx]
        · rw [if_pos heighth]
          refine ⟨by simp [hhunt], by simp [hhunt, RadioRx.hunting], ?_, ?_, by simp [State.valleyRank, hhunt],
            State.toHunt_flagged (by simp [hwrx, hstate])⟩
          · rw [hmon, ← hmonu]
            exact (State.countEvent_get .loss .loss u.halfFailed).trans (by rw [hmonF]; rfl)
          · simp [State.toHunt_handler, hw, hu]
        · simp [hw, hu, SameSetup]
      · have hfew : s.rx.failed < 7 := by omega
        rw [State.judgeWindow_fails (by simpa [hrxF, hrx] using hjudged) (by simpa [hrxF, hrx] using hfew)] at hexec
        refine ⟨_, hexec, fun hno => absurd hno hagrees, fun _ => ⟨?_, ?_, ?_⟩, ?_⟩
        · rw [State.withRx_mon, hmonF, hmonu]
          rfl
        · simp [hrxF]
        · rw [if_neg heighth]
          refine ⟨by simp only [State.withRx_rx, hrxF, hrx], ?_⟩
          rw [State.withRx_mon, hmonF, hmonu]
        · simp [hu, SameSetup]
  · have hplace : s.rx.inFrame 1 5 = true := (RadioRx.inFrame_iff ..).2 hframe
    refine congrArg Host.Outcome.next ?_
    by_cases hbit : check.getLsbD 7 = true
    · rw [if_pos hbit]
      exact if_pos ⟨hstate, hplace, hbit⟩
    · rw [if_neg hbit]
      exact if_neg fun h => hbit h.2.2

/-! ## The line code -/

theorem exec_codeOctet {s : State} {o : Octet} (hstate : s.rx.state = .checked)
    (hframe : s.rx.frameNo = some 2 ∨ s.rx.frameNo = some 6) :
    exec (.codeOctet o) s = .next (s.takeCode (o.toNat % 16)) :=
  congrArg Host.Outcome.next (if_pos ⟨hstate, (RadioRx.inFrame_iff ..).2 hframe⟩)

/-- The debounce record after a value (R157). -/
theorem LineCode.debounced_effect (c : LineCode) (v : Nat) : (c.debounced v).candidate = some v ∧
    (c.debounced v).run = (if c.candidate = some v then min 3 (c.run + 1) else 1) ∧
      (c.debounced v).value = c.value ∧ (c.debounced v).condition = c.condition := by
  unfold LineCode.debounced
  split
  · next h => exact ⟨h, rfl, rfl, rfl⟩
  · exact ⟨rfl, rfl, rfl, rfl⟩

/-- The code after a value: at a run of three it is the candidate's value, LIVE (R157). -/
theorem State.takeCode_lineCode (v : Nat) (s : State) :
    (s.takeCode v).lineCode.candidate = some v ∧ (s.takeCode v).lineCode.run = (s.lineCode.debounced v).run ∧
      ((s.lineCode.debounced v).run = 3 →
        (s.takeCode v).lineCode.value = some v ∧ (s.takeCode v).lineCode.condition = .live) ∧
      ((s.lineCode.debounced v).run ≠ 3 →
        s.takeCode v = s.withLineCode (s.lineCode.debounced v)) := by
  obtain ⟨hcand, -, hvalue, hcond⟩ := s.lineCode.debounced_effect v
  unfold State.takeCode
  dsimp only
  by_cases htakes : (s.lineCode.debounced v).takes = true
  · have hrun : (s.lineCode.debounced v).run = 3 := by
      simp only [LineCode.takes, Bool.and_eq_true, decide_eq_true_eq] at htakes
      exact htakes.1
    simp [htakes, hcand, hrun]
  · have hnot : (s.lineCode.debounced v).run = 3 →
        (s.lineCode.debounced v).condition = .live ∧ (s.lineCode.debounced v).value = some v := fun h => by
      simpa [LineCode.takes, h, hcand] using htakes
    simp only [if_neg htakes, State.setLineCode_lineCode]
    exact ⟨hcand, trivial, fun h => (hnot h).symm, fun _ => State.setLineCode_unchanged hvalue hcond⟩

/-- A LIVE code is STOP exactly where its value is 5 (R156, R158). -/
theorem LineCode.effective_stop {c : LineCode} {v : Nat} (hvalue : c.value = some v) (hcond : c.condition = .live) :
    c.effective = .stop ↔ v = 5 := by
  simp only [LineCode.effective, hcond, hvalue]
  by_cases h5 : v = 5
  · simp [h5]
  · by_cases h0 : v = 0 <;> simp [h0, h5]

/-- Settles O50: three equal values take the code, a change of it forms the VALLEY term, and a HELD code expires. -/
theorem lineCodeIsDebouncedAndHeld : Obligations.LineCodeIsDebouncedAndHeld := by
  refine fun s => ⟨fun o hstate hframe => ?_, fun n htimer hheld => ?_⟩
  · obtain ⟨hcand, hrun, htaken, hkept⟩ := s.takeCode_lineCode (o.toNat % 16)
    obtain ⟨-, hrunE, -⟩ := s.lineCode.debounced_effect (o.toNat % 16)
    refine ⟨_, _, exec_codeOctet hstate hframe, rfl, hcand, hrun.trans hrunE, fun h => htaken (hrunE.trans h),
      fun h => ?_, fun hne => ?_, ?_⟩
    · obtain ⟨-, -, hvalue, hcond⟩ := s.lineCode.debounced_effect (o.toNat % 16)
      rw [hkept fun he => h (hrunE.symm.trans he)]
      exact ⟨hvalue, hcond, rfl, rfl, rfl⟩
    · have hthree : (s.lineCode.debounced (o.toNat % 16)).run = 3 := by
        refine Classical.byContradiction fun hno => ?_
        obtain ⟨-, -, hvalue, hcond⟩ := s.lineCode.debounced_effect (o.toNat % 16)
        exact hne (by rw [hkept hno]; simp [hvalue, hcond])
      obtain ⟨hvalue, hcond⟩ := htaken hthree
      have hchanged : ¬ (s.lineCode.value = (s.takeCode (o.toNat % 16)).lineCode.value ∧
          s.lineCode.condition = (s.takeCode (o.toNat % 16)).lineCode.condition) := fun h =>
        hne (by rw [← h.1, ← h.2])
      obtain ⟨c, hc⟩ : ∃ c, s.takeCode (o.toNat % 16) = s.setLineCode c := ⟨_, rfl⟩
      rw [hc, State.setLineCode_lineCode] at hchanged
      obtain ⟨hflag, hvalley⟩ := State.setLineCode_changed hchanged
      rw [← hc] at hflag hvalley
      refine ⟨hflag, ?_⟩
      simpa only [ValleyTerm, LineCode.effective_stop hvalue hcond, State.takeCode_frame] using hvalley
    · simp [SameSetup]
  · have hexec : exec .lineCodeHoldExpiry s =
        .next (s.setLineCode { s.lineCode with condition := .expired, holdTimer := none }) := by
      change execLineCodeHoldExpiry s = _
      simp only [execLineCodeHoldExpiry, htimer]
    have hchanged : ¬ (s.lineCode.value = ({ s.lineCode with condition := .expired, holdTimer := none } : LineCode).value ∧
        s.lineCode.condition = ({ s.lineCode with condition := .expired, holdTimer := none } : LineCode).condition) := by
      simp [hheld]
    obtain ⟨hflag, hvalley⟩ := State.setLineCode_changed hchanged
    have heffective : (s.setLineCode { s.lineCode with condition := .expired, holdTimer := none }).lineCode.effective =
        .caution := by simp [LineCode.effective]
    refine ⟨_, hexec, State.setLineCode_lineCode _ s, heffective, hflag, ?_, ?_⟩
    · rw [ValleyTerm, heffective] at hvalley
      simpa using hvalley
    · simp [SameSetup]

end Sys2Proof.Machine

/-! SUPPORT. The valley's orders on the version, the stop record, WAKE and POLL, and the messages that give no order: what an
evaluation keeps of terms and causes, what a joining cause places in the report queue, and what an entry into a mode
leaves. -/

namespace Sys2Proof.Machine

/-! ## What supervision does not write -/

/-- The demand terms that neither supervision nor a cause drives, and the causes that no evaluation adds. -/
def Brakes.unjudged (b : Brakes) : Terms × CauseSet :=
  ({ b.terms with supervision := 0, contact := 0, emergency := 0 },
    { b.causes with eoaPassed := false, overspeed := false })

theorem Brakes.unjudged_iff {b c : Brakes} : b.unjudged = c.unjudged ↔
    (b.terms.driver = c.terms.driver ∧ b.terms.vigilance = c.terms.vigilance ∧ b.terms.valley = c.terms.valley ∧
      b.terms.door = c.terms.door) ∧
    b.causes.valleyStop = c.causes.valleyStop ∧ b.causes.driveLost = c.causes.driveLost ∧
      b.causes.cabEmergency = c.causes.cabEmergency ∧ b.causes.rollaway = c.causes.rollaway ∧
      b.causes.brakeFeedback = c.causes.brakeFeedback ∧ b.causes.restart = c.causes.restart ∧
      b.causes.sensor = c.causes.sensor ∧ b.causes.lineEnd = c.causes.lineEnd := by
  simp [Brakes.unjudged, and_assoc]

/-- Written terms that keep the terms supervision does not write. -/
theorem State.setTerms_unjudged {t : Terms} {s : State} (hdriver : t.driver = s.brk.terms.driver)
    (hvigilance : t.vigilance = s.brk.terms.vigilance) (hvalley : t.valley = s.brk.terms.valley)
    (hdoor : t.door = s.brk.terms.door) : (s.setTerms t).brk.unjudged = s.brk.unjudged := by
  obtain ⟨hterms, -⟩ := State.setTerms_effect t s
  simp [Brakes.unjudged_iff, hterms, hdriver, hvigilance, hvalley, hdoor]

theorem State.addCause_unjudged {k : CauseKind} (hk : k = .eoaPassed ∨ k = .overspeed) (s : State) :
    (s.addCause k).brk.unjudged = s.brk.unjudged := by
  obtain ⟨hterms, hcauses, -⟩ := s.joinCause_effect k
  rcases hk with rfl | rfl
  all_goals
    rw [State.addCause_eq (by decide)]
    split
    · rfl
    · simp [Brakes.unjudged_iff, hterms, hcauses, CauseSet.join]

@[simp] theorem State.eoaTest_unjudged (s : State) : s.eoaTest.brk.unjudged = s.brk.unjudged := by
  unfold State.eoaTest
  split
  · simp
  · split
    · split
      · rfl
      · simpa using State.addCause_unjudged (.inl rfl) s
    · simp

@[simp] theorem State.setSupState_unjudged (x : SupState) (s : State) : (s.setSupState x).brk.unjudged = s.brk.unjudged := by
  obtain ⟨u, hu⟩ : ∃ u, u = (s.withSup { s.sup with state := x }).flag .supervision := ⟨_, rfl⟩
  have hbrk : u.brk = s.brk := by simp [hu]
  have hset : (u.setTerms { u.brk.terms with supervision := x.term }).brk.unjudged = s.brk.unjudged :=
    (State.setTerms_unjudged (by rfl) (by rfl) (by rfl) (by rfl)).trans (by rw [hbrk])
  unfold State.setSupState
  split
  · rfl
  · rw [← hu]
    dsimp only
    split
    · exact (State.addCause_unjudged (.inr rfl) _).trans hset
    · exact hset

@[simp] theorem State.evalCore_unjudged (s : State) : s.evalCore.brk.unjudged = s.brk.unjudged := by
  simp [State.evalCore, State.measureLimits]

@[simp] theorem State.setContactState_unjudged (x : ContactState) (s : State) :
    (s.setContactState x).brk.unjudged = s.brk.unjudged := by
  unfold State.setContactState
  split
  · rfl
  · refine (State.evalCore_unjudged _).trans ((State.setTerms_unjudged (by rfl) (by rfl) (by rfl) (by rfl)).trans ?_)
    split <;> simp

@[simp] theorem State.judgeContact_unjudged (s : State) : s.judgeContact.brk.unjudged = s.brk.unjudged := by
  unfold State.judgeContact
  split <;> simp

@[simp] theorem State.setShadow_unjudged (x : Bool) (s : State) : (s.setShadow x).brk.unjudged = s.brk.unjudged := by
  unfold State.setShadow
  split <;> simp

@[simp] theorem State.shadowTest_unjudged (s : State) : s.shadowTest.brk.unjudged = s.brk.unjudged := by
  unfold State.shadowTest
  split
  · split <;> simp
  · simp

@[simp] theorem State.evaluate_unjudged (s : State) : s.evaluate.brk.unjudged = s.brk.unjudged := by
  unfold State.evaluate
  dsimp only
  split <;> simp

@[simp] theorem State.heardOrder_unjudged (s : State) : s.heardOrder.brk.unjudged = s.brk.unjudged := by
  simp [State.heardOrder, State.windowMoves, State.contactHeard]

/-! ## What joining causes place in the report queue -/

/-- From `s` to `t` at most `n` causes join, each with an ALARM: a cause set that stays leaves the reports, an empty backlog
and `n` free slots take the ALARMs at the end of the queue (R99, R175). -/
structure Joined (n : Nat) (s t : State) : Prop where
  grows : ∀ k, s.brk.causes.has k = true → t.brk.causes.has k = true
  idle : t.brk.causes = s.brk.causes → t.reports = s.reports
  placed : s.reports.backlog = [] → s.reports.queue.length + n ≤ queueSlots →
    ∃ l, l.length ≤ n ∧ (∀ x ∈ l, x.isWaitingStatus = false) ∧
      t.reports = { s.reports with queue := s.reports.queue ++ l }
  timer : t.reports.timer = s.reports.timer

theorem Joined.of_eq {s t : State} (n : Nat) (hcauses : t.brk.causes = s.brk.causes) (hreports : t.reports = s.reports) :
    Joined n s t where
  grows k hk := hcauses ▸ hk
  idle _ := hreports
  placed _ _ := ⟨[], by simp, by simp, by simp [hreports]⟩
  timer := by rw [hreports]

theorem Joined.trans {n m : Nat} {s t u : State} (h : Joined n s t) (g : Joined m t u) : Joined (n + m) s u where
  grows k hk := g.grows k (h.grows k hk)
  idle hcauses := by
    have hst : t.brk.causes = s.brk.causes := CauseSet.ext_has fun k =>
      Bool.eq_iff_iff.2 ⟨fun hk => hcauses ▸ g.grows k hk, h.grows k⟩
    exact (g.idle (hcauses.trans hst.symm)).trans (h.idle hst)
  placed hempty hroom := by
    obtain ⟨l, hlength, hl, hreports⟩ := h.placed hempty (by omega)
    obtain ⟨r, hrlength, hr, hreports'⟩ := g.placed (by simpa [hreports] using hempty) (by
      simp only [hreports, List.length_append]
      omega)
    refine ⟨l ++ r, by simp only [List.length_append]; omega, fun x hx => ?_, by simp [hreports', hreports]⟩
    rcases List.mem_append.1 hx with hx | hx
    · exact hl x hx
    · exact hr x hx
  timer := g.timer.trans h.timer

/-- An ALARM goes to the end of a queue with room behind an empty backlog (R175). -/
theorem Reports.placeAlarm_room {r : Reports} (hempty : r.backlog = []) (hroom : r.queue.length < queueSlots)
    (carId : Octet) (a : Alarm) :
    r.placeAlarm carId a = { r with queue := r.queue ++ [Slot.waiting (.alarm a) carId] } := by
  simp [Reports.placeAlarm, hempty, hroom]

theorem Reports.placeAlarm_timer (r : Reports) (carId : Octet) (a : Alarm) : (r.placeAlarm carId a).timer = r.timer := by
  unfold Reports.placeAlarm
  (repeat' split) <;> rfl

theorem State.offerAlarm_reports (k : CauseKind) (s : State) : (s.offerAlarm k).reports =
    match s.brk.first with
    | some f => s.reports.placeAlarm s.carIdOctet { kind := k, first := f, repeats := 1 }
    | none => s.reports := by
  unfold State.offerAlarm
  split
  · next h => simp [h]
  · next h => simp [h]

/-- The one ALARM of a join, where the first-cause record is at hand (R99, R103). -/
theorem State.joinCause_reports (k : CauseKind) (s : State) : (s.joinCause k).reports =
    match s.firstAfter k with
    | some f => s.reports.placeAlarm s.carIdOctet { kind := k, first := f, repeats := 1 }
    | none => s.reports := by
  obtain ⟨-, -, hfirst, -⟩ := s.takeCause_effect k
  obtain ⟨u, hu⟩ : ∃ u, u = if (s.takeCause k).pos.standstill then (s.takeCause k).applyCmd .hold else s.takeCause k :=
    ⟨_, rfl⟩
  have hufirst : u.brk.first = s.firstAfter k := by
    rw [hu]
    split
    · rw [(Brakes.still_iff.1 (State.applyCmd_still .hold _)).2.2.1, hfirst]
    · exact hfirst
  have hreports : u.reports = s.reports ∧ u.params = s.params := by
    rw [hu]
    split <;> simp [State.takeCause]
  rw [State.joinCause_eq, ← hu, State.offerAlarm_reports, hufirst]
  simp only [hreports, State.carIdOctet]

theorem State.joinCause_joined (k : CauseKind) {s : State} (hk : s.brk.causes.has k = false) :
    Joined 1 s (s.joinCause k) := by
  obtain ⟨-, hcauses, -⟩ := s.joinCause_effect k
  have hreports := s.joinCause_reports k
  constructor
  case grows => exact fun j hj => by simp [hcauses, CauseSet.has_join, hj]
  case idle =>
    intro h
    have : s.brk.causes.has k = true := by rw [← h, hcauses, CauseSet.has_join]; simp
    simp [hk] at this
  case placed =>
    intro hempty hroom
    cases hf : s.firstAfter k with
    | none => exact ⟨[], by simp, by simp, by simp [hreports, hf]⟩
    | some f =>
      refine ⟨_, ?_, ?_, by rw [hreports, hf]; exact Reports.placeAlarm_room hempty hroom _ _⟩
      · simp
      · simp [Slot.isWaitingStatus, Slot.waiting]
  case timer =>
    rw [hreports]
    split
    · exact Reports.placeAlarm_timer _ _ _
    · rfl

theorem State.addCause_joined {k : CauseKind} (hk : k ≠ .rollaway) (s : State) : Joined 1 s (s.addCause k) := by
  rw [State.addCause_eq hk]
  split
  · exact .of_eq 1 rfl rfl
  · next h => exact State.joinCause_joined k (by simpa using h)

theorem State.eoaTest_joined (s : State) : Joined 1 s s.eoaTest := by
  unfold State.eoaTest
  split
  · exact .of_eq 1 rfl rfl
  · split
    · split
      · exact .of_eq 1 rfl rfl
      · exact .trans (m := 0) (State.addCause_joined (k := .eoaPassed) (by decide) s) (.of_eq 0 (by simp) (by simp))
    · exact .of_eq 1 rfl rfl

theorem State.setSupState_joined (x : SupState) (s : State) : Joined 1 s (s.setSupState x) := by
  obtain ⟨u, hu⟩ : ∃ u : State, u = (s.withSup { s.sup with state := x }).flag .supervision := ⟨_, rfl⟩
  have hset : ∀ t, Joined 0 s (u.setTerms t) := fun t =>
    .of_eq 0 (by rw [(State.setTerms_effect t u).2.1]; simp [hu]) (by simp [hu])
  unfold State.setSupState
  split
  · exact .of_eq 1 rfl rfl
  · rw [← hu]
    dsimp only
    split
    · exact (hset _).trans (State.addCause_joined (k := .overspeed) (by decide) _)
    · exact (hset _).trans (.of_eq 1 rfl rfl)

/-- An evaluation adds at most EOA_PASSED and OVERSPEED. -/
theorem State.evalCore_joined (s : State) : Joined 2 s s.evalCore :=
  have hlimits : Joined 0 s s.measureLimits := .of_eq 0 (by simp) (by simp)
  (hlimits.trans (State.eoaTest_joined _)).trans (State.setSupState_joined _ _)

theorem State.heardOrder_joined (s : State) : Joined 2 s s.heardOrder := by
  obtain ⟨u, hu⟩ : ∃ u : State, u = s.windowMoves.withContact { s.windowMoves.contact with value := 0 } := ⟨_, rfl⟩
  have hbefore : Joined 0 s u := .of_eq 0 (by simp [hu, State.windowMoves]) (by simp [hu, State.windowMoves])
  have hheard : s.heardOrder = u.setContactState .live := by rw [hu]; rfl
  rw [hheard]
  unfold State.setContactState
  split
  · exact hbefore.trans (.of_eq 2 rfl rfl)
  · refine hbefore.trans (.trans (n := 0) (.of_eq 0 ?_ ?_) (State.evalCore_joined _))
    · dsimp only
      rw [(State.setTerms_effect _ _).2.1]
      simp
    · simp

/-- With the contact LIVE nothing but the timer and the window follows a message heard (R53, R55). -/
theorem State.heardOrder_live {s : State} (h : s.contact.state = .live) :
    s.heardOrder = s.windowMoves.withContact { s.contact with value := 0 } := by
  have hstate : (s.windowMoves.withContact { s.windowMoves.contact with value := 0 }).contact.state = .live := by
    simpa [State.windowMoves] using h
  exact if_pos hstate

/-! ## The entry into a mode -/

theorem State.powerOn_mode (s : State) : s.powerOn.mode = { s.mode with modemPower := true } := by
  unfold State.powerOn
  split
  · next h => simp [← h]
  · simp

theorem State.keyOn_mode (s : State) : s.keyOn.mode = { s.mode with modemKey := true } := by
  unfold State.keyOn
  split
  · next h => simp [← h]
  · simp

theorem State.keyOff_mode (s : State) : s.keyOff.mode = { s.mode with modemKey := false } := by
  unfold State.keyOff
  split
  · simp
  · next h => simp [← Bool.not_eq_true _ ▸ h]

/-- The modem outputs of a mode: powered in every one, keyed outside PARKED and WAKING (R191). -/
theorem State.modemFor_outputs (m : CarMode) (s : State) : (s.modemFor m).mode =
    { s.mode with modemPower := true, modemKey := decide (m ≠ .parked ∧ m ≠ .waking) } := by
  cases m <;> simp [State.modemFor, State.powerOn_mode, State.keyOn_mode, State.keyOff_mode]

/-- The watch runs where its conditions hold, from 0 where it starts or ends (R104). -/
theorem State.syncRollaway_running (s : State) : s.syncRollaway.brk.rollRunning = s.rollWatch ∧
    (s.brk.rollCount = 0 → s.syncRollaway.brk.rollCount = 0) := by
  unfold State.syncRollaway
  split
  · next h => exact ⟨h.symm, id⟩
  · simp

/-- What an entry into a mode leaves of the mode controller, the flags, the brakes and the doors (R94, R95, R104, R114,
R191). -/
theorem State.enterMode_effect {m : CarMode} {s : State} (h : s.mode.mode ≠ m) :
    (s.enterMode m).mode = { ModeCtl.timersFor m { s.mode with mode := m } with
      modemPower := true, modemKey := decide (m ≠ .parked ∧ m ≠ .waking) } ∧
    Flagged (s.enterMode m) .mode ∧
    (m.running = false → (s.enterMode m).brk.rack.state.energized = false) ∧
    (m ≠ .drive → (s.enterMode m).brk.hold.state.energized = false) ∧
    (m = .parked ∨ m = .waking → (s.enterMode m).doors.sideReleased = false) ∧
    (m ≠ .parked → m ≠ .waking → (s.enterMode m).doors = s.doors) ∧
    (s.enterMode m).brk.rollRunning = (s.enterMode m).rollWatch ∧
    (m = .parked → (s.enterMode m).brk.rollCount = 0) := by
  obtain ⟨hmode, -, -, -, hrack, hhold, -⟩ := s.modeBrakes_effect m
  obtain ⟨hdoors, -⟩ := s.modeBrakes_frame m
  obtain ⟨u, hu⟩ : ∃ u, u = s.modeBrakes m := ⟨_, rfl⟩
  obtain ⟨v, hv⟩ : ∃ v, v = if m = .parked ∨ m = .waking then u.withdrawAll else u := ⟨_, rfl⟩
  obtain ⟨w, hw⟩ : ∃ w, w = if m = .parked then (v.modemFor m).withBrk { (v.modemFor m).brk with rollCount := 0 }
    else v.modemFor m := ⟨_, rfl⟩
  have henter : s.enterMode m = w.syncRollaway := by rw [State.enterMode_eq, if_neg h, hw, hv, hu]; rfl
  have hflagged : Flagged u .mode := by
    have happly : ∀ (b : BrakeId) (t : State), Flagged t .mode → Flagged (t.applyCmd b) .mode := fun b t =>
      (State.applyCmd_subdued b t).flags .mode
    rw [hu]
    unfold State.modeBrakes
    dsimp only
    (repeat' split)
    · exact flagged_flag _ _
    · exact happly _ _ (flagged_flag _ _)
    · exact happly _ _ (flagged_flag _ _)
    · exact happly _ _ (happly _ _ (flagged_flag _ _))
  have hsub : Subdued u v := by
    rw [hv]
    split
    · exact State.withdrawAll_subdued u
    · exact .refl u
  have hvmode : v.mode = u.mode := by
    rw [hv]
    split <;> simp
  have hwmode : w.mode = (v.modemFor m).mode := by
    rw [hw]
    split <;> simp
  have hwrest : (∀ b, w.brk.get b = v.brk.get b) ∧ w.flags = v.flags ∧ w.doors = v.doors := by
    rw [hw]
    split
    · exact ⟨fun b => by cases b <;> simp [Brakes.get], by simp, by simp⟩
    · simp
  obtain ⟨hwbrk, hwflags, hwdoors⟩ := hwrest
  have hbrk : ∀ b, w.syncRollaway.brk.get b = v.brk.get b := fun b =>
    ((State.syncRollaway_parts w).2.1 b).trans (hwbrk b)
  obtain ⟨hrun, hzero⟩ := w.syncRollaway_running
  have hwatch : w.syncRollaway.rollWatch = w.rollWatch := by
    have hhold := (State.syncRollaway_parts w).2.1 .hold
    simp only [Brakes.get] at hhold
    simp [State.rollWatch, hhold]
  rw [henter]
  refine ⟨?_, ((hsub.flags _ hflagged).congr hwflags).congr (by simp), fun hm => ?_, fun hm => ?_, fun hm => ?_,
    fun hp hk => ?_, hrun.trans hwatch.symm, fun hm => hzero ?_⟩
  · simp [hwmode, State.modemFor_outputs, hvmode, hu, hmode]
  · have := hsub.valves .rack (hu ▸ hrack hm)
    rwa [← hbrk .rack] at this
  · have := hsub.valves .hold (hu ▸ hhold hm)
    rwa [← hbrk .hold] at this
  · simp [hwdoors, hv, hm]
  · simp [hwdoors, hv, hp, hk, hu, hdoors]
  · simp [hw, hm]

end Sys2Proof.Machine

/-! SUPPORT. The valley's orders on the version, the stop record, WAKE and POLL, and the messages that give no order. -/

namespace Sys2Proof.Machine

/-! ## LINE -/

theorem readVersion_oct2 {v : Nat} (hv : v ≤ 65535) (rest : List Octet) :
    readVersion (oct2 v ++ rest) = if v = 0 then none else some v := by
  have hnum := num2_oct2 (n := v) (by omega)
  simp [oct2, readVersion, hnum]

/-- The judgement of the VERSION indication sets it and flags its change (R169). -/
theorem State.judgeVersion_effect (v : Nat) (s : State) (hv : s.handler.lineVersion = some v) :
    s.judgeVersion.handler = { s.handler with versionInd := decide (v ≠ s.line.committedVersion) } ∧
      (s.judgeVersion.handler.versionInd ≠ s.handler.versionInd → Flagged s.judgeVersion .lineRecord) := by
  unfold State.judgeVersion
  simp only [hv]
  split
  · next h => exact ⟨by rw [← h, ← hv], fun hne => absurd rfl hne⟩
  · exact ⟨by simp, fun _ => flagged_flag _ _⟩

/-- Settles O30: the version becomes the last heard, and the VERSION indication is judged by it. -/
theorem lineKeepsTheVersionHeard : Obligations.LineKeepsTheVersionHeard := by
  intro s m v rest htakes hv hpayload
  have hread := readVersion_oct2 hv rest
  have hexec : exec (.line m) s = .next (s.valleyCommand m 32#8 (ownLine m.payload)) := rfl
  by_cases hzero : v = 0
  · have hown : ownLine m.payload s.heardOrder = refuse .range s.heardOrder := by
      rw [ownLine, hpayload, hread, if_pos hzero]
    obtain ⟨hheard, hhandler, hsetup, hradio⟩ := State.orderRefused_heard 32#8 m.order .range s
    refine ⟨_, by rw [hexec, State.valleyCommand_refused htakes hown rfl], hheard, ?_, hsetup, hradio, ?_⟩
    · simp [hzero]
    · simp
  · obtain ⟨u, hu⟩ : ∃ u, u = s.heardOrder.withHandler { s.heardOrder.handler with lineVersion := some v } := ⟨_, rfl⟩
    have hown : ownLine m.payload s.heardOrder = accept u.judgeVersion := by
      rw [ownLine, hpayload, hread, if_neg hzero, hu]
    obtain ⟨hhandler, hflag⟩ := u.judgeVersion_effect v (by simp [hu])
    have hcommitted : u.line.committedVersion = if s.line.profile = .valid then s.line.version else 0 := by
      simp [hu, LineStore.committedVersion]
    refine ⟨_, by rw [hexec, State.valleyCommand_accepted htakes hown], ?_, ?_, ?_, ?_, ?_⟩
    · exact s.heardOrder_heard.congr (by simp [hu]) (by simp [hu])
    · rw [if_neg hzero]
      refine ⟨?_, by simp [hu], fun hne => (hflag ?_).congr (by simp)⟩
      · simp only [State.orderAccepted_handler, hhandler, hcommitted]
        simp [hu]
      · simpa [hu] using hne
    all_goals simp [SameSetup, SameRadio, hu]

/-! ## STOP and STOP_RELEASE -/

theorem Terms.valley_le_top (t : Terms) : t.valley ≤ t.top := by
  simp only [Terms.top]
  omega

/-- The VALLEY term is formed from the service mark and the line code, and the output from the terms (R82, R85). -/
theorem State.valleyTerm_effect (s : State) :
    s.valleyTerm.brk.terms.valley = (if s.handler.stopService = true ∨ s.lineCode.effective = .stop then 100 else 0) ∧
      s.valleyTerm.brk.terms.valley ≤ s.valleyTerm.brk.serviceOut ∧ s.valleyTerm.brk.causes = s.brk.causes := by
  obtain ⟨hterms, hcauses, -, hout, -⟩ := State.setTerms_effect
    { s.brk.terms with valley := if s.handler.stopService ∨ s.lineCode.effective = .stop then 100 else 0 } s
  refine ⟨?_, ?_, hcauses⟩
  · simp [State.valleyTerm, hterms]
  · change _ ≤ (State.setTerms _ s).brk.serviceOut
    rw [hout]
    exact Terms.valley_le_top _

/-- The owners of STOP by its severity (R170). -/
theorem ownStop_eq (severity : Octet) (rest : List Octet) (s : State) :
    (if severity = 2#8 then ownStopEmergency (severity :: rest) s else ownStopService (severity :: rest) s) =
      if severity = 1#8 then accept ((s.withHandler { s.handler with stopService := true }).valleyTerm)
      else if severity = 2#8 then accept ((s.withHandler { s.handler with stopEmergency := true }).addCause .valleyStop)
      else refuse .range s := by
  by_cases h2 : severity = 2#8
  · simp [h2, ownStopEmergency]
  · simp [h2, ownStopService]

theorem exec_stop (severity : Octet) (m : ValleyMsg) (s : State) :
    exec (if severity = 2#8 then .stopEmergency m else .stopService m) s =
      .next (s.valleyCommand m 36#8 fun t =>
        if severity = 2#8 then ownStopEmergency m.payload t else ownStopService m.payload t) := by
  split <;> rfl

/-- Settles O31: each severity writes its mark and forms its term or adds its cause; hearing the order moves neither. -/
theorem stopOrdersHoldTheCar : Obligations.StopOrdersHoldTheCar := by
  intro s m severity rest
  obtain ⟨⟨-, -, hvalley, -⟩, hstop, -⟩ := Brakes.unjudged_iff.1 s.heardOrder_unjudged
  refine ⟨fun htakes hpayload => ?_, fun htakes => ?_⟩
  · have hown : (fun t => if severity = 2#8 then ownStopEmergency (severity :: rest) t
        else ownStopService (severity :: rest) t) s.heardOrder = _ := ownStop_eq severity rest s.heardOrder
    have hexec := exec_stop severity m s
    rw [hpayload] at hexec
    by_cases h1 : severity = 1#8
    · rw [if_pos h1] at hown
      obtain ⟨u, hu⟩ : ∃ u, u = s.heardOrder.withHandler { s.heardOrder.handler with stopService := true } := ⟨_, rfl⟩
      have hubrk : u.brk = s.heardOrder.brk := by rw [hu]; rfl
      rw [← hu] at hown
      obtain ⟨hterm, hout, hcauses⟩ := u.valleyTerm_effect
      have hset : u.valleyTerm.brk.terms.valley = 100 := by rw [hterm]; simp [hu]
      refine ⟨_, hexec.trans (congrArg Host.Outcome.next (State.valleyCommand_accepted htakes hown)), ?_, fun _ => ?_, fun h2 => ?_, fun h => absurd h1 h, ?_⟩
      · exact s.heardOrder_heard.congr (by simp [hu]) (by simp [hu])
      · refine ⟨by simp [hu], by simpa using hset, by simpa [hset] using hout, ?_⟩
        exact (congrArg CauseSet.valleyStop (hcauses.trans (congrArg Brakes.causes hubrk))).trans hstop
      · simp [h1] at h2
      · simp [SameSetup, SameRadio, hu]
    · rw [if_neg h1] at hown
      by_cases h2 : severity = 2#8
      · rw [if_pos h2] at hown
        obtain ⟨u, hu⟩ : ∃ u, u = s.heardOrder.withHandler { s.heardOrder.handler with stopEmergency := true } := ⟨_, rfl⟩
        have hubrk : u.brk = s.heardOrder.brk := by rw [hu]; rfl
        rw [← hu] at hown
        obtain ⟨hcause, -⟩ := State.addCause_effect (k := .valleyStop) (by decide) u
        have hkept : (u.addCause .valleyStop).brk.terms.valley = u.brk.terms.valley := by
          rw [State.addCause_eq (by decide)]
          split
          · rfl
          · rw [(u.joinCause_effect .valleyStop).1]
        refine ⟨_, hexec.trans (congrArg Host.Outcome.next (State.valleyCommand_accepted htakes hown)), ?_,
          fun h => absurd h h1, fun _ => ?_, fun _ h => absurd h2 h, ?_⟩
        · exact s.heardOrder_heard.congr (by simp [hu]) (by simp [hu])
        · exact ⟨by simp [hu], by simpa [CauseSet.has] using hcause, (hkept.trans (congrArg (fun b => b.terms.valley) hubrk)).trans hvalley⟩
        · simp [SameSetup, SameRadio, hu]
      · rw [if_neg h2] at hown
        obtain ⟨hheard, hhandler, hsetup, hradio⟩ := State.orderRefused_heard 36#8 m.order .range s
        refine ⟨_, hexec.trans (congrArg Host.Outcome.next (State.valleyCommand_refused htakes hown rfl)), hheard,
          fun h => absurd h h1, fun h => absurd h h2, fun _ _ => ⟨hhandler, by simp⟩, hsetup, hradio, ?_⟩
        simp
  · obtain ⟨u, hu⟩ : ∃ u, u = s.heardOrder.withHandler
        { s.heardOrder.handler with stopService := false, stopEmergency := false } := ⟨_, rfl⟩
    have hubrk : u.brk = s.heardOrder.brk := by rw [hu]; rfl
    have hown : ownStopRelease s.heardOrder = accept u.valleyTerm := by rw [hu]; rfl
    obtain ⟨hterm, -, hcauses⟩ := u.valleyTerm_effect
    have hexec : exec (.stopRelease m) s = .next (u.valleyTerm.orderAccepted m.order) :=
      congrArg Host.Outcome.next (State.valleyCommand_accepted htakes hown)
    refine ⟨_, hexec, ?_, by simp [hu], ?_, ?_, ?_⟩
    · exact s.heardOrder_heard.congr (by simp [hu]) (by simp [hu])
    · simp only [State.orderAccepted_frame, hterm]
      simp [hu]
    · exact (congrArg CauseSet.valleyStop (hcauses.trans (congrArg Brakes.causes hubrk))).trans hstop
    · simp [SameSetup, SameRadio, hu]

/-! ## WAKE -/

/-- A PARKED car that wakes enters WAKING and releases no brake (R171, R194). -/
theorem State.changeMode_waking {s : State} (h : s.mode.mode = .parked) :
    s.changeMode .waking = s.enterMode .waking := by
  have hmode := State.enterMode_mode .waking s
  simp [State.changeMode, h, CarMode.running, State.releaseRack, hmode]

/-! ## POLL -/

/-- A STATUS takes the place of the one that waits (R174). -/
theorem Reports.placeStatus_replaces {r : Reports} {l k : List Slot} {y : Slot} (x : Slot) (hqueue : r.queue = l ++ y :: k)
    (hy : y.isWaitingStatus = true) (hrest : ∀ z ∈ l ++ k, z.isWaitingStatus = false) :
    r.placeStatus x = { r with queue := l ++ x :: k } := by
  have hkeep : ∀ j : List Slot, (∀ z ∈ j, z.isWaitingStatus = false) →
      j.map (fun z => if z.isWaitingStatus then x else z) = j := fun j hj => by
    conv => rhs; rw [← List.map_id j]
    exact List.map_congr_left fun z hz => by simp [hj z hz]
  have hl := hkeep l fun z hz => hrest z (List.mem_append_left _ hz)
  have hk := hkeep k fun z hz => hrest z (List.mem_append_right _ hz)
  simp [Reports.placeStatus, hqueue, hy, hl, hk]

/-- Where none waits a STATUS takes a free slot, or is dropped with the queue full (R174). -/
theorem Reports.placeStatus_appends {r : Reports} (x : Slot) (hnone : ∀ z ∈ r.queue, z.isWaitingStatus = false) :
    r.placeStatus x = { r with queue := if r.queue.length < 4 then r.queue ++ [x] else r.queue } := by
  rw [Reports.placeStatus, if_neg (by simpa using hnone)]
  split
  · next h => rw [if_pos (show r.queue.length < 4 from h)]
  · next h => rw [if_neg (show ¬ r.queue.length < 4 from h)]

theorem Reports.placeStatus_timer (r : Reports) (x : Slot) : (r.placeStatus x).timer = r.timer := by
  unfold Reports.placeStatus
  (repeat' split) <;> rfl

/-- An offered STATUS is composed from the state that offers it (R172). -/
theorem State.offerStatus_reports (s : State) :
    s.offerStatus.reports = s.reports.placeStatus (Slot.waiting (.status s.statusPayload) (oct s.params.carId)) := rfl

/-- Settles O32: WAKE enters WAKING from PARKED alone, and POLL offers a STATUS behind the ALARMs of the contact heard. -/
theorem wakeAndPollAnswerTheValley : Obligations.WakeAndPollAnswerTheValley := by
  intro s m
  have hmode : s.heardOrder.mode = { s.mode with window := s.mode.window.map Window.moved } := s.heardOrder_heard.2.2
  refine ⟨fun htakes hparked => ?_, fun htakes hother => ?_, fun htakes => ?_⟩
  · have hfrom : s.heardOrder.mode.mode = .parked := by simp [hmode, hparked]
    obtain ⟨hmodeE, hflag, hrack, hhold, hside, -, hroll, -⟩ :=
      State.enterMode_effect (m := .waking) (s := s.heardOrder) (by simp [hfrom])
    have hown : ownWake s.heardOrder = accept (s.heardOrder.enterMode .waking) := by
      rw [ownWake, if_pos hfrom, State.changeMode_waking hfrom]
    have hexec : exec (.wake m) s = .next ((s.heardOrder.enterMode .waking).orderAccepted m.order) :=
      congrArg Host.Outcome.next (State.valleyCommand_accepted htakes hown)
    have hwatch : (s.heardOrder.enterMode .waking).rollWatch = false := by
      simp [State.rollWatch, hmodeE, ModeCtl.timersFor]
    refine ⟨_, hexec, ?_⟩
    simp [hmodeE, ModeCtl.timersFor, hflag.congr, hrack rfl, hhold, hside, hroll, hwatch, SameSetup, checkTime]
  · have hown : ownWake s.heardOrder = refuse .stateFails s.heardOrder := by
      rw [ownWake, if_neg (by simpa [hmode] using hother)]
    have hexec : exec (.wake m) s = .next (s.heardOrder.orderRefused 40#8 m.order .stateFails) :=
      congrArg Host.Outcome.next (State.valleyCommand_refused htakes hown rfl)
    obtain ⟨hheard, hhandler, hsetup, hradio⟩ := State.orderRefused_heard 40#8 m.order .stateFails s
    exact ⟨_, hexec, hheard, hhandler, by simp, hsetup, hradio, by simp⟩
  · obtain ⟨u, hu⟩ : ∃ u, u = s.heardOrder.withHandler { s.heardOrder.handler with
        outcomes := { s.heardOrder.handler.outcomes with accepted := some m.order } } := ⟨_, rfl⟩
    have hown : ownPoll m.order s.heardOrder = accept u.offerStatus := by rw [hu]; rfl
    have hexec : exec (.poll m) s = .next (u.offerStatus.orderAccepted m.order) :=
      congrArg Host.Outcome.next (State.valleyCommand_accepted htakes hown)
    obtain ⟨t, ht⟩ : ∃ t, t = u.offerStatus.orderAccepted m.order := ⟨_, rfl⟩
    have hstatus : t.statusPayload = u.statusPayload := by
      simp [ht, hu, State.statusPayload, State.offerStatus, Outcomes.acceptedBy]
    have hreports : t.reports = u.reports.placeStatus (Slot.waiting (.status t.statusPayload) (oct s.params.carId)) := by
      have hcar : u.params = s.params := by simp [hu]
      rw [hstatus, ← hcar, ← State.offerStatus_reports]
      simp [ht]
    have hjoined : Joined 2 s u := .trans (m := 0) s.heardOrder_joined (.of_eq 0 (by simp [hu]) (by simp [hu]))
    have hcauses : t.brk.causes = u.brk.causes := by simp [ht, State.offerStatus]
    rw [← ht] at hexec
    refine ⟨t, hexec, ?_, ?_, fun hlive => ?_, ?_, ?_, ?_⟩
    · exact s.heardOrder_heard.congr (by simp [ht, hu]) (by simp [ht, hu])
    · simp [ht, hu, Outcomes.acceptedBy]
    · rw [hcauses, hu, State.heardOrder_live hlive]
      simp [State.windowMoves]
    · intro x hx
      have hslot : t.reports = u.reports.placeStatus x := by rw [hreports, hx]; rfl
      refine ⟨fun hkept l y r hqueue hy hrest => ?_, fun hkept hnone => ?_, fun hroom hempty hnone => ?_⟩
      · have hsame := hjoined.idle (hcauses ▸ hkept)
        rw [hslot, hsame, Reports.placeStatus_replaces x hqueue hy hrest]
      · have hsame := hjoined.idle (hcauses ▸ hkept)
        rw [hslot, hsame, Reports.placeStatus_appends x hnone]
      · obtain ⟨l, hlength, hl, hplaced⟩ := hjoined.placed hempty (by simp only [queueSlots]; omega)
        have hqueue : u.reports.queue = s.reports.queue ++ l := by rw [hplaced]
        have hwaits : ∀ z ∈ u.reports.queue, z.isWaitingStatus = false := fun z hz => by
          rcases List.mem_append.1 (hqueue ▸ hz) with hz | hz
          · exact hnone z hz
          · exact hl z hz
        have hshort : u.reports.queue.length < 4 := by
          rw [hqueue, List.length_append]
          omega
        rw [hslot, Reports.placeStatus_appends x hwaits, if_pos hshort, hqueue]
        exact ⟨by simp, by simp⟩
    · rw [hreports, Reports.placeStatus_timer, hjoined.timer]
    · simp [SameSetup, SameRadio, ht, hu]

/-! ## Messages that give no order -/

/-- Octets that hold no start octet are passed over (R164). -/
theorem State.assemble_none (n : Nat) {l : List Octet} (h : 0xC3#8 ∉ l) (s : State) : s.assemble n l = s := by
  induction l generalizing n with
  | nil => cases n <;> rfl
  | cons o rest ih =>
    obtain ⟨ho, hrest⟩ : 0xC3#8 ≠ o ∧ 0xC3#8 ∉ rest := by simpa using h
    cases n with
    | zero => rfl
    | succ n => rw [State.assemble, if_pos (Ne.symm ho), ih n hrest]

/-- Settles O33: only an order for this car is judged, and a bad message counts once. -/
theorem otherAndBadMessagesGiveNoOrder : Obligations.OtherAndBadMessagesGiveNoOrder := by
  intro s
  refine ⟨fun kind m hstate hbuffer hlength hall hother => ?_, fun octets hstate hbuffer hbad hlone => ?_⟩
  · have haddressed : s.windowMoves.addressed m.car = false := by
      simp [State.addressed, State.carIdOctet, State.windowMoves, hall, hother]
    change Host.Outcome.next _ = _
    simp only [State.valleyCommand, hstate, hbuffer, hlength, State.heed, haddressed]
    rfl
  · obtain ⟨hhead, hframe⟩ : octets.head? = some 0xC3#8 ∧ frameOf 40 1 octets = .bad := by
      simpa [badFraming] using hbad
    obtain ⟨o, rest, hoctets⟩ : ∃ o rest, octets = o :: rest := by
      cases octets with
      | nil => simp at hhead
      | cons o rest => exact ⟨o, rest, rfl⟩
    subst hoctets
    have ho : o = 0xC3#8 := by simpa using hhead
    have hcleared : s.withBuffer [] = s := by
      rw [State.withBuffer, ← hbuffer]
      rfl
    change Host.Outcome.next (s.handOn (o :: rest)) = _
    rw [State.handOn, if_neg hstate]
    simp only [hbuffer, List.nil_append, hcleared, State.assemble, ho, ne_eq, not_true_eq_false, if_false]
    rw [← ho, hframe]
    exact congrArg Host.Outcome.next (State.assemble_none _ hlone _)

end Sys2Proof.Machine

/-! SUPPORT. The requests and orders on restrictions and the authority: what a reported change of the line record leaves, the
list after an insertion, the fold, and the grant. -/

namespace Sys2Proof.Machine

/-! ## A reported change of the line record -/

theorem LineStore.eq_of_stored {l k : LineStore} (h : l.stored = k.stored) : l = { k with authority := l.authority } := by
  cases l
  cases k
  simp only [LineStore.stored, LineStore.mk.injEq] at h ⊢
  simp [h]

/-- A reported change stands but for the void flag of the authority, and both cabs are told (R5, R47). -/
theorem State.lineChanged_effect (s : State) :
    s.lineChanged.line = { s.line with authority := s.lineChanged.line.authority } ∧ Flagged s.lineChanged .lineRecord := by
  obtain ⟨-, -, -, -, -, hline, -⟩ := State.record_parts (State.lineChanged_reacts s).record
  exact ⟨LineStore.eq_of_stored hline, (State.evaluate_subdued _).flags _ (flagged_flag _ s)⟩

/-- What a request that wrote and reported the line record leaves beside it. -/
def LineWrite (s t : State) (l : LineStore) : Prop :=
  t.line = { l with authority := t.line.authority } ∧ Flagged t .lineRecord ∧ SameSetup s t ∧ SameRadio s t ∧
    t.token = s.token ∧ t.pos = s.pos ∧ t.doors = s.doors ∧ t.mon = s.mon

/-- A request that writes and reports the line record is answered with its code, a refusal is recorded, and beside the
record nothing it does not read changes (R47, R132, R133). -/
theorem State.cabCommand_writes {s : State} {kind : Octet} {m : CabMsg} {own : State → Reply} {code : ResultCode}
    {body : State → List Octet} {payload : List Octet} {l : LineStore} (h : s.admits kind m = true)
    (hown : own (s.heard m.cab) = { st := ((s.heard m.cab).withLine l).lineChanged, code := code, body := body })
    (hbody : ∀ t : State, t.line = { l with authority := t.line.authority } → body t = payload) :
    ∃ t, s.cabCommand m kind own = t ∧ LineWrite s t l ∧ Answers s t kind m code payload ∧
      t.refusal = (if code.accepted = true then s.refusal
        else some { code := code, index := kind.toNat, valley := false }) ∧
      t.handler = s.handler ∧ t.mode = s.mode := by
  obtain ⟨u, hu⟩ : ∃ u, u = ((s.heard m.cab).withLine l).lineChanged := ⟨_, rfl⟩
  obtain ⟨hline, hflag⟩ := State.lineChanged_effect ((s.heard m.cab).withLine l)
  rw [← hu] at hline hflag hown
  obtain ⟨w, hw⟩ : ∃ w, w = u.noteResult code kind (.cab m.cab) := ⟨_, rfl⟩
  have hwline : w.line = { l with authority := w.line.authority } := by simpa [hw] using hline
  have href : w.refusal = if code.accepted = true then s.refusal
      else some { code := code, index := kind.toNat, valley := false } := by
    rw [hw, State.noteResult]
    split <;> simp [hu, Origin.isValley]
  have hport : w.port m.cab = (s.port m.cab).heard :=
    (State.port_congr (s := s.heard m.cab) (by simp [hw, hu]) (by simp [hw, hu]) m.cab).trans
      (State.heard_port_same m.cab s)
  have hreply := State.cabCommand_reply h hown hw.symm
  simp only [hport, hbody w hwline] at hreply
  refine ⟨_, hreply, ⟨by simpa using hwline, hflag.congr (by simp [hw]), ?_⟩,
    answers_of_ports s m (by simp [hw, hu]) (by simp [hw, hu]) rfl, by simpa using href, ?_⟩
  · simp [SameSetup, SameRadio, hw, hu]
  · simp [hw, hu]

/-- An order that writes and reports the line record is recorded with its code, and beside the record nothing it does not read
changes (R47, R133, R168). -/
theorem State.valleyCommand_writes {s : State} {kind : Octet} {m : ValleyMsg} {own : State → Reply} {l : LineStore}
    {r : Reply} (h : s.takes kind m = true) (hown : own s.heardOrder = r)
    (hst : r.st = (s.heardOrder.withLine l).lineChanged) :
    ∃ t, s.valleyCommand m kind own = t ∧ LineWrite s t l ∧
      t.handler = { s.handler with outcomes := s.handler.outcomes.note m.order r.code } ∧
      t.refusal = (if r.code.accepted = true then s.refusal
        else some { code := r.code, index := kind.toNat, valley := true }) ∧
      t.mode = { s.mode with window := s.mode.window.map Window.moved } ∧ t.upper = s.upper ∧ t.lower = s.lower := by
  obtain ⟨hline, hflag⟩ := State.lineChanged_effect (s.heardOrder.withLine l)
  obtain ⟨-, -, hmode⟩ := s.heardOrder_heard
  obtain ⟨u, hu⟩ : ∃ u, u = (s.heardOrder.withLine l).lineChanged := ⟨_, rfl⟩
  rw [← hu] at hline hflag hst
  obtain ⟨w, hw⟩ : ∃ w, w = u.noteResult r.code kind .valley := ⟨_, rfl⟩
  have href : w.refusal = if r.code.accepted = true then s.refusal
      else some { code := r.code, index := kind.toNat, valley := true } := by
    rw [hw, State.noteResult]
    split <;> simp [hu, Origin.isValley]
  have hreply : s.valleyCommand m kind own = w.withOutcome m.order r.code := by
    rw [State.valleyCommand_reply h hown, hst, hw]
  refine ⟨_, hreply, ⟨by simpa [State.withOutcome, hw] using hline, hflag.congr (by simp [State.withOutcome, hw]), ?_⟩, ?_,
    by simpa [State.withOutcome] using href, ?_⟩
  · simp [SameSetup, SameRadio, State.withOutcome, hw, hu]
  · simp [State.withOutcome, hw, hu]
  · simp [State.withOutcome, hw, hu, hmode]

/-- The record of an accepted order and of a refused one (R133, R168). -/
theorem outcome_accepted {s t : State} {kind order : Octet} {code : ResultCode} (hcode : code.accepted = true)
    (hhandler : t.handler = { s.handler with outcomes := s.handler.outcomes.note order code })
    (href : t.refusal = if code.accepted = true then s.refusal
      else some { code := code, index := kind.toNat, valley := true }) :
    t.handler = { s.handler with outcomes := s.handler.outcomes.acceptedBy order } ∧ t.refusal = s.refusal := by
  rw [Outcomes.note_accepted _ _ hcode] at hhandler
  rw [if_pos hcode] at href
  exact ⟨hhandler, href⟩

/-- A refused order is recorded, and beside hearing it nothing changes (R133, R168). -/
theorem State.valleyCommand_keeps_refused {s : State} {kind : Octet} {m : ValleyMsg} {own : State → Reply}
    {code : ResultCode} (h : s.takes kind m = true) (hown : own s.heardOrder = refuse code s.heardOrder)
    (hcode : code.accepted = false) :
    ∃ t, s.valleyCommand m kind own = t ∧ Heard s t ∧
      t.handler = { s.handler with outcomes := s.handler.outcomes.refusedBy m.order code } ∧
      t.refusal = some { code := code, index := kind.toNat, valley := true } ∧ t.line = s.line ∧ SameSetup s t ∧
      SameRadio s t ∧ t.token = s.token ∧ t.pos = s.pos ∧ t.doors = s.doors ∧ t.mon = s.mon ∧ t.upper = s.upper ∧
      t.lower = s.lower := by
  obtain ⟨hheard, hhandler, hsetup, hradio⟩ := State.orderRefused_heard kind m.order code s
  refine ⟨_, State.valleyCommand_refused h hown hcode, hheard, hhandler, by simp, by simp, hsetup, hradio, ?_⟩
  simp

/-! ## Lifts -/

theorem LineStore.restriction_isNone {l : LineStore} {id : Nat} :
    l.restriction id = none ↔ ∀ r ∈ l.restrictions, r.id ≠ id := by
  simp [LineStore.restriction]

theorem readId_cons (id : Octet) (rest : List Octet) :
    readId (id :: rest) = if id = 0#8 then none else some id.toNat := by
  have hzero : id.toNat = 0 ↔ id = 0#8 := by simp [← BitVec.toNat_inj]
  simp [readId, hzero]

/-- The list without the entry of an id. -/
def LineStore.without (l : LineStore) (id : Nat) : LineStore :=
  { l with restrictions := l.restrictions.filter fun r => decide (r.id ≠ id) }

theorem LineStore.mem_without {l : LineStore} {id : Nat} {x : Restriction} :
    x ∈ (l.without id).restrictions ↔ x ∈ l.restrictions ∧ x.id ≠ id := by
  simp [LineStore.without]

/-- What LIFT leaves with its result code (R46). -/
def LiftLeaves (s t : State) (m : ValleyMsg) (id : Octet) (code : ResultCode) : Prop :=
  t.handler = { s.handler with outcomes :=
      if code = .ok then s.handler.outcomes.acceptedBy m.order else s.handler.outcomes.refusedBy m.order code } ∧
    t.refusal = (if code = .ok then s.refusal else some { code := code, index := 35, valley := true }) ∧
    (code = .ok →
      (∀ x, x ∈ t.line.restrictions ↔ x ∈ s.line.restrictions ∧ x.id ≠ id.toNat) ∧ Flagged t .lineRecord) ∧
    (code ≠ .ok → t.line = s.line) ∧ t.line.overflow = s.line.overflow ∧
    SameSetup s t ∧ SameRadio s t ∧ t.token = s.token ∧ t.pos = s.pos ∧
    t.doors = s.doors ∧ t.mon = s.mon ∧ t.upper = s.upper ∧ t.lower = s.lower

theorem exec_lift_refused {s : State} {m : ValleyMsg} {code : ResultCode} (id : Octet) (h : s.takes 35#8 m = true)
    (hown : ownLift m.payload s.heardOrder = refuse code s.heardOrder) (hne : code ≠ .ok)
    (hcode : code.accepted = false) : ∃ t, exec (.lift m) s = .next t ∧ LiftLeaves s t m id code := by
  obtain ⟨t, hexec, -, hhandler, href, hline, hsetup, hradio, hrest⟩ := State.valleyCommand_keeps_refused h hown hcode
  refine ⟨t, congrArg Host.Outcome.next hexec, ?_⟩
  rw [LiftLeaves, if_neg hne, if_neg hne]
  exact ⟨hhandler, href, fun ho => absurd ho hne, fun _ => hline, by rw [hline], hsetup, hradio, hrest⟩

theorem exec_lift_accepted {s : State} {m : ValleyMsg} {id : Octet} (h : s.takes 35#8 m = true)
    (hown : ownLift m.payload s.heardOrder =
      accept ((s.heardOrder.withLine (s.line.without id.toNat)).lineChanged)) :
    ∃ t, exec (.lift m) s = .next t ∧ LiftLeaves s t m id .ok := by
  obtain ⟨t, hexec, ⟨hline, hflag, hsetup, hradio, htoken, hpos, hdoors, hmon⟩, hhandler, href, -, hports⟩ :=
    State.valleyCommand_writes h hown rfl
  obtain ⟨hhandler, href⟩ := outcome_accepted rfl hhandler href
  refine ⟨t, congrArg Host.Outcome.next hexec, ?_⟩
  rw [LiftLeaves, if_pos rfl, if_pos rfl]
  refine ⟨hhandler, href, fun _ => ⟨fun x => ?_, hflag⟩, fun ho => absurd rfl ho, by rw [hline]; rfl, hsetup, hradio,
    htoken, hpos, hdoors, hmon, hports⟩
  rw [show t.line.restrictions = (s.line.without id.toNat).restrictions by rw [hline]]
  exact LineStore.mem_without

/-- Settles O26: a lift is refused by the first condition it fails, and else filters the list. -/
theorem liftsRemoveWhatTheyName : Obligations.LiftsRemoveWhatTheyName := by
  intro s id rest
  have hread := readId_cons id rest
  refine ⟨fun m h hpayload => ?_, fun m h hpayload => ?_, fun m h => ?_⟩
  · have hline : (s.heard m.cab).line = s.line := by simp
    have hrefuse : ∀ code, ownCabLift m.cab m.payload (s.heard m.cab) = refuse code (s.heard m.cab) →
        code.accepted = false → exec (.cabLift m) s = .next (s.refused 22#8 m code) := fun code hown hcode =>
      congrArg Host.Outcome.next (State.cabCommand_refused h hown hcode)
    split
    · next hprofile => exact hrefuse .stateFails (by rw [ownCabLift, hline, if_pos hprofile]) rfl
    · next hprofile =>
      split
      · next hzero =>
        refine hrefuse .range ?_ rfl
        simp only [ownCabLift, hline, if_neg hprofile, hpayload, hread, if_pos hzero]
      · next hzero =>
        rw [if_neg hzero] at hread
        split
        · next hnone =>
          refine hrefuse .unknownId ?_ rfl
          simp only [ownCabLift, hline, if_neg hprofile, hpayload, hread, hnone]
        · next r hsome =>
          split
          · next horigin =>
            refine hrefuse .origin ?_ rfl
            simp only [ownCabLift, hline, if_neg hprofile, hpayload, hread, hsome, if_neg horigin]
          · next horigin =>
            have hown : ownCabLift m.cab m.payload (s.heard m.cab) =
                { st := ((s.heard m.cab).withLine (s.line.without id.toNat)).lineChanged, code := .ok,
                  body := listBody } := by
              simp only [ownCabLift, hline, if_neg hprofile, hpayload, hread, hsome, if_pos (Classical.not_not.1 horigin)]
              rw [← hline]
              rfl
            obtain ⟨t, hexec, ⟨hlineT, hflag, hsetup, hradio, hrest⟩, hanswers, href, hhandler, hmode⟩ :=
              State.cabCommand_writes (payload := [oct (s.line.without id.toNat).restrictions.length]) h hown
                fun t ht => by rw [listBody, ht]
            have hlist : t.line.restrictions = (s.line.without id.toNat).restrictions := by rw [hlineT]
            refine ⟨t, congrArg Host.Outcome.next hexec, hlist ▸ hanswers, fun x => ?_, by rw [hlineT]; rfl, hflag, hsetup,
              hradio, href, ?_⟩
            · rw [hlist]
              exact LineStore.mem_without
            · simp only [hrest, hhandler, hmode, and_self]
  · have hline : s.heardOrder.line = s.line := by simp
    by_cases hprofile : s.line.profile ≠ .valid
    · obtain ⟨t, hexec, hleaves⟩ := exec_lift_refused (code := .stateFails) id h
        (by rw [ownLift, hline, if_pos hprofile]) (by decide) rfl
      exact ⟨t, _, hexec, by rw [if_pos hprofile], hleaves⟩
    · by_cases hzero : id = 0#8
      · obtain ⟨t, hexec, hleaves⟩ := exec_lift_refused (code := .range) id h
          (by simp only [ownLift, hline, if_neg hprofile, hpayload, hread, if_pos hzero]) (by decide) rfl
        exact ⟨t, _, hexec, by rw [if_neg hprofile, if_pos hzero], hleaves⟩
      · rw [if_neg hzero] at hread
        cases hheld : s.line.restriction id.toNat with
        | none =>
          obtain ⟨t, hexec, hleaves⟩ := exec_lift_refused (code := .unknownId) id h
            (by simp only [ownLift, hline, if_neg hprofile, hpayload, hread, hheld]) (by decide) rfl
          exact ⟨t, _, hexec, by rw [if_neg hprofile, if_neg hzero, if_pos rfl], hleaves⟩
        | some r =>
          have hown : ownLift m.payload s.heardOrder =
              accept ((s.heardOrder.withLine (s.line.without id.toNat)).lineChanged) := by
            simp only [ownLift, hline, if_neg hprofile, hpayload, hread, hheld]
            rw [← hline]
            rfl
          obtain ⟨t, hexec, hleaves⟩ := exec_lift_accepted h hown
          exact ⟨t, _, hexec, by rw [if_neg hprofile, if_neg hzero, if_neg (by simp)], hleaves⟩
  · have hown : ownClearOverflow s.heardOrder =
        accept ((s.heardOrder.withLine { s.line with overflow := none }).lineChanged) := by
      have hline : s.heardOrder.line = s.line := by simp
      rw [ownClearOverflow, hline]
    obtain ⟨t, hexec, ⟨hline, hflag, hsetup, hradio, htoken, hpos, hdoors, hmon⟩, hhandler, href, -, hports⟩ :=
      State.valleyCommand_writes h hown rfl
    obtain ⟨hhandler, href⟩ := outcome_accepted rfl hhandler href
    exact ⟨t, congrArg Host.Outcome.next hexec, by rw [hline], by rw [hline], hflag, hhandler, hsetup, hradio, href,
      htoken, hpos, hdoors, hmon, hports⟩

end Sys2Proof.Machine

/-! SUPPORT. Insertions into the restriction list: the fields carried, the clip, the list after it, and the fold of one that
finds the list full. -/

namespace Sys2Proof.Machine

/-! ## The entry carried -/

theorem readInsertion_carried {id start stop limit : Nat} (rest : List Octet) (hid : id ≤ 255) (hstart : start ≤ 16777215)
    (hstop : stop ≤ 16777215) (hlimit : limit ≤ 65535) :
    readInsertion (oct id :: oct3 start ++ oct3 stop ++ oct2 limit ++ rest) =
      some { id := id, start := start, stop := stop, limit := limit } := by
  have hnum : (oct id).toNat = id := by
    simp only [oct, BitVec.toNat_ofNat]
    omega
  simp [readInsertion, oct3, oct2, hnum, num3_oct3 (n := start) (by omega), num3_oct3 (n := stop) (by omega),
    num2_oct2 (n := limit) (by omega)]

/-- The span described by an insertion: in range, not empty, and begun before the line end (R40). -/
def Insertion.describes (n : Insertion) (lineEnd : Nat) : Prop :=
  n.start ≤ 99999 ∧ n.stop ≤ 99999 ∧ n.start < n.stop ∧ n.start < lineEnd

theorem Insertion.clip_describes {n : Insertion} {e : Nat} (h : n.describes e) :
    n.clip e = some { n with stop := min n.stop e, limit := min n.limit 1200 } := by
  obtain ⟨hstart, hstop, hspan, hend⟩ := h
  rw [Insertion.clip, if_neg (by simp only [positionMax]; omega), if_neg (by omega), if_neg (by omega)]
  rfl

theorem Insertion.clip_none {n : Insertion} {e : Nat} (h : ¬ n.describes e) : n.clip e = none := by
  unfold Insertion.clip
  split
  · rfl
  · next hrange =>
    split
    · rfl
    · next hspan =>
      split
      · rfl
      · next hend => exact absurd ⟨by simp only [positionMax] at hrange; omega, by simp only [positionMax] at hrange; omega,
          by omega, by omega⟩ h

theorem State.listFull_iff {s : State} {id : Nat} (hid : id ≤ 255) (tail : List Octet) :
    s.listFull (oct id :: tail) = true ↔ 16 ≤ s.line.restrictions.length ∧ ∀ r ∈ s.line.restrictions, r.id ≠ id := by
  have hnum : (oct id).toNat = id := by
    simp only [oct, BitVec.toNat_ofNat]
    omega
  rw [State.listFull, hnum, Bool.and_eq_true, Option.isNone_iff_eq_none, LineStore.restriction_isNone]
  exact and_congr_left' decide_eq_true_iff

/-! ## The list after an insertion -/

theorem mem_insertRestriction_iff {r x : Restriction} {l : List Restriction} (h : l.Pairwise fun a b => a.id < b.id) :
    x ∈ insertRestriction r l ↔ x = r ∨ (x ∈ l ∧ x.id ≠ r.id) := by
  induction l with
  | nil => simp [insertRestriction]
  | cons y rest ih =>
    obtain ⟨hy, hrest⟩ := List.pairwise_cons.1 h
    simp only [insertRestriction]
    split
    · next hlt =>
      have habove : ∀ z ∈ y :: rest, z.id ≠ r.id := fun z hz => by
        rcases List.mem_cons.1 hz with rfl | hz
        · omega
        · have := hy z hz
          omega
      rw [List.mem_cons]
      exact or_congr_right ⟨fun hx => ⟨hx, habove x hx⟩, fun hx => hx.1⟩
    · split
      · next heq =>
        have hother : ∀ z ∈ rest, z.id ≠ r.id := fun z hz => by
          have := hy z hz
          omega
        simp only [List.mem_cons]
        constructor
        · rintro (hx | hx)
          · exact .inl hx
          · exact .inr ⟨.inr hx, hother x hx⟩
        · rintro (hx | ⟨rfl | hx, hne⟩)
          · exact .inl hx
          · exact absurd heq.symm hne
          · exact .inr hx
      · next hne =>
        simp only [List.mem_cons, ih hrest]
        constructor
        · rintro (rfl | hx | ⟨hx, hid⟩)
          · exact .inr ⟨.inl rfl, fun h => hne h.symm⟩
          · exact .inl hx
          · exact .inr ⟨.inr hx, hid⟩
        · rintro (hx | ⟨rfl | hx, hid⟩)
          · exact .inr (.inl hx)
          · exact .inl rfl
          · exact .inr (.inr ⟨hx, hid⟩)

/-- The line record with an entry in its place in id order (R41). -/
def LineStore.inserted (l : LineStore) (r : Restriction) : LineStore :=
  { l with restrictions := insertRestriction r l.restrictions }

theorem LineStore.inserted_restrictions {l : LineStore} {r : Restriction} (hlength : l.restrictions.length ≤ 16)
    (hordered : l.restrictions.Pairwise fun a b => a.id < b.id)
    (hroom : l.restrictions.length < 16 ∨ ∃ x ∈ l.restrictions, x.id = r.id) :
    (∀ x, x ∈ (l.inserted r).restrictions ↔ x = r ∨ (x ∈ l.restrictions ∧ x.id ≠ r.id)) ∧
      (l.inserted r).restrictions.length ≤ 16 ∧
      (l.inserted r).restrictions.Pairwise fun a b => a.id < b.id := by
  refine ⟨fun x => mem_insertRestriction_iff hordered, ?_, insertRestriction_ordered hordered⟩
  obtain ⟨hmost, hsame⟩ := insertRestriction_length (r := r) (l := l.restrictions)
  change (insertRestriction r l.restrictions).length ≤ 16
  rcases hroom with hroom | hheld
  · omega
  · rw [hsame hheld hordered]
    exact hlength

/-- The entry an insertion stores: its end brought down to the line end, its limit to 1,200 (R40, R41). -/
def Insertion.entry (n : Insertion) (o : Origin) (lineEnd : Nat) : Restriction :=
  { id := n.id, start := n.start, stop := min n.stop lineEnd, limit := min n.limit 1200, origin := o }

/-- The result of an insertion stored: CLAMPED where a value was brought down (R41). -/
def Insertion.result (n : Insertion) (lineEnd : Nat) : ResultCode :=
  if n.stop ≤ lineEnd ∧ n.limit ≤ 1200 then .ok else .clamped

theorem Insertion.result_accepted (n : Insertion) (e : Nat) : (n.result e).accepted = true := by
  unfold Insertion.result
  split <;> rfl

/-- An insertion with room, an id and a span writes and reports the clipped entry (R40, R41). -/
theorem ownInsert_stores (o : Origin) {p : List Octet} {n : Insertion} {s : State} (hvalid : s.line.profile = .valid)
    (hfull : s.listFull p = false) (hread : readInsertion p = some n) (hid : n.id ≠ 0) (hspan : n.describes s.line.lineEnd) :
    ownInsert o p s =
      { st := (s.withLine (s.line.inserted (n.entry o s.line.lineEnd))).lineChanged
        code := n.result s.line.lineEnd
        body := insertedBody n.id } := by
  have hsame : { n with stop := min n.stop s.line.lineEnd, limit := min n.limit 1200 } = n ↔
      n.stop ≤ s.line.lineEnd ∧ n.limit ≤ 1200 := by
    cases n
    simp only [Insertion.mk.injEq, true_and]
    omega
  simp only [ownInsert, if_neg (Classical.not_not.2 hvalid), hfull, hread, insertEntry, if_neg hid,
    Insertion.clip_describes hspan, hsame, Bool.false_eq_true, if_false]
  rfl

/-- An insertion is refused without a committed profile, and with room by a field out of range (R39, R40). -/
theorem ownInsert_refuses {o : Origin} {p : List Octet} {n : Insertion} {s : State} {code : ResultCode}
    (hread : readInsertion p = some n)
    (h : (s.line.profile ≠ .valid ∧ code = .stateFails) ∨
      (s.line.profile = .valid ∧ code = .range ∧ s.listFull p = false ∧ (n.id = 0 ∨ ¬ n.describes s.line.lineEnd))) :
    ownInsert o p s = refuse code s ∧ code.accepted = false := by
  rcases h with ⟨hprofile, rfl⟩ | ⟨hvalid, rfl, hfull, hbad⟩
  · exact ⟨by rw [ownInsert, if_pos hprofile], rfl⟩
  · refine ⟨?_, rfl⟩
    simp only [ownInsert, hvalid, ne_eq, not_true_eq_false, if_false, hfull, hread, insertEntry, Bool.false_eq_true]
    by_cases hid : n.id = 0
    · rw [if_pos hid]
    · rw [if_neg hid, Insertion.clip_none (hbad.resolve_left hid)]

theorem State.listFull_room {s : State} {id : Nat} (hid : id ≤ 255) (tail : List Octet)
    (hroom : s.line.restrictions.length < 16 ∨ ∃ r ∈ s.line.restrictions, r.id = id) :
    s.listFull (oct id :: tail) = false := by
  rw [← Bool.not_eq_true, State.listFull_iff hid]
  rintro ⟨hlength, hnone⟩
  rcases hroom with hroom | ⟨r, hr, hheld⟩
  · omega
  · exact hnone r hr hheld

/-- Settles O24: the clipped entry takes its place in the list of a valid profile, and every other insertion with room is
refused. -/
theorem insertionStoresTheClippedEntry : Obligations.InsertionStoresTheClippedEntry := by
  intro s id start stop limit rest hid hstart hstop hlimit
  obtain ⟨n, hn⟩ : ∃ n : Insertion, n = { id := id, start := start, stop := stop, limit := limit } := ⟨_, rfl⟩
  have hread := readInsertion_carried rest hid hstart hstop hlimit
  have hroomy : ∀ t : State, t.line = s.line →
      (s.line.restrictions.length < 16 ∨ ∃ r ∈ s.line.restrictions, r.id = id) →
      t.listFull (oct id :: oct3 start ++ oct3 stop ++ oct2 limit ++ rest) = false := fun t ht hroom =>
    t.listFull_room hid _ (ht ▸ hroom)
  rw [← hn] at hread
  have hheard : ∀ c, (s.heard c).line = s.line := fun c => by simp
  have horder : s.heardOrder.line = s.line := by simp
  refine ⟨fun hvalid hlaw hroom hpos hspan hmax hend => ?_, fun code hcode => ?_⟩
  · obtain ⟨hlength, hordered⟩ := hlaw
    have hne : n.id ≠ 0 := by rw [hn]; exact Nat.ne_of_gt hpos
    have hdescribes : n.describes s.line.lineEnd := by
      rw [hn]
      exact ⟨by dsimp only; omega, hmax, hspan, hend⟩
    have hlists := fun o => LineStore.inserted_restrictions (r := n.entry o s.line.lineEnd) hlength hordered (by
      simpa [hn, Insertion.entry] using hroom)
    refine ⟨fun m h hpayload => ?_, fun m h hpayload => ?_⟩
    · have hown := ownInsert_stores (.cab m.cab) (s := s.heard m.cab) (by rw [hheard, hvalid])
        (hroomy _ (hheard _) hroom) hread hne (by rwa [hheard])
      rw [hheard] at hown
      obtain ⟨hmem, hlaw⟩ := hlists (.cab m.cab)
      obtain ⟨t, hexec, ⟨hline, hflag, hsetup, hradio, htoken, hpos, hdoors, hmon⟩, hanswers, href, hhandler, hmode⟩ :=
        State.cabCommand_writes (own := ownCabRestrict m.cab m.payload) h (hpayload ▸ hown)
          (payload := [oct n.id, oct (s.line.inserted (n.entry (.cab m.cab) s.line.lineEnd)).restrictions.length])
          fun t ht => by rw [insertedBody, ht]
      rw [if_pos (n.result_accepted _)] at href
      have hlist : t.line.restrictions = (s.line.inserted (n.entry (.cab m.cab) s.line.lineEnd)).restrictions := by rw [hline]
      rw [← hlist, hn] at hanswers
      refine ⟨t, congrArg Host.Outcome.next hexec, hanswers, fun x => ?_, ?_, by rw [hline]; rfl, hflag, hsetup, hradio, href,
        htoken, hpos, hdoors, hhandler, hmon, hmode⟩
      · rw [hlist, hmem, hn]
        rfl
      · rwa [RestrictionLaw, hlist]
    · have hown := ownInsert_stores .valley (s := s.heardOrder) (by rw [horder, hvalid])
        (hroomy _ horder hroom) hread hne (by rwa [horder])
      rw [horder] at hown
      obtain ⟨hmem, hlaw⟩ := hlists .valley
      obtain ⟨t, hexec, ⟨hline, hflag, hsetup, hradio, htoken, hpos, hdoors, hmon⟩, hhandler, href, hmode, hports⟩ :=
        State.valleyCommand_writes (own := ownRestrict m.payload) h (hpayload ▸ hown) rfl
      obtain ⟨hhandler, href⟩ := outcome_accepted (n.result_accepted _) hhandler href
      have hlist : t.line.restrictions = (s.line.inserted (n.entry .valley s.line.lineEnd)).restrictions := by rw [hline]
      refine ⟨t, congrArg Host.Outcome.next hexec, hmode, hhandler, fun x => ?_, ?_, by rw [hline]; rfl, hflag, hsetup, hradio,
        href, htoken, hpos, hdoors, hmon, hports⟩
      · rw [hlist, hmem, hn]
        rfl
      · rwa [RestrictionLaw, hlist]
  · have hrefuses : ∀ (o : Origin) (t : State), t.line = s.line →
        ownInsert o (oct id :: oct3 start ++ oct3 stop ++ oct2 limit ++ rest) t = refuse code t ∧ code.accepted = false := by
      intro o t ht
      refine ownInsert_refuses hread ?_
      rw [ht]
      rcases hcode with hcode | ⟨hvalid, hrange, hroom, hbad⟩
      · exact .inl hcode
      · refine .inr ⟨hvalid, hrange, hroomy t ht hroom, hbad.imp (fun h => by rw [hn]; exact h) fun hbad hd => ?_⟩
        rw [hn] at hd
        obtain ⟨h1, h2, h3, h4⟩ := hd
        dsimp only at h1 h2 h3 h4
        omega
    refine ⟨fun m h hpayload => ?_, fun m h hpayload => ?_⟩
    · obtain ⟨hown, haccepted⟩ := hrefuses (.cab m.cab) (s.heard m.cab) (hheard _)
      exact congrArg Host.Outcome.next
        (State.cabCommand_refused (own := ownCabRestrict m.cab m.payload) h (hpayload ▸ hown) haccepted)
    · obtain ⟨hown, haccepted⟩ := hrefuses .valley s.heardOrder horder
      obtain ⟨t, hexec, hrest⟩ :=
        State.valleyCommand_keeps_refused (own := ownRestrict m.payload) h (hpayload ▸ hown) haccepted
      exact ⟨t, congrArg Host.Outcome.next hexec, hrest⟩

end Sys2Proof.Machine

/-! SUPPORT. The fold of an insertion that finds the list full. -/

namespace Sys2Proof.Machine

/-! ## The LINE_RECORD flags as an order is heard -/

/-- The LINE_RECORD flags of both cabs. -/
def State.lineFlags (s : State) : Bool × Bool := (s.flags.upper.lineRecord, s.flags.lower.lineRecord)

theorem State.lineFlags_congr {s t : State} (h : t.flags = s.flags) : t.lineFlags = s.lineFlags := by
  simp [State.lineFlags, h]

theorem State.flag_lineFlags {k : FlagKind} (hk : k ≠ .lineRecord) (s : State) : (s.flag k).lineFlags = s.lineFlags := by
  cases k
  case lineRecord => exact absurd rfl hk
  all_goals rfl

@[simp] theorem State.settleOutputs_lineFlags (s : State) : s.settleOutputs.lineFlags = s.lineFlags := by
  unfold State.settleOutputs
  dsimp only
  split
  · exact State.lineFlags_congr (by simp)
  · exact (State.flag_lineFlags (by decide) _).trans (State.lineFlags_congr (by simp))

@[simp] theorem State.setBrake_lineFlags (b : BrakeId) (x : BrakeState) (s : State) :
    (s.setBrake b x).lineFlags = s.lineFlags := by
  unfold State.setBrake
  split
  · rfl
  · have hsync : ∀ t : State, t.syncRollaway.syncReadback.lineFlags = t.lineFlags := fun t =>
      State.lineFlags_congr (by simp)
    refine (hsync _).trans ((State.settleOutputs_lineFlags _).trans ?_)
    exact (State.flag_lineFlags (by decide) _).trans (State.lineFlags_congr (by simp))

@[simp] theorem State.applyCmd_lineFlags (b : BrakeId) (s : State) : (s.applyCmd b).lineFlags = s.lineFlags := by
  unfold State.applyCmd
  split
  case h_1 | h_2 =>
    dsimp only
    split <;> simp
  all_goals rfl

@[simp] theorem State.setTerms_lineFlags (t : Terms) (s : State) : (s.setTerms t).lineFlags = s.lineFlags := by
  have hset : (s.withBrk { s.brk with terms := t }).settleOutputs.lineFlags = s.lineFlags :=
    (State.settleOutputs_lineFlags _).trans (State.lineFlags_congr (by simp))
  unfold State.setTerms
  dsimp only
  split <;> simp [hset]

@[simp] theorem State.joinCause_lineFlags (k : CauseKind) (s : State) : (s.joinCause k).lineFlags = s.lineFlags := by
  have htake : (s.takeCause k).lineFlags = s.lineFlags := by
    refine (State.applyCmd_lineFlags .rack _).trans ((State.setTerms_lineFlags _ _).trans ?_)
    exact (State.flag_lineFlags (by decide) _).trans (State.lineFlags_congr (by simp))
  have halarm : ∀ t : State, (t.offerAlarm k).lineFlags = t.lineFlags := fun t => State.lineFlags_congr (by simp)
  rw [State.joinCause_eq, halarm]
  split <;> simp [htake]

theorem State.addCause_lineFlags {k : CauseKind} (hk : k ≠ .rollaway) (s : State) :
    (s.addCause k).lineFlags = s.lineFlags := by
  rw [State.addCause_eq hk]
  split <;> simp

@[simp] theorem State.eoaTest_lineFlags (s : State) : s.eoaTest.lineFlags = s.lineFlags := by
  have hsup : ∀ (t : State) (x : Supervision), (t.withSup x).lineFlags = t.lineFlags := fun t x => rfl
  unfold State.eoaTest
  split
  · exact hsup _ _
  · split
    · split
      · rfl
      · exact (hsup _ _).trans (State.addCause_lineFlags (by decide) s)
    · exact hsup _ _

@[simp] theorem State.setSupState_lineFlags (x : SupState) (s : State) : (s.setSupState x).lineFlags = s.lineFlags := by
  have hset : ∀ t, (((s.withSup { s.sup with state := x }).flag .supervision).setTerms t).lineFlags = s.lineFlags := fun t =>
    (State.setTerms_lineFlags _ _).trans
      ((State.flag_lineFlags (by decide) _).trans (State.lineFlags_congr (by simp)))
  unfold State.setSupState
  dsimp only
  split
  · rfl
  · split
    · exact (State.addCause_lineFlags (by decide) _).trans (hset _)
    · exact hset _

@[simp] theorem State.evalCore_lineFlags (s : State) : s.evalCore.lineFlags = s.lineFlags :=
  (State.setSupState_lineFlags _ _).trans ((State.eoaTest_lineFlags _).trans (State.lineFlags_congr (by simp)))

/-- The contact LIVE is no change of the line record (R55, R57). -/
theorem State.heardOrder_lineFlags (s : State) : s.heardOrder.lineFlags = s.lineFlags := by
  obtain ⟨u, hu⟩ : ∃ u : State, u = s.windowMoves.withContact { s.windowMoves.contact with value := 0 } := ⟨_, rfl⟩
  have hbefore : u.lineFlags = s.lineFlags := State.lineFlags_congr (by simp [hu, State.windowMoves])
  have hheard : s.heardOrder = u.setContactState .live := by rw [hu]; rfl
  rw [hheard, ← hbefore]
  unfold State.setContactState
  split
  · rfl
  · refine (State.evalCore_lineFlags _).trans ((State.setTerms_lineFlags _ _).trans ?_)
    exact (State.flag_lineFlags (by decide) _).trans (State.lineFlags_congr (by simp))

/-! ## The fold -/

/-- The clipped fields of an insertion (R40). -/
def Insertion.clipped (n : Insertion) (lineEnd : Nat) : Insertion :=
  { n with stop := min n.stop lineEnd, limit := min n.limit 1200 }

theorem ownInsert_full (o : Origin) {p : List Octet} {n : Insertion} {s : State} (hvalid : s.line.profile = .valid)
    (hfull : s.listFull p = true) (hread : readInsertion p = some n) :
    ownInsert o p s = refuseFull (some n) s := by
  rw [ownInsert, if_neg (Classical.not_not.2 hvalid), if_pos hfull, hread]

theorem refuseFull_describes {n : Insertion} {s : State} (h : n.describes s.line.lineEnd) :
    refuseFull (some n) s = { st := s.fold (n.clipped s.line.lineEnd), code := .full, body := overflowBody } := by
  simp only [refuseFull, Option.bind_some, Insertion.clip_describes h]
  rfl

theorem refuseFull_none {n : Insertion} {s : State} (h : ¬ n.describes s.line.lineEnd) :
    refuseFull (some n) s = { st := s, code := .full, body := overflowBody } := by
  simp only [refuseFull, Option.bind_some, Insertion.clip_none h]

/-- The overflow record as an answer FULL shows it (Table 12-3). -/
def Overflow.shown (o : Overflow) : List Octet := 1#8 :: oct3 o.start ++ oct3 o.stop ++ oct2 o.limit ++ [oct o.folded]

theorem overflowBody_some {s : State} {o : Overflow} (h : s.line.overflow = some o) : overflowBody s = o.shown := by
  simp only [overflowBody, h]
  rfl

/-- A refusal answered with a payload (R132, R133). -/
theorem answers_withRefusal (s : State) (kind : Octet) (m : CabMsg) (code : ResultCode) (p : List Octet)
    (r : Option Refused) : Answers s ((s.withRefusal r).answer kind m code p) kind m code p := by
  have hport : ∀ c, (s.withRefusal r).port c = s.port c := State.port_congr rfl rfl
  have hanswered : (s.withRefusal r).answered kind m code p = s.answered kind m code p := by
    simp only [State.answered, hport]
  rw [State.answer, hanswered]
  exact answers_withPort (hport _)

/-- Settles O25: FULL is answered and recorded, and the fold is reported where it changes the record. -/
theorem fullInsertionFoldsIntoTheOverflow : Obligations.FullInsertionFoldsIntoTheOverflow := by
  intro s id start stop limit rest hvalid hlength hother hid hstart hstop hlimit
  obtain ⟨n, hn⟩ : ∃ n : Insertion, n = { id := id, start := start, stop := stop, limit := limit } := ⟨_, rfl⟩
  obtain ⟨p, hp⟩ : ∃ p, p = oct id :: oct3 start ++ oct3 stop ++ oct2 limit ++ rest := ⟨_, rfl⟩
  have hread := readInsertion_carried rest hid hstart hstop hlimit
  have hfull : ∀ t : State, t.line = s.line → t.listFull p = true := fun t ht =>
    hp ▸ (State.listFull_iff hid _).2 (ht ▸ ⟨hlength, hother⟩)
  rw [← hp, ← hn] at hread
  rw [← hp]
  have hheard : ∀ c, (s.heard c).line = s.line := fun c => by simp
  have horder : s.heardOrder.line = s.line := by simp
  have hown : ∀ (o : Origin) (t : State), t.line = s.line → ownInsert o p t = refuseFull (some n) t := fun o t ht =>
    ownInsert_full o (ht ▸ hvalid) (hfull t ht) hread
  refine ⟨fun hspan hmax hend o ho => ?_, fun hbad => ?_⟩
  · have hdescribes : n.describes s.line.lineEnd := by
      rw [hn]
      exact ⟨by dsimp only; omega, hmax, hspan, hend⟩
    have hfold : foldOverflow s.line.overflow (n.clipped s.line.lineEnd) = o := by
      rw [ho, hn]
      cases s.line.overflow <;> rfl
    obtain ⟨l, hl⟩ : ∃ l : LineStore, l = { s.line with overflow := some o } := ⟨_, rfl⟩
    have hreply : ∀ (c : Origin) (t : State), t.line = s.line →
        (s.line.overflow = some o → ownInsert c p t = { st := t, code := .full, body := overflowBody }) ∧
        (s.line.overflow ≠ some o →
          ownInsert c p t = { st := (t.withLine l).lineChanged, code := .full, body := overflowBody }) := fun c t ht => by
      rw [hown c t ht, refuseFull_describes (ht ▸ hdescribes)]
      rcases State.fold_cases (n.clipped t.line.lineEnd) t with ⟨hsame, hkept⟩ | ⟨hdiffers, hwritten⟩
      · rw [ht, hfold] at hsame
        exact ⟨fun _ => by rw [hkept], fun hne => absurd hsame hne⟩
      · rw [ht, hfold] at hdiffers hwritten
        exact ⟨fun heq => absurd heq hdiffers, fun _ => by rw [ht, hwritten, hl]⟩
    refine ⟨fun m h hpayload => ?_, fun m h hpayload => ?_⟩
    · obtain ⟨hkept, hwritten⟩ := hreply (.cab m.cab) (s.heard m.cab) (hheard _)
      rw [← hpayload] at hkept hwritten
      by_cases hsame : s.line.overflow = some o
      · have hexec := State.cabCommand_refusedWith (own := ownCabRestrict m.cab m.payload) (payload := o.shown) h
          (hkept hsame) rfl fun r => overflowBody_some (by simpa using hsame)
        refine ⟨_, congrArg Host.Outcome.next hexec, ?_, ?_, fun hne => absurd hsame hne, fun _ => rfl, ?_⟩
        · simp [State.answer, ← hsame]
        · exact answers_withRefusal s 21#8 m .full _ _
        · simp [State.answer, SameSetup, SameRadio]
      · obtain ⟨t, hexec, ⟨hline, hflag, hsetup, hradio, htoken, hpos, hdoors, hmon⟩, hanswers, href, hhandler, hmode⟩ :=
          State.cabCommand_writes (own := ownCabRestrict m.cab m.payload) (payload := o.shown) h (hwritten hsame)
            fun t ht => overflowBody_some (by rw [ht, hl])
        exact ⟨t, congrArg Host.Outcome.next hexec, hline.trans (by rw [hl]), hanswers, fun _ => hflag, fun heq => absurd heq hsame, href,
          hsetup, hradio, htoken, hpos, hdoors, hhandler, hmon, hmode⟩
    · obtain ⟨hkept, hwritten⟩ := hreply .valley s.heardOrder horder
      rw [← hpayload] at hkept hwritten
      by_cases hsame : s.line.overflow = some o
      · have hexec := State.valleyCommand_reply (own := ownRestrict m.payload) h (hkept hsame)
        dsimp only at hexec
        rw [State.withOutcome_refused rfl] at hexec
        obtain ⟨hheardE, hhandler, hsetup, hradio⟩ := State.orderRefused_heard 34#8 m.order .full s
        have hflags := s.heardOrder_lineFlags
        simp only [State.lineFlags, Prod.mk.injEq] at hflags
        refine ⟨_, congrArg Host.Outcome.next hexec, ?_, fun hne => absurd hsame hne, fun _ => ⟨hheardE, ?_, ?_⟩, ?_, hhandler,
          hheardE.2.2, hsetup, hradio, ?_⟩
        · simp [← hsame]
        · simp
        · simpa using hflags
        · simp
        · simp
      · obtain ⟨t, hexec, ⟨hline, hflag, hsetup, hradio, htoken, hpos, hdoors, hmon⟩, hhandler, href, hmode, hports⟩ :=
          State.valleyCommand_writes (own := ownRestrict m.payload) h (hwritten hsame) rfl
        exact ⟨t, congrArg Host.Outcome.next hexec, hline.trans (by rw [hl]), fun _ => hflag, fun heq => absurd heq hsame, href, hhandler,
          hmode, hsetup, hradio, htoken, hpos, hdoors, hmon, hports⟩
  · have hnot : ¬ n.describes s.line.lineEnd := by
      rintro ⟨h1, h2, h3, h4⟩
      rw [hn] at h1 h2 h3 h4
      dsimp only at h1 h2 h3 h4
      omega
    have hreply : ∀ (c : Origin) (t : State), t.line = s.line →
        ownInsert c p t = { st := t, code := .full, body := overflowBody } := fun c t ht => by
      rw [hown c t ht, refuseFull_none (ht ▸ hnot)]
    refine ⟨fun m h hpayload => ?_, fun m h hpayload => ?_⟩
    · refine congrArg Host.Outcome.next (State.cabCommand_refusedWith (own := ownCabRestrict m.cab m.payload) h
        (hpayload ▸ hreply (.cab m.cab) (s.heard m.cab) (hheard _)) rfl fun r => ?_)
      cases hheld : s.line.overflow with
      | none => simp [overflowBody, hheld]
      | some o => exact overflowBody_some (by simpa using hheld)
    · have hexec := State.valleyCommand_reply (own := ownRestrict m.payload) h
        (hpayload ▸ hreply .valley s.heardOrder horder)
      dsimp only at hexec
      rw [State.withOutcome_refused rfl] at hexec
      obtain ⟨hheardE, hhandler, hsetup, hradio⟩ := State.orderRefused_heard 34#8 m.order .full s
      exact ⟨_, congrArg Host.Outcome.next hexec, hheardE, by simp, by simp, hhandler, hsetup, hradio, by simp⟩

end Sys2Proof.Machine

/-! SUPPORT. The grant of an authority: the causes an evaluation adds, and an authority that stays valid while the contact is
fresh. -/

namespace Sys2Proof.Machine

/-! ## The causes an evaluation adds -/

theorem State.setContactState_joined (x : ContactState) (s : State) : Joined 2 s (s.setContactState x) := by
  unfold State.setContactState
  split
  · exact .of_eq 2 rfl rfl
  · refine .trans (n := 0) (.of_eq 0 ?_ ?_) (State.evalCore_joined _)
    · dsimp only
      rw [(State.setTerms_effect _ _).2.1]
      split <;> simp
    · dsimp only
      split <;> simp

theorem State.judgeContact_joined (s : State) : Joined 2 s s.judgeContact := by
  unfold State.judgeContact
  split
  · exact .of_eq 2 rfl rfl
  · exact State.setContactState_joined _ s

theorem State.setShadow_joined (x : Bool) (s : State) : Joined 2 s (s.setShadow x) := by
  unfold State.setShadow
  split
  · exact .of_eq 2 rfl rfl
  · exact .trans (n := 0) (.of_eq 0 (by simp) (by simp)) (State.judgeContact_joined _)

theorem State.shadowTest_joined (s : State) : Joined 2 s s.shadowTest := by
  unfold State.shadowTest
  split
  · split
    · exact State.setShadow_joined _ s
    · exact .of_eq 2 rfl rfl
  · exact State.setShadow_joined false s

theorem State.evaluate_joined (s : State) : Joined 4 s s.evaluate := by
  unfold State.evaluate
  dsimp only
  split
  · exact (State.evalCore_joined s).trans (.of_eq 2 rfl rfl)
  · exact (State.evalCore_joined s).trans (State.shadowTest_joined _)

/-! ## A fresh contact -/

/-- The contact was heard at this moment. -/
def State.Fresh (s : State) : Prop :=
  s.contact.value = 0 ∧ s.contact.state = .live ∧ 0 < s.params.void ∧ 0 < s.params.shadowVoid

/-- A state other than VOID leaves the line record (R57). -/
theorem State.setContactState_line {x : ContactState} (hx : x ≠ .void) (s : State) : (s.setContactState x).line = s.line := by
  unfold State.setContactState
  dsimp only
  split
  · rfl
  · simp

theorem Params.contactState_fresh {p : Params} (hvoid : 0 < p.void) (hshadow : 0 < p.shadowVoid) (b : Bool) :
    p.contactState 0 b ≠ .void := by
  have hpos : ¬ p.voidMs b ≤ 0 := by
    cases b <;> simp [Params.voidMs] <;> omega
  rw [Params.contactState, if_neg hpos]
  split <;> simp

/-- A contact heard at this moment is not VOID under any shadow test (R55, R56). -/
theorem State.setShadow_line {s : State} (h : s.Fresh) (b : Bool) : (s.setShadow b).line = s.line := by
  obtain ⟨hvalue, hstate, hvoid, hshadow⟩ := h
  unfold State.setShadow
  split
  · rfl
  · simp only [hvalue, Nat.zero_min, ite_self, State.judgeContact]
    rw [if_neg (by simp [hstate])]
    refine (State.setContactState_line ?_ _).trans (by simp)
    simpa using Params.contactState_fresh hvoid hshadow b

theorem State.evaluate_line {s : State} (h : s.Fresh) : s.evaluate.line = s.line := by
  have hcore : s.evalCore.Fresh := by simpa [State.Fresh] using h
  have hline : s.evalCore.line = s.line := by simp
  unfold State.evaluate State.shadowTest
  dsimp only
  split
  · exact hline
  · split
    · split
      · exact (State.setShadow_line hcore _).trans hline
      · exact hline
    · exact (State.setShadow_line hcore _).trans hline

/-! ## The grant -/

theorem readGrant_carried (d : Dir) {eoa number version : Nat} (rest : List Octet) (heoa : eoa ≤ 16777215)
    (hnumber : number ≤ 255) (hversion : version ≤ 65535) :
    readGrant (oct (dirNum (some d)) :: oct3 eoa ++ oct number :: oct2 version ++ rest) =
      some { dirCode := dirNum (some d), eoa := eoa, number := number, version := version } := by
  have hnum : (oct number).toNat = number := by
    simp only [oct, BitVec.toNat_ofNat]
    omega
  have hdir : (oct (dirNum (some d))).toNat = dirNum (some d) := by cases d <;> rfl
  simp [readGrant, oct3, oct2, hnum, hdir, num3_oct3 (n := eoa) (by omega), num2_oct2 (n := version) (by omega)]

theorem dirOf_dirNum (d : Dir) : dirOf (dirNum (some d)) = some d := by cases d <;> rfl

theorem LineStore.duplicate_iff {l : LineStore} {number : Nat} :
    l.duplicate number = true ↔ ∃ a, l.authority = some a ∧ a.void = false ∧ a.number = number := by
  unfold LineStore.duplicate
  split
  · next a h => simp [h]
  · next h => simp [h]

theorem LineStore.turns_iff {l : LineStore} {d : Dir} :
    l.turns (dirNum (some d)) = true ↔ ∃ a, l.authority = some a ∧ a.dir ≠ d := by
  have hinj : ∀ e : Dir, dirNum (some e) = dirNum (some d) ↔ e = d := fun e => by cases e <;> cases d <;> simp [dirNum]
  unfold LineStore.turns
  split
  · next a h => simp [h, hinj]
  · next h => simp [h]

theorem Confidence.grants_iff (c : Confidence) : c.grants = false ↔ c = .unknown ∨ c = .declared := by
  cases c <;> simp [Confidence.grants]

/-- The code of an AUTHORITY with a direction, by the order of its conditions (R49). -/
theorem ownAuthority_cases {p : List Octet} {d : Dir} {g : Grant} (s : State) (hread : readGrant p = some g)
    (hdir : g.dirCode = dirNum (some d)) {code : ResultCode}
    (hcode : code = if s.line.profile ≠ .valid then .stateFails
      else if (∃ a, s.line.authority = some a ∧ a.void = false ∧ a.number = g.number) then .ok
      else if s.pos.confidence = .unknown ∨ s.pos.confidence = .declared then .stateFails
      else if g.version ≠ s.line.version then .version
      else if (∃ a, s.line.authority = some a ∧ a.dir ≠ d) ∧ s.pos.standstill = false then .stateFails
      else if s.line.lineEnd < g.eoa then .range
      else .ok) :
    (code ≠ .ok ∧ code.accepted = false ∧ ownAuthority p s = refuse code s) ∨
      (code = .ok ∧ (∃ a, s.line.authority = some a ∧ a.void = false ∧ a.number = g.number) ∧
        ownAuthority p s = accept s) ∨
      (code = .ok ∧ ¬ (∃ a, s.line.authority = some a ∧ a.void = false ∧ a.number = g.number) ∧
        ownAuthority p s = accept (s.takeAuthority { dir := d, eoa := g.eoa, number := g.number, void := false })) := by
  simp only [← LineStore.duplicate_iff, ← Confidence.grants_iff, ← LineStore.turns_iff] at hcode ⊢
  rw [← hdir] at hcode
  unfold ownAuthority
  simp only [hread]
  split at hcode
  · next h => exact .inl ⟨by simp [hcode], by simp [hcode, ResultCode.accepted], by rw [if_pos h, hcode]⟩
  · next hvalid =>
    rw [if_neg hvalid]
    split at hcode
    · next h => exact .inr (.inl ⟨hcode, h, by rw [if_pos h]⟩)
    · next hnew =>
      rw [if_neg hnew]
      split at hcode
      · next h => exact .inl ⟨by simp [hcode], by simp [hcode, ResultCode.accepted], by rw [if_pos h, hcode]⟩
      · next hgrants =>
        rw [if_neg hgrants, grantAuthority, hdir, dirOf_dirNum]
        split at hcode
        · next h => exact .inl ⟨by simp [hcode], by simp [hcode, ResultCode.accepted], by rw [if_pos h, hcode]⟩
        · next hversion =>
          rw [if_neg hversion]
          rw [hdir] at hcode
          split at hcode
          · next h => exact .inl ⟨by simp [hcode], by simp [hcode, ResultCode.accepted], by rw [if_pos h, hcode]⟩
          · next hturns =>
            rw [if_neg hturns]
            dsimp only
            split at hcode
            · next h => exact .inl ⟨by simp [hcode], by simp [hcode, ResultCode.accepted], by rw [if_pos h, hcode]⟩
            · next hend => exact .inr (.inr ⟨hcode, hnew, by rw [if_neg hend]⟩)

/-- A code that is judged by a chain of conditions, with what holds of it. -/
theorem exists_judged {c : ResultCode} {P : ResultCode → Prop} (h : ∀ code, code = c → P code) : ∃ code, code = c ∧ P code :=
  ⟨c, rfl, h c rfl⟩

/-- The authority stands as carried, with its void flag clear where the contact is fresh, and EOA_PASSED joins where its EOA
is passed (R50, R51, R80). -/
theorem State.takeAuthority_effect {a : Authority} {s : State} (ha : a.void = false) :
    Flagged (s.takeAuthority a) .lineRecord ∧
      (∃ b, (s.takeAuthority a).line.authority = some b ∧ b.dir = a.dir ∧ b.eoa = a.eoa ∧ b.number = a.number ∧
        (s.Fresh → b.void = false)) ∧
      (s.passedEoa a = true → (s.takeAuthority a).brk.causes.eoaPassed = true) := by
  obtain ⟨u, hu⟩ : ∃ u, u = (s.withLine { s.line with authority := some a }).withSup { s.sup with passedMark := false } :=
    ⟨_, rfl⟩
  obtain ⟨v, hv⟩ : ∃ v, v = if u.passedEoa a then u.addCause .eoaPassed else u := ⟨_, rfl⟩
  have htake : s.takeAuthority a = v.lineChanged := by rw [hv, hu]; rfl
  have hpassed : u.passedEoa a = s.passedEoa a := by
    rw [hu]
    rfl
  have hvparts : v.line = { s.line with authority := some a } ∧ v.contact = s.contact ∧ v.params = s.params := by
    rw [hv]
    split <;> simp [hu]
  obtain ⟨hvline, hvcontact, hvparams⟩ := hvparts
  obtain ⟨-, hflag⟩ := v.lineChanged_effect
  obtain ⟨-, -, -, -, -, hstored, -⟩ := State.record_parts (State.lineChanged_reacts v).record
  have hauthority : v.lineChanged.line.authority.map Authority.unvoided = some a.unvoided := by
    have := congrArg LineStore.authority hstored
    simpa [LineStore.stored, hvline] using this
  obtain ⟨b, hb, hsame⟩ : ∃ b, v.lineChanged.line.authority = some b ∧ b.unvoided = a.unvoided := by
    simpa using hauthority
  obtain ⟨hdir, heoa, hnumber⟩ : b.dir = a.dir ∧ b.eoa = a.eoa ∧ b.number = a.number := by
    simpa [Authority.unvoided] using hsame
  rw [htake]
  refine ⟨hflag, ⟨b, hb, hdir, heoa, hnumber, fun hfresh => ?_⟩, fun hp => ?_⟩
  · have hkept : v.lineChanged.line = v.line := by
      refine (State.evaluate_line ?_).trans (by simp)
      simpa [State.Fresh, hvcontact, hvparams] using hfresh
    rw [hkept, hvline] at hb
    cases hb
    exact ha
  · have hcause : v.brk.causes.has .eoaPassed = true := by
      rw [hv, hpassed, if_pos hp]
      exact (State.addCause_effect (by decide) u).1
    exact (State.evaluate_joined (v.flag .lineRecord)).grows .eoaPassed (by simpa using hcause)

/-- What an accepted order leaves that the handler alone wrote or that a line record's change reacts to. -/
theorem State.takeAuthority_sames (a : Authority) (s : State) :
    SameSetup s (s.takeAuthority a) ∧ SameRadio s (s.takeAuthority a) ∧ (s.takeAuthority a).refusal = s.refusal ∧
      (s.takeAuthority a).handler = s.handler ∧ (s.takeAuthority a).token = s.token ∧
      (s.takeAuthority a).pos = s.pos ∧ (s.takeAuthority a).doors = s.doors ∧ (s.takeAuthority a).mon = s.mon ∧
      (s.takeAuthority a).upper = s.upper ∧ (s.takeAuthority a).lower = s.lower ∧ (s.takeAuthority a).mode = s.mode := by
  unfold State.takeAuthority
  dsimp only
  split <;> simp [SameSetup, SameRadio]

/-- Settles O27: the first condition that fails is the code; a new authority is written as carried. -/
theorem authorityIsJudgedInOrder : Obligations.AuthorityIsJudgedInOrder := by
  intro s m d eoa number version rest h heoa hnumber hversion hpayload
  have hread := readGrant_carried d rest heoa hnumber hversion
  rw [← hpayload] at hread
  obtain ⟨hvalue, hlive, hmode⟩ := s.heardOrder_heard
  have hjudged := fun code => ownAuthority_cases s.heardOrder hread (d := d) rfl (code := code)
  simp only [State.heardOrder_frame] at hjudged
  obtain ⟨code, hcode, hcases⟩ := exists_judged hjudged
  rcases hcases with ⟨hne, hrefused, hown⟩ | ⟨hok, hdup, hown⟩ | ⟨hok, hnew, hown⟩
  · obtain ⟨hheard, hhandler, hsetup, hradio⟩ := State.orderRefused_heard 33#8 m.order code s
    refine ⟨_, code, congrArg Host.Outcome.next (State.valleyCommand_refused h hown hrefused), hcode, ?_, ?_,
      fun hok => absurd hok hne, fun _ => by simp, hsetup, hradio, ?_⟩
    · rw [if_neg hne, hhandler]
    · rw [if_neg hne]
      simp
    · simp [hmode]
  · refine ⟨_, code, congrArg Host.Outcome.next (State.valleyCommand_accepted h hown), hcode, ?_, ?_, fun _ => .inl hdup,
      fun _ => by simp, ?_⟩
    · rw [if_pos hok]
      simp
    · rw [if_pos hok]
      simp
    · simp [SameSetup, SameRadio, hmode]
  · obtain ⟨hflag, ⟨b, hb, hdir, heoa, hnumber, hvoid⟩, hpassed⟩ :=
      State.takeAuthority_effect (s := s.heardOrder) (a := { dir := d, eoa := eoa, number := number, void := false }) rfl
    obtain ⟨hsetup, hradio, href, hhandler, hrest⟩ := State.takeAuthority_sames
      { dir := d, eoa := eoa, number := number, void := false } s.heardOrder
    refine ⟨_, code, congrArg Host.Outcome.next (State.valleyCommand_accepted h hown), hcode, ?_, ?_, fun _ => ?_,
      fun hkept => ?_, ?_⟩
    · rw [if_pos hok]
      simp [hhandler]
    · rw [if_pos hok]
      simp [href]
    · refine .inr ⟨hflag.congr (by simp), ⟨b, by simpa using hb, hdir, heoa, hnumber, fun hv hs => hvoid ?_⟩, fun hpast => ?_⟩
      · exact ⟨hvalue, hlive, by simpa using hv, by simpa using hs⟩
      · have hpast : s.heardOrder.passedEoa { dir := d, eoa := eoa, number := number, void := false } = true := by
          cases d <;> simpa [State.passedEoa, State.upperEnd, State.lowerEnd] using hpast
        simpa using hpassed hpast
    · rcases hkept with hne | hdup
      · exact absurd hok hne
      · exact absurd hdup hnew
    · refine ⟨by simpa [SameSetup] using hsetup, by simpa [SameRadio] using hradio, ?_⟩
      simp [hrest, hmode]

end Sys2Proof.Machine

/-! SUPPORT. The transmit side: the octets a frame takes from the report queue, and the report and transfer timers. -/

namespace Sys2Proof.Machine

/-! ## The octets of the report queue -/

theorem Slot.octets_pos (x : Slot) : 0 < x.octets.length := by simp [Slot.octets, valleyOctets]

theorem Reports.nextOctets_append (carId : Octet) (a b : Nat) (r : Reports) :
    r.nextOctets carId (a + b) = ((r.nextOctets carId a).1 ++ ((r.nextOctets carId a).2.nextOctets carId b).1,
      ((r.nextOctets carId a).2.nextOctets carId b).2) := by
  induction a generalizing r with
  | zero => simp [Reports.nextOctets]
  | succ a ih =>
    rw [Nat.add_right_comm]
    simp only [Reports.nextOctets, ih, List.cons_append]

theorem Reports.nextOctets_empty (carId : Octet) (n : Nat) {r : Reports} (h : r.queue = []) :
    r.nextOctets carId n = (List.replicate n 0#8, r) := by
  induction n with
  | zero => rfl
  | succ n ih =>
    have hnext : r.nextOctet carId = (0#8, r) := by simp [Reports.nextOctet, h]
    simp only [Reports.nextOctets, hnext, ih, List.replicate_succ]

/-- A report being sent gives its next octet (R176). -/
theorem Reports.nextOctet_sending {r : Reports} {x : Slot} {rest : List Slot} (carId : Octet) (hqueue : r.queue = x :: rest)
    (hsending : x.sending = true) : r.nextOctet carId = (x.octets.getD x.given 0#8,
      if x.octets.length ≤ x.given + 1 then { r with queue := rest : Reports }.slotFreed carId
      else { r with queue := { x with given := x.given + 1 } :: rest }) := by
  simp only [Reports.nextOctet, hqueue, hsending, if_true, Reports.give, Reports.headLeaves, List.tail_cons]

/-- A report that does not end gives its octets one after another (R176). -/
theorem Reports.nextOctets_within {r : Reports} {x : Slot} {rest : List Slot} (carId : Octet) {n : Nat}
    (hqueue : r.queue = x :: rest) (hsending : x.sending = true) (hwithin : x.given + n < x.octets.length) :
    r.nextOctets carId n =
      ((x.octets.drop x.given).take n, { r with queue := { x with given := x.given + n } :: rest }) := by
  induction n generalizing r x with
  | zero => simp [Reports.nextOctets, ← hqueue]
  | succ n ih =>
    have hnext := Reports.nextOctet_sending carId hqueue hsending
    rw [if_neg (by omega)] at hnext
    have hrest := ih (r := { r with queue := { x with given := x.given + 1 } :: rest })
      (x := { x with given := x.given + 1 }) rfl hsending (by change x.given + 1 + n < x.octets.length; omega)
    have hoctets : ({ x with given := x.given + 1 } : Slot).octets = x.octets := rfl
    rw [hoctets] at hrest
    simp only [Reports.nextOctets, hnext, hrest]
    have hlt : x.given < x.octets.length := by omega
    rw [List.drop_eq_getElem_cons hlt, List.take_succ_cons, List.getD_eq_getElem?_getD, List.getElem?_eq_getElem hlt,
      Option.getD_some, Nat.add_right_comm, Nat.add_assoc]

/-- A report that ends inside gives the rest of its octets, leaves the queue and frees its slot (R175, R176). -/
theorem Reports.nextOctets_ends {r : Reports} {x : Slot} {rest : List Slot} (carId : Octet) {n : Nat}
    (hqueue : r.queue = x :: rest) (hsending : x.sending = true) (hgiven : x.given < x.octets.length)
    (hends : (x.octets.drop x.given).length ≤ n) :
    r.nextOctets carId n =
      (x.octets.drop x.given ++ (({ r with queue := rest : Reports }.slotFreed carId).nextOctets carId
          (n - (x.octets.drop x.given).length)).1,
        (({ r with queue := rest : Reports }.slotFreed carId).nextOctets carId
          (n - (x.octets.drop x.given).length)).2) := by
  rw [List.length_drop] at hends ⊢
  obtain ⟨j, hj⟩ : ∃ j, x.octets.length = x.given + (j + 1) := ⟨x.octets.length - x.given - 1, by omega⟩
  have hwithin := Reports.nextOctets_within (n := j) carId hqueue hsending (by omega)
  have hlast := Reports.nextOctet_sending (r := { r with queue := { x with given := x.given + j } :: rest }) carId rfl hsending
  have hoctets : ({ x with given := x.given + j } : Slot).octets = x.octets := rfl
  rw [hoctets, if_pos (by change x.octets.length ≤ x.given + j + 1; omega)] at hlast
  have hall : (x.octets.drop x.given).take j ++ [x.octets.getD (x.given + j) 0#8] = x.octets.drop x.given := by
    have hlt : j < (x.octets.drop x.given).length := by rw [List.length_drop]; omega
    have hget : x.octets.getD (x.given + j) 0#8 = (x.octets.drop x.given)[j] := by
      rw [List.getD_eq_getElem?_getD, List.getElem?_eq_getElem (by omega), Option.getD_some, List.getElem_drop]
    rw [hget, List.take_append_getElem, List.take_of_length_le (by rw [List.length_drop]; omega)]
  have hwhole : r.nextOctets carId (j + 1) =
      (x.octets.drop x.given, { r with queue := rest : Reports }.slotFreed carId) := by
    rw [Reports.nextOctets_append, hwithin]
    simp only [Reports.nextOctets, hlast, hall]
  have hsplit : n = (j + 1) + (n - (x.octets.length - x.given)) := by omega
  conv => lhs; rw [hsplit]
  rw [Reports.nextOctets_append, hwhole]

/-- The report queue with its head begun (R176). -/
def Reports.begun (r : Reports) (x : Slot) (rest : List Slot) : Reports :=
  { r with queue := (r.headBegun x).1 :: rest, number := (r.headBegun x).2 }

theorem Reports.headBegun_effect (r : Reports) (x : Slot) : (r.headBegun x).1.sending = true ∧
    (x.sending = false → (r.headBegun x).1.given = 0) ∧ (x.sending = true → r.headBegun x = (x, r.number)) := by
  unfold Reports.headBegun
  split
  · next h => simp [h]
  · next h => cases x.number <;> simp [h]

theorem Reports.nextOctets_begun {r : Reports} {x : Slot} {rest : List Slot} (carId : Octet) (n : Nat)
    (hqueue : r.queue = x :: rest) : r.nextOctets carId (n + 1) = (r.begun x rest).nextOctets carId (n + 1) := by
  obtain ⟨hsending, -, hkept⟩ := r.headBegun_effect x
  by_cases h : x.sending = true
  · have : r.begun x rest = r := by
      rw [Reports.begun, hkept h, ← hqueue]
    rw [this]
  · have hbegin : r.begin = r.begun x rest := by
      rw [Reports.begin, hqueue, Reports.begun, Reports.headBegun, if_neg h]
      obtain ⟨report, car, number, sending, given⟩ := x
      cases number <;> rfl
    have hnext : r.nextOctet carId = (r.begun x rest).nextOctet carId := by
      rw [Reports.nextOctet, hqueue]
      simp only [h, Bool.false_eq_true, if_false, hbegin]
      simp only [Reports.nextOctet, Reports.begun, hsending, if_true]
    simp only [Reports.nextOctets, hnext]

theorem Reports.slotFreed_eq (r : Reports) (carId : Octet) : r.slotFreed carId =
    { r with
      queue := r.queue ++ (r.backlog.head?.toList.map fun a =>
        { report := .alarm a, carId := carId, number := none, sending := false, given := 0 })
      backlog := r.backlog.tail } := by
  unfold Reports.slotFreed
  cases h : r.backlog with
  | nil =>
    cases r
    simp_all
  | cons a rest => simp [Slot.waiting]

/-- The octets given one by one are those of the reports one after another (R161, R176). -/
theorem Reports.nextOctets_eq (carId : Octet) {k n : Nat} (hk : n ≤ k) {r : Reports}
    (hgiven : ∀ x ∈ r.queue, x.sending = true → x.given < x.octets.length) :
    r.nextOctets carId n = Reports.channelOctets carId k n r := by
  induction k generalizing n r with
  | zero =>
    obtain rfl : n = 0 := by omega
    rfl
  | succ k ih =>
    cases n with
    | zero => rfl
    | succ n =>
      cases hqueue : r.queue with
      | nil =>
        rw [Reports.nextOctets_empty carId _ hqueue]
        simp only [Reports.channelOctets, hqueue]
      | cons x rest =>
        obtain ⟨hsending, hzero, hkept⟩ := r.headBegun_effect x
        have hgivenB : (r.headBegun x).1.given < (r.headBegun x).1.octets.length := by
          by_cases h : x.sending = true
          · rw [hkept h]
            exact hgiven x (by simp [hqueue]) h
          · rw [hzero (by simpa using h)]
            exact Slot.octets_pos _
        rw [Reports.nextOctets_begun carId n hqueue]
        simp only [Reports.channelOctets, hqueue]
        split
        · next hlong =>
          rw [List.length_drop] at hlong
          rw [Reports.nextOctets_within carId (r := r.begun x rest) rfl hsending (by omega)]
          rfl
        · next hshort =>
          have hpos : 0 < ((r.headBegun x).1.octets.drop (r.headBegun x).1.given).length := by
            rw [List.length_drop]
            omega
          rw [Reports.nextOctets_ends carId (r := r.begun x rest) rfl hsending hgivenB (by omega), Reports.slotFreed_eq]
          refine congrArg (fun p => (_ ++ p.1, p.2)) (ih ?_ fun y hy hs => ?_)
          · omega
          rcases List.mem_append.1 hy with hy | hy
          · exact hgiven y (by simp only [hqueue, List.mem_cons]; exact .inr hy) hs
          · obtain ⟨a, -, rfl⟩ := List.mem_map.1 hy
            simp at hs

theorem Reports.nextOctets_length (carId : Octet) (n : Nat) (r : Reports) : (r.nextOctets carId n).1.length = n := by
  induction n generalizing r with
  | zero => rfl
  | succ n ih => simp [Reports.nextOctets, ih]

/-! ## TRANSMIT_FRAME -/

theorem exec_transmitFrame {s : State} {f : Nat} (h : s.tx.frameNo = some f) :
    exec .transmitFrame s = .next (s.sendFrame f) := by
  change execTransmitFrame s = _
  simp only [execTransmitFrame, h]

/-- What a frame sent leaves (R160, R161). -/
theorem State.sendFrame_effect (f : Nat) (s : State) :
    (s.sendFrame f).reports = (s.reports.nextOctets (oct s.params.carId) 22).2 ∧
      (s.sendFrame f).tx = s.tx.after f (decide (s.rx.state = .hunt)) (s.headerSent f)
        (s.reports.nextOctets (oct s.params.carId) 22).1 (s.overheadSent f) ∧
      (s.sendFrame f).rx = { s.rx with farPending := if f = 1 ∨ f = 5 then false else s.rx.farPending } ∧
      SameSetup s (s.sendFrame f) ∧ SameCabs s (s.sendFrame f) ∧ SameCar s (s.sendFrame f) ∧
      (s.sendFrame f).handler = s.handler ∧ (s.sendFrame f).lineCode = s.lineCode ∧ (s.sendFrame f).mon = s.mon := by
  unfold State.sendFrame State.carIdOctet
  generalize s.reports.nextOctets (oct s.params.carId) 22 = p
  dsimp only
  split <;> simp [SameSetup, SameCabs, SameCar]

/-- Settles O51: the channel is the report queue's octets one after another, between the header and the overhead of the
frame's place. -/
theorem framesCarryHeaderReportAndOverhead : Obligations.FramesCarryHeaderReportAndOverhead := by
  refine fun s => ⟨fun hnone => ?_, fun f hf _ => ?_⟩
  · change execTransmitFrame s = _
    simp only [execTransmitFrame, hnone]
  · obtain ⟨hreports, htx, hrx, hrest⟩ := s.sendFrame_effect f
    obtain ⟨p, hp⟩ : ∃ p, p = s.reports.nextOctets (oct s.params.carId) 22 := ⟨_, rfl⟩
    rw [← hp] at hreports htx
    have hpair : (p.1, (s.sendFrame f).reports) = p := by rw [hreports]
    refine ⟨_, _, p.1, _, exec_transmitFrame hf, rfl, rfl, hp ▸ Reports.nextOctets_length _ _ _, fun hqueue => ?_,
      fun x rest hqueue hsending hwithin => ?_, fun x rest y hqueue hsending hnumber hy hlong => ?_, fun hgiven => ?_,
      fun x y k hqueue hbacklog hsending hnumber hy hshort => ?_, ?_⟩
    · rw [hreports, hp, Reports.nextOctets_empty _ _ hqueue]
      exact ⟨rfl, rfl⟩
    · rw [hreports, hp, Reports.nextOctets_within _ hqueue hsending hwithin]
      exact ⟨rfl, rfl⟩
    · obtain ⟨z, hz⟩ : ∃ z : Slot, z = { x with number := some ((s.reports.number + 1) % 256), sending := true, given := 0 } :=
        ⟨_, rfl⟩
      have hhead : s.reports.headBegun x = (z, (s.reports.number + 1) % 256) := by
        simp [Reports.headBegun, hsending, hnumber, hz]
      have hbegun : s.reports.begun x rest =
          { s.reports with queue := z :: rest, number := (s.reports.number + 1) % 256 } := by
        rw [Reports.begun, hhead]
      have hoctets : y.octets = z.octets := by rw [hy, hz]; rfl
      have hwithin := Reports.nextOctets_within (r := s.reports.begun x rest) (x := z) (rest := rest) (n := 22)
        (oct s.params.carId) (by rw [hbegun]) (by rw [hz]) (by
          rw [← hoctets, show z.given = 0 by rw [hz]]
          omega)
      rw [hreports, hp, Reports.nextOctets_begun _ 21 hqueue, hwithin, hoctets, hbegun, hy, hz]
      exact ⟨rfl, rfl⟩
    · rw [hpair, hp]
      exact Reports.nextOctets_eq _ (Nat.le_refl _) hgiven
    · have hhead : s.reports.headBegun x = (y, s.reports.number) := by
        simp [Reports.headBegun, hsending, hnumber, hy]
      have hbegun : s.reports.begun x [] = { s.reports with queue := [y] } := by
        rw [Reports.begun, hhead]
      have hzero : y.given = 0 := by rw [hy]
      have hfreed : ({ s.reports with queue := [] } : Reports).slotFreed (oct s.params.carId) =
          { s.reports with queue := [] } := by
        simp [Reports.slotFreed, hbacklog]
      have hends := Reports.nextOctets_ends (r := s.reports.begun x []) (x := y) (rest := []) (n := 22) (oct s.params.carId)
        (by rw [hbegun]) (by rw [hy]) (by rw [hzero]; exact Slot.octets_pos y) (by rwa [hzero, List.drop_zero])
      rw [hbegun] at hends
      dsimp only at hends
      rw [hfreed, hzero, List.drop_zero, Reports.nextOctets_empty (r := { s.reports with queue := [] }) _ _ rfl] at hends
      rw [hreports, hp, Reports.nextOctets_begun _ 21 hqueue, hbegun, hends]
      exact ⟨rfl, rfl⟩
    · rw [htx, hrx]
      refine ⟨rfl, rfl, rfl, ?_, rfl, rfl, hrest⟩
      simp only [RadioTx.after, halfWith]
      split
      · simp [State.headerSent]
      · next h => simp [State.headerSent, State.overheadSent, h]

/-! ## The report and transfer timers -/

/-- Settles O52: a report sent frees its slot, and either timer acts and restarts. -/
theorem reportAndTransferTimersAct : Obligations.ReportAndTransferTimersAct := by
  refine fun s n => ⟨fun x rest hqueue hsending => ?_, fun htimer => ?_, fun htimer => ?_⟩
  · change execReportSent s = _
    simp only [execReportSent, hqueue, hsending, if_true, Reports.headLeaves, Reports.slotFreed_eq, List.tail_cons]
    rfl
  · have hexec : exec .reportTimerExpiry s = .next (s.withReports
        { s.reports.placeStatus (Slot.waiting (.status s.statusPayload) (oct s.params.carId)) with timer := some 500 }) := by
      change execReportTimerExpiry s = _
      simp only [execReportTimerExpiry, htimer]
      rfl
    refine ⟨fun hroom hnone => ?_, fun hfull hnone => ?_, fun l x r hqueue hx hrest => ?_⟩
    · rw [hexec, Reports.placeStatus_appends _ hnone, if_pos hroom]
      rfl
    · rw [hexec, Reports.placeStatus_appends _ hnone, if_neg (by omega)]
    · rw [hexec, Reports.placeStatus_replaces _ hqueue hx hrest]
      rfl
  · change execTransferTimerExpiry s = _
    simp only [execTransferTimerExpiry, htimer]
    split
    · rfl
    · rfl

end Sys2Proof.Machine

/-! SUPPORT. What an evaluation and the readers of the token keep: a property kept by each of their writes is kept by all of
them. -/

namespace Sys2Proof.Machine

/-! ## Properties kept by the writes of an evaluation -/

/-- A property kept by each write that an evaluation and the DRIVER term are made of: the holding brake is commanded to apply
at standstill alone, and EMERGENCY is left or set to 100. -/
structure Calm (P : State → Prop) : Prop where
  rack : ∀ s, P s → P (s.applyCmd .rack)
  hold : ∀ s, s.brk.long = true ∨ s.pos.standstill = true → P s → P (s.applyCmd .hold)
  settle : ∀ s t, t.emergency = s.brk.terms.emergency ∨ t.emergency = 100 → P s →
    P (s.withBrk { s.brk with terms := t }).settleOutputs
  cause : ∀ s k f, P s → P (s.withBrk { s.brk with causes := s.brk.causes.join k, first := f })
  flag : ∀ s k, P s → P (s.flag k)
  sup : ∀ s x, P s → P (s.withSup x)
  contact : ∀ s x, P s → P (s.withContact x)
  authority : ∀ s a, P s → P (s.withLine { s.line with authority := a })
  reports : ∀ s x, P s → P (s.withReports x)

/-- A calm property that the watches keep too. -/
structure Quiet (P : State → Prop) : Prop extends Calm P where
  vigilance : ∀ s v, P s → P (s.withBrk { s.brk with vigTimer := v })
  reselect : ∀ s, P s → P (s.withBrk { s.brk with rollCount := 0 })

section
variable {P : State → Prop}

theorem Calm.setTerms (q : Calm P) {t : Terms} {s : State}
    (ht : t.emergency = s.brk.terms.emergency ∨ t.emergency = 100) (h : P s) : P (s.setTerms t) := by
  have hsettled := q.settle s t ht h
  unfold State.setTerms
  dsimp only
  split
  · next hlong =>
    obtain ⟨-, -, hlong, -⟩ := hlong
    obtain ⟨-, -, -, -, -, hstill⟩ := Brakes.still_iff.1 (State.settleOutputs_still (s.withBrk { s.brk with terms := t }))
    exact q.hold _ (.inl (hstill.trans hlong)) hsettled
  · exact hsettled

theorem Calm.offerAlarm (q : Calm P) (k : CauseKind) {s : State} (h : P s) : P (s.offerAlarm k) := by
  unfold State.offerAlarm
  split
  · exact q.reports s _ h
  · exact h

theorem Calm.joinCause (q : Calm P) (k : CauseKind) {s : State} (h : P s) : P (s.joinCause k) := by
  have htake : P (s.takeCause k) := q.rack _ (q.setTerms (.inr rfl) (q.flag _ _ (q.cause s k _ h)))
  rw [State.joinCause_eq]
  refine q.offerAlarm k ?_
  split
  · next hstand => exact q.hold _ (.inr hstand) htake
  · exact htake

theorem Calm.addCause (q : Calm P) {k : CauseKind} (hk : k ≠ .rollaway) {s : State} (h : P s) : P (s.addCause k) := by
  rw [State.addCause_eq hk]
  split
  · exact h
  · exact q.joinCause k h

theorem Calm.evalCore (q : Calm P) {s : State} (h : P s) : P s.evalCore := by
  have hsup : ∀ (x : SupState) (t : State), P t → P (t.setSupState x) := fun x t ht => by
    have hflagged := q.flag _ .supervision (q.sup t { t.sup with state := x } ht)
    unfold State.setSupState
    dsimp only
    split
    · exact ht
    · split
      · exact q.addCause (by decide) (q.setTerms (.inl rfl) hflagged)
      · exact q.setTerms (.inl rfl) hflagged
  have htest : ∀ t : State, P t → P t.eoaTest := fun t ht => by
    unfold State.eoaTest
    split
    · exact q.sup _ _ ht
    · split
      · split
        · exact ht
        · exact q.sup _ _ (q.addCause (by decide) ht)
      · exact q.sup _ _ ht
  exact hsup _ _ (htest _ (q.sup _ _ h))

theorem Calm.setContactState (q : Calm P) (x : ContactState) {s : State} (h : P s) : P (s.setContactState x) := by
  have hvoid : ∀ t : State, P t → P t.voidAuthority := fun t ht => by
    unfold State.voidAuthority
    split
    · exact q.flag _ _ (q.authority _ _ ht)
    · exact ht
  have hflag := q.flag _ .radio (q.contact s { s.contact with state := x } h)
  unfold State.setContactState
  dsimp only
  split
  · exact h
  · refine q.evalCore (q.setTerms (.inl rfl) ?_)
    split
    · exact hvoid _ hflag
    · exact hflag

theorem Calm.judgeContact (q : Calm P) {s : State} (h : P s) : P s.judgeContact := by
  unfold State.judgeContact
  split
  · exact h
  · exact q.setContactState _ h

theorem Calm.setShadow (q : Calm P) (b : Bool) {s : State} (h : P s) : P (s.setShadow b) := by
  unfold State.setShadow
  split
  · exact h
  · exact q.judgeContact (q.contact _ _ h)

theorem Calm.shadowTest (q : Calm P) {s : State} (h : P s) : P s.shadowTest := by
  unfold State.shadowTest
  split
  · split
    · exact q.setShadow _ h
    · exact h
  · exact q.setShadow _ h

theorem Calm.evaluate (q : Calm P) {s : State} (h : P s) : P s.evaluate := by
  unfold State.evaluate
  dsimp only
  split
  · exact q.evalCore h
  · exact q.shadowTest (q.evalCore h)

theorem Calm.driverTerm (q : Calm P) {s : State} (h : P s) : P s.driverTerm := q.setTerms (.inl rfl) h

theorem Calm.judgeVigilance (q : Calm P) (hvigilance : ∀ s v, P s → P (s.withBrk { s.brk with vigTimer := v })) {s : State}
    (h : P s) : P s.judgeVigilance := by
  refine hvigilance _ _ ?_
  unfold State.endVigilance
  split
  · exact q.setTerms (.inl rfl) h
  · exact h

theorem Quiet.judgeVigilance (q : Quiet P) {s : State} (h : P s) : P s.judgeVigilance :=
  q.toCalm.judgeVigilance q.vigilance h

theorem Quiet.freshVigilance (q : Quiet P) {s : State} (h : P s) : P s.freshVigilance :=
  q.judgeVigilance (q.vigilance s none h)

theorem Quiet.rollReselect (q : Quiet P) (d : Option Dir) {s : State} (h : P s) : P (s.rollReselect d) := by
  unfold State.rollReselect
  split
  · exact h
  · exact q.reselect s h

/-- The readers of the token keep what an evaluation and the watches keep (R136). -/
theorem Quiet.tokenReaders (q : Quiet P) (before : State) {s : State} (h : P s) : P (State.tokenReaders before s) := by
  have hdriver := q.driverTerm (q.evaluate h)
  unfold State.tokenReaders
  dsimp only
  split
  · exact q.rollReselect _ (q.judgeVigilance hdriver)
  · exact q.rollReselect _ (q.freshVigilance hdriver)

end

/-! ## Such properties -/

/-- The watches of the brake unit: the vigilance timer, the hold timer and the long standstill. -/
def Brakes.watches (b : Brakes) : Option Nat × Option Nat × Bool := (b.vigTimer, b.holdTimer, b.long)

theorem Brakes.watches_of_still {b c : Brakes} (h : b.still = c.still) : b.watches = c.watches := by
  obtain ⟨-, -, -, hvig, hhold, hlong⟩ := Brakes.still_iff.1 h
  simp [Brakes.watches, hvig, hhold, hlong]

/-- The watches run on. -/
theorem Brakes.watches_calm (w : Option Nat × Option Nat × Bool) : Calm fun t => t.brk.watches = w where
  rack s h := (Brakes.watches_of_still (State.applyCmd_still .rack s)).trans h
  hold s _ h := (Brakes.watches_of_still (State.applyCmd_still .hold s)).trans h
  settle s t _ h := (Brakes.watches_of_still (State.settleOutputs_still _)).trans h
  cause s k f h := h
  flag s k h := by simpa using h
  sup s x h := h
  contact s x h := h
  authority s a h := h
  reports s x h := h

@[simp] theorem State.evaluate_watches (s : State) : s.evaluate.brk.watches = s.brk.watches :=
  (Brakes.watches_calm _).evaluate rfl

@[simp] theorem State.setTerms_brkWatches (t : Terms) (s : State) : (s.setTerms t).brk.watches = s.brk.watches := by
  have hsettled := Brakes.watches_of_still (State.settleOutputs_still (s.withBrk { s.brk with terms := t }))
  unfold State.setTerms
  dsimp only
  split
  · exact (Brakes.watches_of_still (State.applyCmd_still .hold _)).trans hsettled
  · exact hsettled

/-- The spring brakes are at most commanded to apply. -/
theorem Brakes.Commanded.quiet (b : Brakes) : Quiet fun t => b.Commanded t.brk where
  rack s h := h.trans (State.applyCmd_commanded .rack s)
  hold s _ h := h.trans (State.applyCmd_commanded .hold s)
  settle s t _ h := h.trans (.of_get fun i => (State.settleOutputs_brake _ i).trans (by cases i <;> rfl))
  cause s k f h := h.trans (.of_get fun i => by cases i <;> rfl)
  flag s k h := by simpa using h
  sup s x h := by simpa using h
  contact s x h := by simpa using h
  authority s a h := by simpa using h
  reports s x h := by simpa using h
  vigilance s v h := h.trans (.of_get fun i => by cases i <;> rfl)
  reselect s h := h.trans (.of_get fun i => by cases i <;> rfl)

/-- A cause held stays held. -/
theorem CauseSet.held_quiet (k : CauseKind) : Quiet fun t => t.brk.causes.has k = true where
  rack s h := by rwa [(Brakes.still_iff.1 (State.applyCmd_still .rack s)).2.1]
  hold s _ h := by rwa [(Brakes.still_iff.1 (State.applyCmd_still .hold s)).2.1]
  settle s t _ h := by
    have hstill := (Brakes.still_iff.1 (State.settleOutputs_still (s.withBrk { s.brk with terms := t }))).2.1
    rwa [hstill]
  cause s j f h := by simp [CauseSet.has_join, h]
  flag s k h := by simpa using h
  sup s x h := by simpa using h
  contact s x h := by simpa using h
  authority s a h := by simpa using h
  reports s x h := by simpa using h
  vigilance s v h := h
  reselect s h := h

/-- The watch of PARKED runs from 0. -/
def State.Watched (s : State) : Prop :=
  s.mode.mode = .parked ∧ s.brk.rollRunning = true ∧ s.brk.rollCount = 0

theorem State.settleOutputs_roll (s : State) : s.settleOutputs.brk.rollRunning = s.brk.rollRunning ∧
    s.settleOutputs.brk.rollCount = s.brk.rollCount := by
  unfold State.settleOutputs
  dsimp only
  split <;> simp

theorem State.setBrake_watched {s : State} (h : s.Watched) (b : BrakeId) (x : BrakeState) : (s.setBrake b x).Watched := by
  obtain ⟨hmode, hrun, hcount⟩ := h
  unfold State.setBrake
  split
  · exact ⟨hmode, hrun, hcount⟩
  · obtain ⟨u, hu⟩ : ∃ u : State, u = ((s.withBrk (s.brk.put b { s.brk.get b with
      state := x, timer := brakeTimer x })).flag .brakes).settleOutputs := ⟨_, rfl⟩
    have hput : ∀ c : SpringBrake, (s.brk.put b c).rollRunning = s.brk.rollRunning ∧
        (s.brk.put b c).rollCount = s.brk.rollCount := fun c => by cases b <;> exact ⟨rfl, rfl⟩
    have huroll : u.brk.rollRunning = true ∧ u.brk.rollCount = 0 := by
      rw [hu, (State.settleOutputs_roll _).1, (State.settleOutputs_roll _).2]
      simp [hput, hrun, hcount]
    have humode : u.mode = s.mode := by simp [hu]
    have hwatch : u.rollWatch = u.brk.rollRunning := by simp [State.rollWatch, humode, hmode, huroll]
    have hsync : u.syncRollaway = u := if_pos hwatch
    dsimp only
    rw [← hu, hsync]
    simpa [State.Watched, humode, hmode] using huroll

theorem State.applyCmd_watched {s : State} (h : s.Watched) (b : BrakeId) : (s.applyCmd b).Watched := by
  unfold State.applyCmd
  split
  case h_1 | h_2 =>
    dsimp only
    split
    · exact State.setBrake_watched (State.setBrake_watched h _ _) _ _
    · exact State.setBrake_watched h _ _
  all_goals exact h

theorem State.watched_quiet : Quiet State.Watched where
  rack s h := State.applyCmd_watched h .rack
  hold s _ h := State.applyCmd_watched h .hold
  settle s t _ h := by
    obtain ⟨hrun, hcount⟩ := State.settleOutputs_roll (s.withBrk { s.brk with terms := t })
    simpa [State.Watched, hrun, hcount] using h
  cause s j f h := h
  flag s k h := by simpa [State.Watched] using h
  sup s x h := h
  contact s x h := h
  authority s a h := h
  reports s x h := h
  vigilance s v h := h
  reselect s h := ⟨h.1, h.2.1, rfl⟩

end Sys2Proof.Machine

/-! SUPPORT. The token between the cabs, PARK and the loss of a cab: what a change of the token leaves of the mode, the
brakes, the flags, the causes and the reports. -/

namespace Sys2Proof.Machine

/-! ## The entry into a mode keeps flags and causes -/

theorem State.withMode_subdued (x : ModeCtl) (s : State) : Subdued s (s.withMode x) := .of_eq rfl (fun _ => rfl) rfl

theorem Subdued.ite {p : Prop} [Decidable p] {s t u : State} (ht : Subdued s t) (hu : Subdued s u) :
    Subdued s (if p then t else u) := by
  split
  · exact ht
  · exact hu

theorem State.modeBrakes_subdued (m : CarMode) (s : State) : Subdued s (s.modeBrakes m) := by
  have hflag := (State.withMode_subdued (ModeCtl.timersFor m { s.mode with mode := m }) s).trans (State.flag_subdued .mode _)
  have hrack := hflag.ite (p := m.running = true) (hflag.trans (State.applyCmd_subdued .rack _))
  exact hrack.ite (hrack.trans (State.applyCmd_subdued .hold _))

theorem State.modeFollows_subdued (m : CarMode) (s : State) : Subdued s (s.modeFollows m) := by
  have hmodem : ∀ t : State, Subdued t (t.modemFor m) := fun t => .of_eq (by simp) (fun b => by simp) (by simp)
  have hroll : ∀ t : State, Subdued t t.syncRollaway := fun t => .of_eq (by simp) (fun b => by simp) (by simp)
  have hcount : ∀ t : State, Subdued t (t.withBrk { t.brk with rollCount := 0 }) := fun t =>
    .of_eq rfl (fun b => by cases b <;> rfl) rfl
  have hdoors := (State.withdrawAll_subdued s).ite (p := m = .parked ∨ m = .waking) (.refl s)
  have hkeyed := hdoors.trans (hmodem _)
  exact ((hkeyed.trans (hcount _)).ite hkeyed).trans (hroll _)

theorem State.enterMode_subdued (m : CarMode) (s : State) : Subdued s (s.enterMode m) := by
  rw [State.enterMode_eq]
  exact (Subdued.refl s).ite ((State.modeBrakes_subdued m s).trans (State.modeFollows_subdued m _))

/-- No cause joins or goes at the entry into a mode. -/
theorem State.enterMode_causes (m : CarMode) (s : State) : (s.enterMode m).brk.causes = s.brk.causes := by
  obtain ⟨-, hcauses, -⟩ := Brakes.still_iff.1 (s.modeBrakes_effect m).2.1
  have hroll : ∀ t : State, t.syncRollaway.brk.causes = t.brk.causes := fun t =>
    (Brakes.still_iff.1 (State.syncRollaway_parts t).1).2.1
  have hwithdraw : ∀ t : State, t.withdrawAll.brk.causes = t.brk.causes := fun t => by
    have hbeside : t.withdrawAll.brk.besideDoors = t.brk.besideDoors := by simp [State.withdrawAll]
    simp only [Brakes.besideDoors, Brakes.emergency, Prod.mk.injEq] at hbeside
    obtain ⟨-, hcauses, -⟩ := hbeside
    exact hcauses
  have hdoors : ∀ t : State, (if m = .parked ∨ m = .waking then t.withdrawAll else t).brk.causes = t.brk.causes :=
    fun t => by
      split
      · exact hwithdraw t
      · rfl
  have hcount : ∀ t : State, (if m = .parked then t.withBrk { t.brk with rollCount := 0 } else t).brk.causes =
      t.brk.causes := fun t => by split <;> rfl
  have hmodem : ∀ t : State, (t.modemFor m).brk.causes = t.brk.causes := fun t => by simp
  have hfollows : ∀ t : State, (t.modeFollows m).brk.causes = t.brk.causes := fun t =>
    (hroll _).trans ((hcount _).trans ((hmodem _).trans (hdoors t)))
  rw [State.enterMode_eq]
  split
  · rfl
  · rw [hfollows, hcauses]

/-! ## The readers of the token -/

/-- The causes that no evaluation adds. -/
def Brakes.otherCauses (b : Brakes) : CauseSet := { b.causes with eoaPassed := false, overspeed := false }

theorem Brakes.otherCauses_of_unjudged {b c : Brakes} (h : b.unjudged = c.unjudged) : b.otherCauses = c.otherCauses :=
  congrArg Prod.snd h

theorem State.setTerms_otherCauses (t : Terms) (s : State) : (s.setTerms t).brk.otherCauses = s.brk.otherCauses := by
  rw [Brakes.otherCauses, (State.setTerms_effect t s).2.1]
  rfl

theorem State.judgeVigilance_otherCauses (s : State) : s.judgeVigilance.brk.otherCauses = s.brk.otherCauses := by
  change s.endVigilance.brk.otherCauses = _
  unfold State.endVigilance
  split
  · exact State.setTerms_otherCauses _ s
  · rfl

theorem State.tokenReaders_otherCauses (before s : State) :
    (State.tokenReaders before s).brk.otherCauses = s.brk.otherCauses := by
  have hdriver : s.evaluate.driverTerm.brk.otherCauses = s.brk.otherCauses :=
    (State.setTerms_otherCauses _ _).trans (Brakes.otherCauses_of_unjudged s.evaluate_unjudged)
  have hroll : ∀ (d : Option Dir) (t : State), (t.rollReselect d).brk.otherCauses = t.brk.otherCauses := fun d t => by
    unfold State.rollReselect
    split <;> rfl
  unfold State.tokenReaders
  dsimp only
  rw [hroll]
  split
  · exact (State.judgeVigilance_otherCauses _).trans hdriver
  · exact (State.judgeVigilance_otherCauses _).trans hdriver

/-! ## A driving cab gives the token up -/

/-- In DRIVE a change of the token enters the mode it gives, adds DRIVE_LOST where it must, and the readers act (R136,
R142). -/
theorem State.tokenTo_driving {t : Token} {m : CarMode} {s : State} (hne : s.token ≠ t) (hdrive : s.mode.mode = .drive) :
    s.tokenTo t m = State.tokenReaders s (if s.token.driving ≠ none ∧ t.driving = none ∧ s.pos.standstill = false
      then ((s.writeToken t).enterMode m).addCause .driveLost else (s.writeToken t).enterMode m) := by
  have hmode : (s.writeToken t).mode.mode = .drive := by simp [State.writeToken, hdrive]
  have hchange : (s.writeToken t).changeMode m = (s.writeToken t).enterMode m := by
    simp [State.changeMode, hmode, CarMode.running]
  have hstand : ((s.writeToken t).enterMode m).pos.standstill = s.pos.standstill := by simp [State.writeToken]
  rw [State.tokenTo_eq hne, hchange]
  simp only [hstand]

/-- What a change of the token of a driving cab leaves (R94, R95, R136, R142). -/
theorem State.tokenTo_effect {t : Token} {m : CarMode} {s : State} (hne : s.token ≠ t) (hdrive : s.mode.mode = .drive) :
    (s.tokenTo t m).token = t ∧ (s.tokenTo t m).mode = ((s.writeToken t).enterMode m).mode ∧
      Flagged (s.tokenTo t m) .token ∧ Subdued ((s.writeToken t).enterMode m) (s.tokenTo t m) ∧
      (s.tokenTo t m).doors = ((s.writeToken t).enterMode m).doors ∧
      (s.pos.standstill = true → (s.tokenTo t m).brk.otherCauses = s.brk.otherCauses) ∧
      (s.token.driving ≠ none → t.driving = none → s.pos.standstill = false →
        (s.tokenTo t m).brk.causes.driveLost = true) := by
  obtain ⟨u, hu⟩ : ∃ u, u = (s.writeToken t).enterMode m := ⟨_, rfl⟩
  obtain ⟨v, hv⟩ : ∃ v, v = if s.token.driving ≠ none ∧ t.driving = none ∧ s.pos.standstill = false
    then u.addCause .driveLost else u := ⟨_, rfl⟩
  have htoken : s.tokenTo t m = State.tokenReaders s v := by rw [State.tokenTo_driving hne hdrive, hv, hu]
  have hsub : Subdued u v := by
    rw [hv]
    split
    · exact State.addCause_subdued (by decide) u
    · exact .refl u
  have hvparts : v.token = u.token ∧ v.mode = u.mode ∧ v.doors = u.doors := by
    rw [hv]
    split <;> simp
  obtain ⟨hvtoken, hvmode, hvdoors⟩ := hvparts
  have hflag : Flagged u .token := by
    rw [hu]
    exact (State.enterMode_subdued m _).flags _ (flagged_flag .token _)
  obtain ⟨hreaders, -⟩ := State.tokenReaders_effect s v
  rw [htoken, ← hu]
  refine ⟨?_, ?_, hreaders.flags _ (hsub.flags _ hflag), hsub.trans hreaders, ?_, fun hstand => ?_, fun hdriving hnone hmoves =>
    ?_⟩
  · simp [hvtoken, hu, State.writeToken]
  · simp [hvmode]
  · simp [hvdoors]
  · rw [State.tokenReaders_otherCauses, hv, if_neg (by simp [hstand]), hu, Brakes.otherCauses, State.enterMode_causes]
    simp [State.writeToken, Brakes.otherCauses]
  · have hheld : v.brk.causes.has .driveLost = true := by
      rw [hv, if_pos ⟨hdriving, hnone, hmoves⟩]
      exact (State.addCause_effect (by decide) u).1
    exact (CauseSet.held_quiet .driveLost).tokenReaders s hheld

/-- A token that leaves a cab driving moves no brake but by the readers (R136). -/
theorem State.setToken_kept {t : Token} {s : State} (hne : s.token ≠ t) (hdrive : s.mode.mode = .drive)
    (hdriving : t.driving ≠ none) :
    (s.setToken t).token = t ∧ (s.setToken t).mode = s.mode ∧ Flagged (s.setToken t) .token ∧
      (s.setToken t).doors = s.doors ∧ s.brk.Commanded (s.setToken t).brk ∧
      (s.pos.standstill = true → (s.setToken t).brk.otherCauses = s.brk.otherCauses) := by
  have hm : t.mode = .drive := (Token.mode_drive t).2 hdriving
  have henter : (s.writeToken t).enterMode .drive = s.writeToken t := if_pos (by simp [State.writeToken, hdrive])
  obtain ⟨htoken, hmode, hflag, -, hdoors, hcauses, -⟩ := State.tokenTo_effect (m := .drive) hne hdrive
  have hcommanded : s.brk.Commanded (s.tokenTo t .drive).brk := by
    rw [State.tokenTo_driving hne hdrive, if_neg fun h => hdriving h.2.1, henter]
    exact (Brakes.Commanded.quiet s.brk).tokenReaders s (.of_get fun b => by simp [State.writeToken])
  rw [State.setToken, hm]
  rw [henter] at hmode hdoors
  exact ⟨htoken, hmode.trans (by simp [State.writeToken]), hflag, hdoors.trans (by simp [State.writeToken]), hcommanded,
    hcauses⟩

/-- A token that falls to nobody makes the car READY with the holding brake's valve de-energized, and adds DRIVE_LOST on a
moving car (R95, R136, R142). -/
theorem State.setToken_nobody {s : State} (hdrive : s.mode.mode = .drive) (hdriving : s.token.driving ≠ none) :
    (s.setToken Token.nobody).token = Token.nobody ∧ (s.setToken Token.nobody).mode.mode = .ready ∧
      Flagged (s.setToken Token.nobody) .token ∧ (s.setToken Token.nobody).doors = s.doors ∧
      (s.setToken Token.nobody).brk.hold.state.energized = false ∧
      (s.pos.standstill = true → (s.setToken Token.nobody).brk.otherCauses = s.brk.otherCauses) ∧
      (s.pos.standstill = false → (s.setToken Token.nobody).brk.causes.driveLost = true) := by
  have hne : s.token ≠ Token.nobody := fun h => hdriving (by rw [h]; rfl)
  have hfrom : (s.writeToken Token.nobody).mode.mode ≠ .ready := by simp [State.writeToken, hdrive]
  obtain ⟨htoken, hmode, hflag, hsub, hdoors, hcauses, hlost⟩ := State.tokenTo_effect (m := .ready) hne hdrive
  obtain ⟨hmodeE, -, -, hhold, -, hdoorsE, -⟩ := State.enterMode_effect hfrom
  refine ⟨htoken, by rw [State.setToken, show Token.nobody.mode = .ready from rfl, hmode, hmodeE]; rfl, hflag, ?_,
    hsub.valves .hold (hhold (by decide)), hcauses, hlost hdriving rfl⟩
  exact hdoors.trans ((hdoorsE (by decide) (by decide)).trans (by simp [State.writeToken]))

end Sys2Proof.Machine

/-! SUPPORT. CLOSE_CAB, LEND_DRIVE and RETURN_DRIVE. -/

namespace Sys2Proof.Machine

/-- An accepted request on the token is answered with the token it leaves (R138 to R140). -/
theorem State.cabCommand_token {s u : State} {kind : Octet} {m : CabMsg} {own : State → Reply} (h : s.admits kind m = true)
    (hown : own (s.heard m.cab) = acceptWith State.tokenBody u) (hupper : u.upper = (s.heard m.cab).upper)
    (hlower : u.lower = (s.heard m.cab).lower) :
    ∃ t, s.cabCommand m kind own = t ∧ Answers s t kind m .ok t.token.octets ∧ t.token = u.token ∧ t.mode = u.mode ∧
      t.brk = u.brk ∧ t.flags = u.flags ∧ SameSetup u t ∧ t.refusal = u.refusal ∧ t.pos = u.pos ∧ t.doors = u.doors ∧
      t.handler = u.handler := by
  have hport := (State.port_congr hupper hlower m.cab).trans (State.heard_port_same m.cab s)
  have hreply := State.cabCommand_acceptedWith h hown hport
  refine ⟨_, hreply, answers_of_ports s m hupper hlower (by simp [State.tokenBody]), ?_⟩
  simp [SameSetup]

theorem State.eligible_heard_other {c d : Cab} (h : d ≠ c) (s : State) : (s.heard c).eligible d = s.eligible d := by
  rw [State.eligible, State.heard, State.withPort_port_ne h, State.eligible]

/-- The lender of a driving cab is the other one. -/
theorem TokenLaw.lender {s : State} (h : TokenLaw s) {c l : Cab} (hdriving : s.token.driving = some c)
    (hlend : s.token.lendLink = some l) : l = otherCab c := by
  unfold TokenLaw at h
  rw [hlend] at h
  obtain ⟨hother, -⟩ := h
  have : c = otherCab l := by simpa [hdriving] using hother
  subst this
  cases l <;> rfl

theorem State.tokenLeft_heard {s : State} (h : TokenLaw s) {c : Cab} (hdriving : s.token.driving = some c) :
    (s.heard c).tokenLeft = s.tokenLeft := by
  unfold State.tokenLeft
  simp only [State.heard_frame]
  split
  · next l hl =>
    rw [State.eligible_heard_other (h.lender hdriving hl ▸ otherCab_ne c)]
  · rfl

theorem State.tokenLeft_cases (s : State) : s.tokenLeft = Token.nobody ∨ ∃ l, s.tokenLeft = Token.plain l := by
  unfold State.tokenLeft
  split
  · split
    · exact .inr ⟨_, rfl⟩
    · exact .inl rfl
  · exact .inl rfl

theorem Token.plain_ne_lent {t : Token} {c : Cab} (h : t.lendLink ≠ none) : t ≠ Token.plain c := fun he =>
  h (by rw [he]; rfl)

theorem Brakes.otherCauses_driveLost {b c : Brakes} (h : b.otherCauses = c.otherCauses) :
    b.causes.driveLost = c.causes.driveLost :=
  (congrArg CauseSet.driveLost h : b.otherCauses.driveLost = c.otherCauses.driveLost)

/-- What the driving cab's giving up of the token leaves (R138, R141). -/
theorem State.setToken_left {s : State} {c : Cab} (hdrive : s.mode.mode = .drive) (hdriving : s.token.driving = some c) :
    (s.setToken s.tokenLeft).token = s.tokenLeft ∧
      ((s.setToken s.tokenLeft).mode.mode = .drive ↔ (s.setToken s.tokenLeft).token.driving ≠ none) ∧
      ((s.setToken s.tokenLeft).token.driving = none → (s.setToken s.tokenLeft).mode.mode = .ready ∧
        (s.setToken s.tokenLeft).brk.hold.state.energized = false ∧
        (s.pos.standstill = false → (s.setToken s.tokenLeft).brk.causes.driveLost = true)) ∧
      (s.pos.standstill = true → (s.setToken s.tokenLeft).brk.causes.driveLost = s.brk.causes.driveLost) ∧
      Flagged (s.setToken s.tokenLeft) .token ∧ (s.setToken s.tokenLeft).doors = s.doors := by
  have hne := State.tokenLeft_ne hdriving
  rcases s.tokenLeft_cases with hleft | ⟨l, hleft⟩
  · obtain ⟨htoken, hmode, hflag, hdoors, hhold, hcauses, hlost⟩ := State.setToken_nobody hdrive (by simp [hdriving])
    rw [hleft]
    refine ⟨htoken, ?_, fun _ => ⟨hmode, hhold, hlost⟩, fun hs => Brakes.otherCauses_driveLost (hcauses hs), hflag, hdoors⟩
    rw [hmode, htoken]
    simp [Token.nobody]
  · obtain ⟨htoken, hmode, hflag, hdoors, -, hcauses⟩ :=
      State.setToken_kept (t := s.tokenLeft) hne hdrive (by rw [hleft]; simp [Token.plain])
    have hdrives : (s.setToken s.tokenLeft).token.driving ≠ none := by
      rw [htoken, hleft]
      simp [Token.plain]
    refine ⟨htoken, ⟨fun _ => hdrives, fun _ => hmode ▸ hdrive⟩, fun hnone => absurd hnone hdrives,
      fun hs => Brakes.otherCauses_driveLost (hcauses hs), hflag, hdoors⟩

/-- Settles O12: each request passes the token by its role, and the mode and the flags follow. -/
theorem tokenPassesBetweenTheCabs : Obligations.TokenPassesBetweenTheCabs := by
  intro s m hlaw hdriveLaw
  have hdrive : ∀ c, s.token.driving = some c → (s.heard m.cab).mode.mode = .drive := fun c hc => by
    have := hdriveLaw.2 (by simp [hc])
    simpa using this
  refine ⟨fun h => ?_, fun h => ?_, fun h => ?_⟩
  · split
    · next hmay =>
      obtain ⟨hdriving, hstand⟩ := hmay
      have hown : ownCloseCab m.cab (s.heard m.cab) =
          acceptWith State.tokenBody ((s.heard m.cab).setToken (s.heard m.cab).tokenLeft) :=
        if_pos (by simpa using ⟨hdriving, hstand⟩)
      obtain ⟨htoken, hmode, hnobody, hcauses, hflag, hdoors⟩ :=
        State.setToken_left (s := s.heard m.cab) (hdrive _ hdriving) (by simpa using hdriving)
      obtain ⟨t, hexec, hanswers, htokenT, hmodeT, hbrkT, hflagsT, hsetup, href, hpos, hdoorsT, hhandler⟩ :=
        State.cabCommand_token h hown (by simp) (by simp)
      rw [← htokenT, ← hmodeT] at hmode
      rw [← htokenT, ← hmodeT, ← hbrkT] at hnobody
      refine ⟨t, congrArg Host.Outcome.next hexec, hanswers, ?_, hmode, fun hnone => ?_, ?_, hflag.congr hflagsT, ?_, ?_⟩
      · rw [htokenT, htoken, State.tokenLeft_heard hlaw hdriving]
        rfl
      · obtain ⟨hready, hhold, -⟩ := hnobody hnone
        exact ⟨hready, hhold⟩
      · rw [hbrkT, hcauses (by simpa using hstand)]
        simp
      · simpa [SameSetup] using hsetup
      · simp [href, hpos, hdoorsT, hhandler, hdoors]
    · next hmay =>
      have hown : ownCloseCab m.cab (s.heard m.cab) = refuse .stateFails (s.heard m.cab) := if_neg (by simpa using hmay)
      exact congrArg Host.Outcome.next (State.cabCommand_refused h hown rfl)
  · split
    · next hbusy =>
      obtain ⟨hdriving, hlent⟩ := hbusy
      have hown : ownLendDrive m.cab (s.heard m.cab) = refuse .busy (s.heard m.cab) := by
        simp [ownLendDrive, hdriving, hlent]
      exact congrArg Host.Outcome.next (State.cabCommand_refused h hown rfl)
    · next hbusy =>
      have hother : (s.heard m.cab).eligible (otherCab m.cab) = s.eligible (otherCab m.cab) :=
        State.eligible_heard_other (otherCab_ne _) s
      split
      · next hmay =>
        obtain ⟨hdriving, hstand, happlied, helig⟩ := hmay
        have hlink : s.token.lendLink = none := by
          refine Classical.byContradiction fun hlent => ?_
          exact hbusy ⟨hdriving, hlent⟩
        have hown : ownLendDrive m.cab (s.heard m.cab) =
            acceptWith State.tokenBody ((s.heard m.cab).setToken (Token.lent m.cab)) := by
          simp [ownLendDrive, hdriving, hlink, hstand, happlied, hother, helig]
        have hne : (s.heard m.cab).token ≠ Token.lent m.cab := fun he => by
          have := congrArg Token.lendLink he
          simp [hlink, Token.lent] at this
        obtain ⟨htoken, hmode, hflag, hdoors, hcommanded, -⟩ :=
          State.setToken_kept hne (hdrive _ hdriving) (by simp [Token.lent])
        obtain ⟨t, hexec, hanswers, htokenT, hmodeT, hbrkT, hflagsT, hsetup, href, hpos, hdoorsT, hhandler⟩ :=
          State.cabCommand_token h hown (by simp) (by simp)
        have hhold := hcommanded.get (i := .hold) (by simp [Brakes.get, happlied, BrakeState.energized])
        refine ⟨t, congrArg Host.Outcome.next hexec, hanswers, htokenT.trans htoken, ?_, hflag.congr hflagsT, ?_, ?_, ?_⟩
        · rw [hmodeT, hmode]
          exact hdrive _ hdriving
        · rw [hbrkT]
          have hstate := congrArg SpringBrake.state hhold
          simpa [Brakes.get, happlied] using hstate
        · simpa [SameSetup] using hsetup
        · simp [href, hpos, hdoorsT, hhandler, hdoors]
      · next hmay =>
        have hown : ownLendDrive m.cab (s.heard m.cab) = refuse .stateFails (s.heard m.cab) := by
          by_cases hdriving : s.token.driving = some m.cab
          · have hlink : s.token.lendLink = none := by
              refine Classical.byContradiction fun hlent => ?_
              exact hbusy ⟨hdriving, hlent⟩
            have hnot : ¬ (s.pos.standstill = true ∧ s.brk.hold.state = .applied ∧
                s.eligible (otherCab m.cab) = true) := fun hall => hmay ⟨hdriving, hall⟩
            rw [ownLendDrive, hother]
            simp only [State.heard_frame]
            rw [if_neg (by simp [hdriving]), if_neg (by simp [hlink]), if_neg hnot]
          · simp [ownLendDrive, hdriving]
        exact congrArg Host.Outcome.next (State.cabCommand_refused h hown rfl)
  · have hother : (s.heard m.cab).eligible (otherCab m.cab) = s.eligible (otherCab m.cab) :=
      State.eligible_heard_other (otherCab_ne _) s
    split
    · next hmay =>
      obtain ⟨hdriving, hlink, hstand, helig⟩ := hmay
      have hown : ownReturnDrive m.cab (s.heard m.cab) =
          acceptWith State.tokenBody ((s.heard m.cab).setToken (Token.plain (otherCab m.cab))) := by
        simp [ownReturnDrive, hdriving, hlink, hstand, hother, helig]
      have hne : (s.heard m.cab).token ≠ Token.plain (otherCab m.cab) := Token.plain_ne_lent (by simp [hlink])
      obtain ⟨htoken, hmode, hflag, hdoors, -⟩ :=
        State.setToken_kept hne (hdrive _ hdriving) (by simp [Token.plain])
      obtain ⟨t, hexec, hanswers, htokenT, hmodeT, -, hflagsT, hsetup, href, hpos, hdoorsT, hhandler⟩ :=
        State.cabCommand_token h hown (by simp) (by simp)
      refine ⟨t, congrArg Host.Outcome.next hexec, hanswers, htokenT.trans htoken, ?_, hflag.congr hflagsT, ?_, ?_⟩
      · rw [hmodeT, hmode]
        exact hdrive _ hdriving
      · simpa [SameSetup] using hsetup
      · simp [href, hpos, hdoorsT, hhandler, hdoors]
    · next hmay =>
      have hown : ownReturnDrive m.cab (s.heard m.cab) = refuse .stateFails (s.heard m.cab) := by
        unfold ownReturnDrive
        simp only [State.heard_frame]
        split
        · next l hl =>
          refine if_neg fun hall => ?_
          obtain ⟨hdriving, hstand, helig⟩ := hall
          obtain rfl := hlaw.lender hdriving hl
          exact hmay ⟨hdriving, hl, hstand, hother ▸ helig⟩
        · rfl
      exact congrArg Host.Outcome.next (State.cabCommand_refused h hown rfl)

end Sys2Proof.Machine

/-! SUPPORT. PARK: the search that begins with the watch, the reports as the modem is unkeyed, and a car that parks without a
cause. -/

namespace Sys2Proof.Machine

/-! ## The search that begins with the watch -/

theorem State.toHunt_subdued (n : Nat) (s : State) : Subdued s (s.toHunt n) := by
  have hset : Subdued s ((s.discard.withRx (s.rx.hunting n)).setRxState .hunt) := by
    refine .trans (t := s.discard.withRx (s.rx.hunting n)) (.of_eq (by simp) (fun b => by simp) (by simp)) ?_
    unfold State.setRxState
    split
    · exact .refl _
    · refine .trans (t := (s.discard.withRx (s.rx.hunting n)).withRx _) ?_ (State.flag_subdued _ _)
      exact .of_eq rfl (fun _ => rfl) rfl
  exact (hset.trans (State.holdCode_subdued _)).ite hset

theorem State.beginSearch_subdued (s : State) : Subdued s s.beginSearch :=
  Subdued.ite (.of_eq rfl (fun _ => rfl) rfl) (State.toHunt_subdued 0 s)

/-- A search leaves the brake unit to the line code, where one is held. -/
theorem State.beginSearch_brk (s : State) : s.beginSearch.brk = s.brk ∨
    ∃ (u : State) (c : LineCode), u.brk = s.brk ∧ u.mode = s.mode ∧ u.line = s.line ∧ u.pos = s.pos ∧
      u.reports = s.reports ∧ s.beginSearch = u.setLineCode c := by
  unfold State.beginSearch State.toHunt
  dsimp only
  split
  · exact .inl (by simp)
  · split
    · exact .inr ⟨_, _, by simp, by simp, by simp, by simp, by simp, rfl⟩
    · exact .inl (by simp)

theorem State.setLineCode_otherCauses (c : LineCode) (s : State) : (s.setLineCode c).brk.otherCauses = s.brk.otherCauses := by
  unfold State.setLineCode
  dsimp only
  split
  · rfl
  · refine (Brakes.otherCauses_of_unjudged (State.evaluate_unjudged _)).trans ((State.setTerms_otherCauses _ _).trans ?_)
    simp [Brakes.otherCauses]

theorem State.beginSearch_otherCauses (s : State) : s.beginSearch.brk.otherCauses = s.brk.otherCauses := by
  rcases s.beginSearch_brk with h | ⟨u, c, hbrk, -, -, -, -, h⟩
  · rw [h]
  · rw [h, State.setLineCode_otherCauses, hbrk]

theorem State.setLineCode_watched {s : State} (h : s.Watched) (c : LineCode) : (s.setLineCode c).Watched := by
  unfold State.setLineCode
  dsimp only
  split
  · exact h
  · refine State.watched_quiet.evaluate (State.watched_quiet.setTerms (.inl rfl) (State.watched_quiet.flag _ _ ?_))
    exact h

theorem State.beginSearch_watched {s : State} (h : s.Watched) : s.beginSearch.Watched := by
  rcases s.beginSearch_brk with hb | ⟨u, c, hbrk, hmode, -, -, -, hb⟩
  · simpa [State.Watched, hb] using h
  · rw [hb]
    exact State.setLineCode_watched (by simpa [State.Watched, hbrk, hmode] using h) c

/-! ## The modem's outputs in PARKED -/

/-- An entry into a mode only moves the search of the receive side (R159). -/
theorem State.enterMode_rx (m : CarMode) (s : State) : { (s.enterMode m).rx with search := 0 } = { s.rx with search := 0 } := by
  have hpower : ∀ t : State, { t.powerOn.rx with search := 0 } = { t.rx with search := 0 } := fun t => by
    unfold State.powerOn
    split
    · rfl
    · simp
  have hmodem : ∀ t : State, { (t.modemFor m).rx with search := 0 } = { t.rx with search := 0 } := fun t => by
    cases m <;> simp [State.modemFor, hpower]
  have hbrakes : (s.modeBrakes m).rx = s.rx := by
    unfold State.modeBrakes
    dsimp only
    (repeat' split) <;> simp
  rw [State.enterMode_eq]
  split
  · rfl
  · rw [← hbrakes]
    unfold State.modeFollows
    have hdoors : ∀ t : State, (if m = .parked ∨ m = .waking then t.withdrawAll else t).rx = t.rx := fun t => by
      split <;> simp
    have hcount : ∀ t : State, (if m = .parked then t.withBrk { t.brk with rollCount := 0 } else t).rx = t.rx := fun t => by
      split <;> rfl
    simp only [State.syncRollaway_frame, hcount, hmodem, hdoors]

/-- The key released on the entry into PARKED stops the transmitter and cuts the reports (R160, R172, R176). -/
theorem State.enterMode_parked_keyed {s : State} (h : s.mode.mode ≠ .parked) (hkey : s.mode.modemKey = true) :
    (s.enterMode .parked).tx.frameNo = none ∧
      (s.enterMode .parked).reports = { s.reports.cut (oct s.params.carId) with timer := none } := by
  obtain ⟨k, hk⟩ : ∃ k, k = (s.modeBrakes .parked).withdrawAll := ⟨_, rfl⟩
  have hmode : (s.modeBrakes .parked).mode.modemKey = true := by
    rw [(s.modeBrakes_effect .parked).1]
    exact hkey
  have hparts : (s.modeBrakes .parked).reports = s.reports ∧ (s.modeBrakes .parked).params = s.params := by
    simp [State.modeBrakes, CarMode.running]
  have hoff : k.keyOff = (((k.withMode { k.mode with modemKey := false }).withTx
      { k.tx with frameNo := none, half := [], prevCheck := none, alarm := false }).withReports
      { k.reports.cut k.carIdOctet with timer := none }) := by
    have hkeyK : k.mode.modemKey = true := by simp [hk, hmode]
    rw [State.keyOff, if_pos hkeyK]
    rfl
  have henter : s.enterMode .parked =
      (k.keyOff.powerOn.withBrk { k.keyOff.powerOn.brk with rollCount := 0 }).syncRollaway := by
    rw [State.enterMode_eq, if_neg h, hk]
    rfl
  rw [henter, hoff]
  simp [State.carIdOctet, hk, hparts]

/-! ## A car that stands with no authority adds no cause -/

/-- Standing still with no authority. -/
def State.Idle (s : State) : Prop := s.line.authority = none ∧ s.pos.speed = 0 ∧ s.pos.standstill = true

theorem SupState.next_idle (x : SupState) (p e a : Nat) : x.next 0 p e a true ≠ .trip := by
  cases x <;> simp [SupState.next]

theorem State.evalCore_idle {s : State} (h : s.Idle) : s.evalCore.reports = s.reports ∧ s.evalCore.Idle := by
  have hkept : s.evalCore.Idle := by simpa [State.Idle] using h
  obtain ⟨hauth, hspeed, hstand⟩ := h
  have htest : s.measureLimits.eoaTest =
      s.measureLimits.withSup { s.measureLimits.sup with passedMark := false } := by
    simp [State.eoaTest, hauth]
  have hset : ∀ (x : SupState) (t : State), x ≠ .trip → (t.setSupState x).reports = t.reports := fun x t hx => by
    unfold State.setSupState
    dsimp only
    rw [if_neg hx]
    split <;> simp
  refine ⟨?_, hkept⟩
  rw [State.evalCore, htest]
  refine (hset _ _ ?_).trans (by simp)
  simpa [hspeed, hstand] using SupState.next_idle _ _ _ _

theorem State.setContactState_idle (x : ContactState) {s : State} (h : s.Idle) :
    (s.setContactState x).reports = s.reports ∧ (s.setContactState x).Idle := by
  obtain ⟨hauth, hspeed, hstand⟩ := id h
  unfold State.setContactState
  dsimp only
  split
  · exact ⟨rfl, h⟩
  · obtain ⟨u, hu⟩ : ∃ u : State, u = (s.withContact { s.contact with state := x }).flag .radio := ⟨_, rfl⟩
    have hvoid : (if x = .void then u.voidAuthority else u) = u := by
      simp [State.voidAuthority, hu, hauth]
    obtain ⟨hreports, hidle⟩ := State.evalCore_idle
      (s := u.setTerms { u.brk.terms with contact := if x = .void then 100 else 0 })
      (by simpa [State.Idle, hu] using h)
    rw [← hu, hvoid]
    exact ⟨hreports.trans (by simp [hu]), hidle⟩

theorem State.judgeContact_idle {s : State} (h : s.Idle) : s.judgeContact.reports = s.reports ∧ s.judgeContact.Idle := by
  unfold State.judgeContact
  split
  · exact ⟨rfl, h⟩
  · exact State.setContactState_idle _ h

theorem State.setShadow_idle (b : Bool) {s : State} (h : s.Idle) :
    (s.setShadow b).reports = s.reports ∧ (s.setShadow b).Idle := by
  have hjudge : ∀ c : Contact, (s.withContact c).judgeContact.reports = s.reports ∧ (s.withContact c).judgeContact.Idle :=
    fun c => State.judgeContact_idle (s := s.withContact c) h
  unfold State.setShadow
  split
  · exact ⟨rfl, h⟩
  · exact hjudge _

theorem State.evaluate_idle {s : State} (h : s.Idle) : s.evaluate.reports = s.reports ∧ s.evaluate.Idle := by
  obtain ⟨hreports, hidle⟩ := State.evalCore_idle h
  have hshadow : ∀ b, (s.evalCore.setShadow b).reports = s.reports ∧ (s.evalCore.setShadow b).Idle := fun b => by
    obtain ⟨hr, hi⟩ := State.setShadow_idle b hidle
    exact ⟨hr.trans hreports, hi⟩
  unfold State.evaluate State.shadowTest
  dsimp only
  split
  · exact ⟨hreports, hidle⟩
  · split
    · split
      · exact hshadow _
      · exact ⟨hreports, hidle⟩
    · exact hshadow _

theorem State.tokenReaders_reports {s : State} (before : State) (h : s.Idle) :
    (State.tokenReaders before s).reports = s.reports := by
  obtain ⟨hreports, -⟩ := State.evaluate_idle h
  unfold State.tokenReaders
  dsimp only
  split <;> simp [hreports]

theorem State.beginSearch_reports {s : State} (h : s.Idle) : s.beginSearch.reports = s.reports := by
  have hcode : ∀ (c : LineCode) (u : State), u.Idle → (u.setLineCode c).reports = u.reports := fun c u hu => by
    unfold State.setLineCode
    dsimp only
    split
    · simp
    · refine (State.evaluate_idle ?_).1.trans (by simp)
      simpa [State.Idle] using hu
  unfold State.beginSearch State.toHunt
  dsimp only
  split
  · simp
  · split
    · refine (hcode _ _ ?_).trans (by simp)
      simpa [State.Idle] using h
    · simp

end Sys2Proof.Machine

/-! SUPPORT. PARK, and the reports of a join and of an unkeying. -/

namespace Sys2Proof.Machine

/-! ## PARK -/

/-- The state of an accepted PARK before its answer (R192). -/
def State.parkedBy (c : Cab) (s : State) : State := ((s.heard c).tokenTo Token.nobody .parked).beginSearch

/-- PARK's conditions (R192). -/
def State.mayPark (c : Cab) (s : State) : Prop :=
  s.token.driving = some c ∧ s.pos.standstill = true ∧ s.doors.allClosed = true ∧ s.brk.causes.isEmpty = true

theorem exec_park_accepted {s : State} {m : CabMsg} (h : s.admits 23#8 m = true) (hmay : s.mayPark m.cab) :
    exec (.park m) s = .next ((s.parkedBy m.cab).withPort m.cab
      (s.answered 23#8 m .ok [oct (s.parkedBy m.cab).mode.mode.num])) := by
  have hown : ownPark m.cab (s.heard m.cab) = acceptWith (fun t => [oct t.mode.mode.num]) (s.parkedBy m.cab) :=
    if_pos (by simpa [State.mayPark] using hmay)
  have hport : (s.parkedBy m.cab).port m.cab = (s.port m.cab).heard :=
    (State.port_congr (s := s.heard m.cab) (by simp [State.parkedBy]) (by simp [State.parkedBy]) m.cab).trans
      (State.heard_port_same m.cab s)
  exact congrArg Host.Outcome.next (State.cabCommand_acceptedWith h hown hport)

theorem exec_park_refused {s : State} {m : CabMsg} (h : s.admits 23#8 m = true) (hmay : ¬ s.mayPark m.cab) :
    exec (.park m) s = .next (s.refused 23#8 m .stateFails) := by
  have hown : ownPark m.cab (s.heard m.cab) = refuse .stateFails (s.heard m.cab) :=
    if_neg (by simpa [State.mayPark] using hmay)
  exact congrArg Host.Outcome.next (State.cabCommand_refused h hown rfl)

/-- From DRIVE the token falls to nobody, the mode is entered, the readers act, and the search begins (R192, R193). -/
theorem State.parkedBy_eq {c : Cab} {s : State} (hdrive : s.mode.mode = .drive) (hmay : s.mayPark c) :
    s.parkedBy c = (State.tokenReaders (s.heard c)
      (((s.heard c).writeToken Token.nobody).enterMode .parked)).beginSearch := by
  obtain ⟨hdriving, hstand, -⟩ := hmay
  have hne : (s.heard c).token ≠ Token.nobody := fun he => by
    have := congrArg Token.driving he
    simp [hdriving, Token.nobody] at this
  rw [State.parkedBy, State.tokenTo_driving hne (by simpa using hdrive), if_neg (by simp [hstand])]

/-- What PARK leaves (R94, R95, R104, R114, R191 to R193). -/
theorem State.parkedBy_effect {c : Cab} {s : State} (hdrive : s.mode.mode = .drive) (hmay : s.mayPark c) :
    (s.parkedBy c).token = Token.nobody ∧
      (s.parkedBy c).mode = { ModeCtl.timersFor .parked { s.mode with mode := .parked } with
        modemPower := true, modemKey := false } ∧
      (∀ k, k = .token ∨ k = .mode → Flagged (s.parkedBy c) k) ∧
      (∀ b, ((s.parkedBy c).brk.get b).state.energized = false) ∧ (s.parkedBy c).doors.sideReleased = false ∧
      (s.parkedBy c).Watched ∧ (s.parkedBy c).brk.causes.driveLost = false ∧
      (s.mode.modemKey = true → (s.parkedBy c).tx.frameNo = none) := by
  obtain ⟨u, hu⟩ : ∃ u, u = ((s.heard c).writeToken Token.nobody) := ⟨_, rfl⟩
  obtain ⟨v, hv⟩ : ∃ v, v = u.enterMode .parked := ⟨_, rfl⟩
  obtain ⟨w, hw⟩ : ∃ w, w = State.tokenReaders (s.heard c) v := ⟨_, rfl⟩
  have hpark : s.parkedBy c = w.beginSearch := by rw [State.parkedBy_eq hdrive hmay, hw, hv, hu]
  have humode : u.mode = s.mode := by simp [hu, State.writeToken]
  have hfrom : u.mode.mode ≠ .parked := by simp [humode, hdrive]
  obtain ⟨hmode, hflag, hrack, hhold, hside, -, hroll, hcount⟩ := State.enterMode_effect hfrom
  rw [← hv] at hmode hflag hrack hhold hside hroll hcount
  have hsub : Subdued v w.beginSearch := by
    rw [hw]
    exact (State.tokenReaders_effect (s.heard c) v).1.trans (State.beginSearch_subdued _)
  have hvmode : v.mode.mode = .parked := by rw [hmode]; rfl
  have hwatched : v.Watched := ⟨hvmode, by rw [hroll]; simp [State.rollWatch, hvmode], hcount rfl⟩
  have htoken : Flagged v .token := by
    rw [hv, hu]
    exact (State.enterMode_subdued .parked _).flags _ (flagged_flag .token _)
  obtain ⟨-, -, -, hempty⟩ := hmay
  have hcauses : w.beginSearch.brk.otherCauses = s.brk.otherCauses := by
    rw [State.beginSearch_otherCauses, hw, State.tokenReaders_otherCauses, hv, Brakes.otherCauses, State.enterMode_causes, hu]
    simp [State.writeToken, Brakes.otherCauses]
  rw [hpark]
  refine ⟨by simp [hw, hv, hu, State.writeToken], ?_, fun k hk => ?_, fun b => ?_, ?_, ?_, ?_, fun hkey => ?_⟩
  · simp [hw, hmode, humode]
  · rcases hk with rfl | rfl
    · exact hsub.flags _ htoken
    · exact hsub.flags _ hflag
  · cases b
    · exact hsub.valves .rack (hrack rfl)
    · exact hsub.valves .hold (hhold (by decide))
  · simpa [hw] using hside (.inl rfl)
  · rw [hw]
    exact State.beginSearch_watched (State.watched_quiet.tokenReaders _ hwatched)
  · rw [Brakes.otherCauses_driveLost hcauses]
    simp only [CauseSet.isEmpty, Bool.not_eq_true', Bool.or_eq_false_iff] at hempty
    simp [hempty]
  · have := (State.enterMode_parked_keyed hfrom (by rw [humode]; exact hkey)).1
    rw [← hv] at this
    simpa [hw] using this

/-- What PARK leaves of the receive side, the handler and the line code (R148, R158, R159, R193). -/
theorem State.parkedBy_search {c : Cab} {s : State} (hdrive : s.mode.mode = .drive) (hmay : s.mayPark c) :
    (s.parkedBy c).rx.state = .hunt ∧ (s.parkedBy c).rx.search = 0 ∧
      (s.rx.state = .hunt → (s.parkedBy c).rx = { s.rx with search := 0 } ∧ (s.parkedBy c).handler = s.handler) ∧
      (s.rx.state ≠ .hunt → (s.parkedBy c).rx.align = none ∧
        (s.parkedBy c).handler = { s.handler with buffer := [] } ∧ Flagged (s.parkedBy c) .radio) ∧
      (s.rx.state = .checked → s.lineCode.condition = .live → (s.parkedBy c).lineCode =
        { s.lineCode with candidate := none, run := 0, condition := .held, holdTimer := some s.params.degradeMs }) ∧
      (s.rx.state ≠ .checked → (s.parkedBy c).lineCode = s.lineCode) := by
  obtain ⟨w, hw⟩ : ∃ w, w = State.tokenReaders (s.heard c) (((s.heard c).writeToken Token.nobody).enterMode .parked) :=
    ⟨_, rfl⟩
  have hpark : s.parkedBy c = w.beginSearch := by rw [State.parkedBy_eq hdrive hmay, hw]
  have hrx : { w.rx with search := 0 } = { s.rx with search := 0 } := by
    have henter := State.enterMode_rx .parked ((s.heard c).writeToken Token.nobody)
    rw [hw]
    simpa [State.writeToken] using henter
  have hstate : w.rx.state = s.rx.state := by simpa using congrArg RadioRx.state hrx
  have hkept : w.handler = s.handler ∧ w.lineCode = s.lineCode ∧ w.params = s.params := by
    simp [hw, State.writeToken]
  obtain ⟨hhandler, hcode, hparams⟩ := hkept
  have hsearch := w.beginSearch_rx
  rw [hpark]
  by_cases hhunt : s.rx.state = .hunt
  · have hbegin : w.beginSearch = w.withRx { w.rx with search := 0 } := if_pos (hstate.trans hhunt)
    rw [hbegin]
    refine ⟨by simp [hstate, hhunt], by simp, fun _ => ⟨by simpa using hrx, by simpa using hhandler⟩,
      fun h => absurd hhunt h, fun h => ?_, fun _ => by simpa using hcode⟩
    rw [hhunt] at h
    cases h
  · have hne : w.rx.state ≠ .hunt := hstate ▸ hhunt
    have hbegin : w.beginSearch = w.toHunt 0 := if_neg hne
    rw [if_neg hne] at hsearch
    refine ⟨by rw [hsearch], by rw [hsearch]; rfl, fun h => absurd h hhunt, fun _ => ⟨by rw [hsearch]; rfl, ?_, ?_⟩,
      fun hchecked hlive => ?_, fun hother => ?_⟩
    · rw [hbegin, State.toHunt_handler, hhandler]
    · rw [hbegin]
      exact State.toHunt_flagged hne
    · rw [hbegin, State.toHunt_lineCode (hstate.trans hchecked) (hcode ▸ hlive), hcode, hparams]
    · rw [hbegin, State.toHunt, if_neg (hstate ▸ hother)]
      simpa using hcode

/-- Settles O13: the token falls to nobody, the entry into PARKED applies and withdraws, and the search begins. -/
theorem parkTakesTheCarToParked : Obligations.ParkTakesTheCarToParked := by
  intro s m h _ hdriveLaw
  split
  · next hmay =>
    have hdrive : s.mode.mode = .drive := hdriveLaw.2 (by simp [hmay.1])
    obtain ⟨htoken, hmode, hflags, hvalves, hside, ⟨hparked, hrun, hcount⟩, hlost, htx⟩ := State.parkedBy_effect hdrive hmay
    obtain ⟨hhunt, hsearch, hkept, hdropped, hheld, hcode⟩ := State.parkedBy_search hdrive hmay
    refine ⟨_, exec_park_accepted h hmay, ?_⟩
    have hanswers := answers_of_ports s m (t := s.parkedBy m.cab) (kind := 23#8) (code := .ok)
      (p := [oct (s.parkedBy m.cab).mode.mode.num]) (q := [3#8]) (by simp [State.parkedBy]) (by simp [State.parkedBy])
      (by rw [hparked]; rfl)
    have hrest : SameSetup s (s.parkedBy m.cab) ∧ (s.parkedBy m.cab).refusal = s.refusal ∧
        (s.parkedBy m.cab).pos = s.pos ∧ (s.parkedBy m.cab).mon = s.mon := by
      simp [State.parkedBy, SameSetup]
    generalize s.parkedBy m.cab = u at *
    refine ⟨hanswers, by simpa using htoken, by simpa using hparked, (hflags .token (.inl rfl)).congr (by simp),
      (hflags .mode (.inr rfl)).congr (by simp), by simpa [Brakes.get] using hvalves .rack,
      by simpa [Brakes.get] using hvalves .hold, by simpa using hside, fun i => ?_, by simpa using hcount, by simpa using hrun,
      by simpa using hlost, by simp [hmode], by simp [hmode], ?_, ?_, by simpa using htx, by simpa using hhunt,
      by simpa using hsearch, fun hs => ?_, fun hs => ?_, fun hs hlive => ?_, fun hs => ?_, ?_⟩
    · simp [hparked, Leaf.unlockOn, Leaf.driveOpenOn, Leaf.driveCloseOn]
    · simp [hmode, ModeCtl.timersFor, watchPeriod]
    · simp [hmode, ModeCtl.timersFor, windowFirst]
    · obtain ⟨hrx, hhandler⟩ := hkept hs
      exact ⟨by simpa using hrx, by simpa using hhandler, by simpa using hcode (by rw [hs]; decide)⟩
    · obtain ⟨halign, hhandler, hradio⟩ := hdropped hs
      exact ⟨by simpa using halign, by simpa using hhandler, hradio.congr (by simp)⟩
    · simp [hheld hs hlive, Params.degradeMs]
    · simpa using hcode hs
    · simpa [SameSetup] using hrest
  · next hmay => exact exec_park_refused h hmay

end Sys2Proof.Machine

/-! SUPPORT. The ALARM of a joining cause and the reports as the modem is unkeyed. -/

namespace Sys2Proof.Machine

/-! ## The ALARM of a joining cause -/

/-- With the queue full an ALARM takes the place made by the STATUS that waits (R175). -/
theorem Reports.placeAlarm_displaces {r : Reports} {l k : List Slot} {y : Slot} (carId : Octet) (a : Alarm)
    (hempty : r.backlog = []) (hfull : 4 ≤ r.queue.length) (hqueue : r.queue = l ++ y :: k) (hy : y.isWaitingStatus = true)
    (hrest : ∀ z ∈ l ++ k, z.isWaitingStatus = false) :
    r.placeAlarm carId a = { r with queue := l ++ k ++ [Slot.waiting (.alarm a) carId] } := by
  have hkeep : ∀ j : List Slot, (∀ z ∈ j, z.isWaitingStatus = false) → j.filter (fun z => !z.isWaitingStatus) = j :=
    fun j hj => List.filter_eq_self.2 fun z hz => by simp [hj z hz]
  have hl := hkeep l fun z hz => hrest z (List.mem_append_left _ hz)
  have hk := hkeep k fun z hz => hrest z (List.mem_append_right _ hz)
  have hany : r.queue.any Slot.isWaitingStatus = true := by simp [hqueue, hy]
  rw [Reports.placeAlarm, if_neg (by simp [hempty]), if_neg (by simp only [queueSlots]; omega), if_pos hany, hqueue]
  simp [hl, hk, hy]

/-- With the queue full and no STATUS waiting an ALARM goes to the backlog (R175). -/
theorem Reports.placeAlarm_backlog {r : Reports} (carId : Octet) (a : Alarm) (hempty : r.backlog = [])
    (hfull : 4 ≤ r.queue.length) (hnone : ∀ z ∈ r.queue, z.isWaitingStatus = false) :
    r.placeAlarm carId a = { r with backlog := [a] } := by
  rw [Reports.placeAlarm, if_neg (by simp [hempty]), if_neg (by simp only [queueSlots]; omega), if_neg (by simpa using hnone),
    hempty]
  rfl

theorem Reports.placeAlarm_behind {r : Reports} (carId : Octet) (a : Alarm) (h : r.backlog ≠ []) :
    r.placeAlarm carId a = { r with backlog := backlogWith r.backlog a } := if_pos h

/-- An ALARM of a kind the backlog does not hold goes to its end (R175). -/
theorem backlogWith_new {l : List Alarm} {a : Alarm} (h : ∀ b ∈ l, b.kind ≠ a.kind) : backlogWith l a = l ++ [a] :=
  if_neg (by simpa using h)

/-- An ALARM of a kind the backlog holds counts its repeat (R175). -/
theorem backlogWith_repeat {l k : List Alarm} {a b : Alarm} (hb : b.kind = a.kind) (hrest : ∀ z ∈ l ++ k, z.kind ≠ a.kind) :
    backlogWith (l ++ b :: k) a = l ++ { b with repeats := min 255 (b.repeats + 1) } :: k := by
  have hkeep : ∀ j : List Alarm, (∀ z ∈ j, z.kind ≠ a.kind) →
      j.map (fun x => if x.kind = a.kind then { x with repeats := min 255 (x.repeats + 1) } else x) = j := fun j hj => by
    conv => rhs; rw [← List.map_id j]
    exact List.map_congr_left fun z hz => by simp [hj z hz]
  have hl := hkeep l fun z hz => hrest z (List.mem_append_left _ hz)
  have hk := hkeep k fun z hz => hrest z (List.mem_append_right _ hz)
  rw [backlogWith, if_pos (by simp [hb]), List.map_append, List.map_cons, hl, hk, if_pos hb]

/-! ## The reports of an unkeying -/

theorem Reports.cut_number (r : Reports) (carId : Octet) : (r.cut carId).number = r.number := by
  unfold Reports.cut Reports.headLeaves Reports.slotFreed
  (repeat' split) <;> rfl

/-- An unkeying leaves an empty queue and a head not being sent, leaves an ALARM at the head to be sent again, and takes a
STATUS away, whose slot the oldest backlog entry takes (R176). -/
theorem Reports.cut_effect (r : Reports) (carId : Octet) :
    (r.queue = [] → r.cut carId = r) ∧
      ∀ x rest, r.queue = x :: rest →
        (x.sending = false → r.cut carId = r) ∧
        (∀ a, x.sending = true → x.report = .alarm a →
          r.cut carId = { r with queue := { x with sending := false, given := 0 } :: rest }) ∧
        (∀ p, x.sending = true → x.report = .status p →
          r.cut carId = { r with
            queue := rest ++ (r.backlog.head?.toList.map fun a =>
              { report := .alarm a, carId := carId, number := none, sending := false, given := 0 })
            backlog := r.backlog.tail }) := by
  refine ⟨fun hqueue => ?_, fun x rest hqueue => ⟨fun hs => ?_, fun a hs ha => ?_, fun p hs hp => ?_⟩⟩
  · simp only [Reports.cut, hqueue]
  · simp [Reports.cut, hqueue, hs]
  · simp [Reports.cut, hqueue, hs, ha]
  · simp only [Reports.cut, hqueue, hs, hp, if_true, Reports.headLeaves, Reports.slotFreed_eq, List.tail_cons]

/-- PARK of a car that stands without an authority places no report and cuts the one being sent (R176, R192). -/
theorem State.parkedBy_reports {c : Cab} {s : State} (hdrive : s.mode.mode = .drive) (hmay : s.mayPark c)
    (hkey : s.mode.modemKey = true) (hspeed : s.pos.speed = 0) (hauth : s.line.authority = none) :
    (s.parkedBy c).reports = { s.reports.cut (oct s.params.carId) with timer := none } := by
  obtain ⟨u, hu⟩ : ∃ u, u = (s.heard c).writeToken Token.nobody := ⟨_, rfl⟩
  have humode : u.mode = s.mode := by simp [hu, State.writeToken]
  have hcut := (State.enterMode_parked_keyed (s := u) (by simp [humode, hdrive]) (by rw [humode]; exact hkey)).2
  have hidle : (u.enterMode .parked).Idle := by
    obtain ⟨-, hstand, -⟩ := hmay
    simpa [State.Idle, hu, State.writeToken] using ⟨hauth, hspeed, hstand⟩
  have hkept : u.reports = s.reports ∧ u.params = s.params := by simp [hu, State.writeToken]
  have hreaders : (State.tokenReaders (s.heard c) (u.enterMode .parked)).Idle := by
    have hquiet : ∀ t : State, t.Idle → (State.tokenReaders (s.heard c) t).line.authority = none := fun t ht => by
      obtain ⟨-, hline, -⟩ := State.evaluate_idle ht
      unfold State.tokenReaders
      dsimp only
      split <;> simpa using hline
    obtain ⟨-, hs, hst⟩ := id hidle
    exact ⟨hquiet _ hidle, by simpa using hs, by simpa using hst⟩
  rw [State.parkedBy_eq hdrive hmay, ← hu, State.beginSearch_reports hreaders, State.tokenReaders_reports _ hidle, hcut,
    hkept.1, hkept.2]

/-- Settles O53: the join places one ALARM by the queue and the backlog, and the unkeying of PARK cuts the report being
sent. -/
theorem alarmsArePlacedAndReportsCut : Obligations.AlarmsArePlacedAndReportsCut := by
  refine fun s => ⟨fun m rest f a x htakes hpayload hlive hf ha hx => ?_,
    fun m h hdriving hstand hclosed hempty hdrive hkey hspeed hauth => ?_⟩
  · obtain ⟨u, hu⟩ : ∃ u, u = s.heardOrder.withHandler { s.heardOrder.handler with stopEmergency := true } := ⟨_, rfl⟩
    have hown : ownStopEmergency m.payload s.heardOrder = accept (u.addCause .valleyStop) := by
      simp [ownStopEmergency, hpayload, hu]
    have hexec : exec (.stopEmergency m) s = .next ((u.addCause .valleyStop).orderAccepted m.order) :=
      congrArg Host.Outcome.next (State.valleyCommand_accepted htakes hown)
    have hkept : u.brk = s.brk ∧ u.reports = s.reports ∧ u.params = s.params ∧ u.pos = s.pos ∧
        u.mode.mode = s.mode.mode := by
      rw [hu, State.heardOrder_live hlive]
      simp [State.windowMoves]
    obtain ⟨hbrk, hreports, hparams, hpos, hmode⟩ := hkept
    have hadd : u.addCause .valleyStop = if s.brk.causes.valleyStop = true then u else u.joinCause .valleyStop := by
      rw [State.addCause_eq (by decide), hbrk]
      rfl
    have hfirst : u.firstAfter .valleyStop = some f := by
      rw [State.firstAfter, hbrk]
      split at hf
      · next hempty => rw [if_pos hempty, hf, State.firstCauseNow, hpos, hmode]
      · next hheld => rw [if_neg hheld, hf]
    refine ⟨_, hexec, fun hheld => ?_, fun hnot => ?_⟩
    · rw [hadd, if_pos hheld]
      simpa using hreports
    · rw [hadd, if_neg (by simp [hnot])]
      obtain ⟨hterms, -, hfirstE, -, hflag⟩ := u.joinCause_effect .valleyStop
      have hslot : Slot.waiting (.alarm a) (oct s.params.carId) = x := by rw [hx]; rfl
      have hplaced : ((u.joinCause .valleyStop).orderAccepted m.order).reports =
          s.reports.placeAlarm (oct s.params.carId) a := by
        have := u.joinCause_reports .valleyStop
        simp only [hfirst, hreports, State.carIdOctet, hparams] at this
        rw [ha, ← this]
        simp
      have hkind : a.kind = .valleyStop := by rw [ha]
      refine ⟨?_, hflag.congr (by simp), ?_, fun hnone hroom => ?_, fun hnone hfull => ⟨fun l y r hqueue hy hz => ?_,
        fun hz => ?_⟩, fun hsome => ⟨fun hnew => ?_, fun l b r hback hb hz => ?_⟩⟩
      · simpa [hfirst] using hfirstE
      · simp [hterms]
      · rw [hplaced, Reports.placeAlarm_room hnone hroom, hslot]
      · rw [hplaced, Reports.placeAlarm_displaces _ _ hnone hfull hqueue hy hz, hslot]
      · rw [hplaced, Reports.placeAlarm_backlog _ _ hnone hfull hz]
      · rw [hplaced, Reports.placeAlarm_behind _ _ hsome, backlogWith_new (hkind ▸ hnew)]
      · rw [hplaced, Reports.placeAlarm_behind _ _ hsome, hback, backlogWith_repeat (hb.trans hkind.symm) (hkind ▸ hz)]
  · have hmay : s.mayPark m.cab := ⟨hdriving, hstand, hclosed, hempty⟩
    obtain ⟨-, hmode, -⟩ := State.parkedBy_effect hdrive hmay
    have hreports := State.parkedBy_reports hdrive hmay hkey hspeed hauth
    obtain ⟨hnone, hcut⟩ := s.reports.cut_effect (oct s.params.carId)
    refine ⟨_, exec_park_accepted h hmay, by simp [hmode], by simp [hreports], by simp [hreports, Reports.cut_number],
      fun hqueue => ?_, fun x rest hqueue => ?_⟩
    · simp [hreports, hnone hqueue, hqueue]
    · obtain ⟨hwaits, halarm, hstatus⟩ := hcut x rest hqueue
      refine ⟨fun hs => ?_, fun a hs ha => ?_, fun p hs hp => ?_⟩
      · simp [hreports, hwaits hs]
      · simp [hreports, halarm a hs ha]
      · simp [hreports, hstatus p hs hp]

end Sys2Proof.Machine

/-! SUPPORT. What an evaluation leaves of supervision, and the loss of a cab: SILENCE_TIMER_EXPIRY. -/

namespace Sys2Proof.Machine

/-! ## The supervision unit after an evaluation -/

/-- The front end has passed the EOA of a standing authority (R80). -/
def State.eoaBehind (s : State) : Bool :=
  match s.line.authority with
  | none => false
  | some a => s.passedEoa a

theorem State.eoaBehind_some {s : State} {a : Authority} (h : s.line.authority = some a) : s.eoaBehind = s.passedEoa a := by
  rw [State.eoaBehind, h]

/-- The EOA test leaves supervision but for the passed mark, which says what it found (R80). -/
theorem State.eoaTest_sup (s : State) : s.eoaTest.sup = { s.sup with passedMark := s.eoaBehind } := by
  unfold State.eoaTest
  split
  · next ha => simp [State.eoaBehind, ha]
  · next a ha =>
    rw [State.eoaBehind_some ha]
    split
    · next hp =>
      split
      · next hm => rw [hp, ← hm]
      · simp [hp]
    · next hp => simp [hp]

/-- What an evaluation makes of supervision (R60, R77, R80). -/
theorem State.evalCore_sup (s : State) :
    s.evalCore.sup = { s.measureLimits.sup with
      passedMark := s.eoaBehind
      state := s.sup.state.next s.pos.speed s.limitNow.value s.params.serviceMargin s.params.emergencyMargin
        s.pos.standstill } := by
  have hbehind : s.measureLimits.eoaBehind = s.eoaBehind := rfl
  rw [State.evalCore, State.setSupState_sup, State.eoaTest_sup, hbehind]
  simp [State.measureLimits]

/-- Without a committed profile P is 0 by NO_PROFILE (R66). -/
theorem State.limitNow_noProfile {s : State} (h : s.line.profile ≠ .valid) :
    s.limitNow.value = 0 ∧ s.limitNow.shown = .noProfile := by
  simp [State.limitNow, h]

/-- A change into a profile state other than VALID: the shadow test is clear and P is 0 by NO_PROFILE (R5, R54, R66). -/
theorem State.profileChanged_uncommitted {s : State} (hprofile : s.line.profile ≠ .valid) :
    s.profileChanged.contact.shadow = false ∧ s.profileChanged.sup.permitted = 0 ∧
      s.profileChanged.sup.limiting = .noProfile := by
  have hline : (s.judgeVersion.flag .lineRecord).line = s.line := by simp
  obtain ⟨u, hu⟩ : ∃ u, u = (s.judgeVersion.flag .lineRecord).setShadow false := ⟨_, rfl⟩
  have htest : (s.judgeVersion.flag .lineRecord).shadowTest = u := by
    rw [hu, State.shadowTest_noProfile (by rwa [hline])]
  obtain ⟨-, -, -, -, -, hstored, -⟩ := State.record_parts (State.setShadow_reacts false (s.judgeVersion.flag .lineRecord)).record
  have hkept : u.line.profile ≠ .valid := by
    rw [← hu, hline] at hstored
    rwa [LineStore.eq_of_stored hstored]
  have hshadow : u.contact.shadow = false := hu ▸ State.setShadow_shadow false _
  obtain ⟨hvalue, hshown⟩ := State.limitNow_noProfile hkept
  unfold State.profileChanged
  rw [htest, State.evaluate_noProfile hkept hshadow, State.evalCore_sup]
  exact ⟨by simpa using hshadow, hvalue, hshown⟩

/-! ## The line store under a change of the token -/

theorem State.tokenReaders_stored (before s : State) : (State.tokenReaders before s).line.stored = s.line.stored := by
  obtain ⟨-, -, -, -, -, hstored, -⟩ := State.record_parts (State.evaluate_reacts s).record
  rw [← hstored]
  unfold State.tokenReaders
  dsimp only
  split <;> simp

/-- A change of the token leaves the line store but for the void flag of the authority (R47). -/
theorem State.setToken_stored (t : Token) (s : State) : (s.setToken t).line.stored = s.line.stored := by
  unfold State.setToken State.tokenTo
  split
  · rfl
  · dsimp only
    rw [State.tokenReaders_stored]
    split <;> simp

/-! ## SILENCE_TIMER_EXPIRY -/

/-- The state once a cab's link is LOST, its token and load untouched (R184). -/
def State.silenced (c : Cab) (s : State) : State := s.withPort c { s.port c with link := .lost, silence := none }

theorem State.silenced_port_same (c : Cab) (s : State) :
    (s.silenced c).port c = { s.port c with link := .lost, silence := none } := by
  cases c <;> rfl

theorem State.silenced_port_other (c : Cab) (s : State) : (s.silenced c).port (otherCab c) = s.port (otherCab c) :=
  State.withPort_port_ne (otherCab_ne c) _ s

@[simp] theorem State.silenced_frame (c : Cab) (s : State) :
    (s.silenced c).params = s.params ∧ (s.silenced c).gates = s.gates ∧ (s.silenced c).token = s.token ∧
      (s.silenced c).refusal = s.refusal ∧ (s.silenced c).line = s.line ∧ (s.silenced c).pos = s.pos ∧
      (s.silenced c).brk = s.brk ∧ (s.silenced c).doors = s.doors ∧ (s.silenced c).flags = s.flags ∧
      (s.silenced c).mode = s.mode ∧ (s.silenced c).handler = s.handler ∧ (s.silenced c).lineCode = s.lineCode ∧
      (s.silenced c).mon = s.mon ∧ (s.silenced c).pending = s.pending := by
  simp [State.silenced]

theorem exec_silence_running {s : State} {c : Cab} {n : Nat} (h : (s.port c).silence = some n) :
    exec (.silenceTimerExpiry c) s = .next ((s.silenced c).cabLost c) := by
  simp [exec, execSilenceTimerExpiry, h, State.silenced]

/-- The loss of the token leaves the line store but for the void flag of the authority (R47). -/
theorem State.tokenLoss_stored (c : Cab) (s : State) : (s.tokenLoss c).line.stored = s.line.stored := by
  unfold State.tokenLoss
  split
  · exact State.setToken_stored _ s
  · split
    · split
      · exact State.setToken_stored _ s
      · rfl
    · rfl

/-- A cab whose load is not pending loses the token alone (R12, R184). -/
theorem State.cabLost_noLoad {c : Cab} {s : State} (h : s.line.profile ≠ .loading ∨ s.line.loader ≠ some c) :
    s.cabLost c = s.tokenLoss c := by
  have hkept : ¬ ((s.tokenLoss c).line.profile = .loading ∧ (s.tokenLoss c).line.loader = some c) := by
    rw [LineStore.eq_of_stored (State.tokenLoss_stored c s)]
    exact fun hall => h.elim (· hall.1) (· hall.2)
  rw [State.cabLost, State.abandonLoad, if_neg hkept]

/-- With nobody driving there is no token to lose (R141). -/
theorem State.tokenLoss_idle {c : Cab} {s : State} (h : s.token.driving = none) : s.tokenLoss c = s := by
  simp [State.tokenLoss, h]

/-- A load abandoned leaves the profile EMPTY with its tables and its record emptied (R5, R12). -/
theorem State.abandonLoad_effect {c : Cab} {s : State} (hload : s.line.profile = .loading) (hloader : s.line.loader = some c) :
    (s.abandonLoad c).line =
        { s.line.cleared .empty none with authority := (s.abandonLoad c).line.authority } ∧
      Flagged (s.abandonLoad c) .lineRecord ∧ (s.abandonLoad c).sup.permitted = 0 ∧
      (s.abandonLoad c).sup.limiting = .noProfile ∧ (s.abandonLoad c).contact.shadow = false := by
  rw [State.abandonLoad, if_pos ⟨hload, hloader⟩]
  obtain ⟨u, hu⟩ : ∃ u, u = s.withLine (s.line.cleared .empty none) := ⟨_, rfl⟩
  have hline : u.line = s.line.cleared .empty none := by simp [hu]
  rw [← hu, ← hline]
  obtain ⟨-, -, -, -, -, hstored, -⟩ := State.record_parts (State.profileChanged_reacts u).record
  obtain ⟨hshadow, hpermitted, hlimiting⟩ := State.profileChanged_uncommitted (s := u) (by simp [hline, LineStore.cleared])
  exact ⟨LineStore.eq_of_stored hstored, State.profileChanged_flagged u, hpermitted, hlimiting, hshadow⟩

/-- The token of a state in which a cab's link has gone LOST (R141). -/
def State.tokenWithout (c : Cab) (s : State) : Token :=
  if s.token.driving = some c then s.tokenLeft
  else if s.token.lendLink = some c then Token.plain (otherCab c)
  else s.token

/-- What a cab's loss makes of the token, and what follows a token that changes (R136, R141, R142). -/
theorem State.tokenLoss_silenced {s : State} (c : Cab) (hlaw : TokenLaw s) (hdriveLaw : DriveLaw s) {t : State}
    (ht : t = (s.silenced c).tokenLoss c) :
    t.token = s.tokenWithout c ∧ (t.token = s.token → t = s.silenced c) ∧
      (t.token ≠ s.token → Flagged t .token ∧ (t.mode.mode = .drive ↔ t.token.driving ≠ none)) ∧
      (s.token.driving = some c ∧ t.token.driving = none →
        t.mode.mode = .ready ∧ (s.pos.standstill = false → t.brk.causes.driveLost = true)) := by
  have hdrive : ∀ d, s.token.driving = some d → (s.silenced c).mode.mode = .drive := fun d hd => by
    simpa using hdriveLaw.2 (by simp [hd])
  by_cases hdriving : s.token.driving = some c
  · have hdrivingU : (s.silenced c).token.driving = some c := by simpa using hdriving
    have hleft : (s.silenced c).tokenLeft = s.tokenWithout c := by
      rw [State.tokenWithout, if_pos hdriving]
      unfold State.tokenLeft
      simp only [State.silenced_frame]
      split
      · next l hl =>
        obtain rfl := hlaw.lender hdriving hl
        have hother : (s.silenced c).eligible (otherCab c) = s.eligible (otherCab c) := by
          simp only [State.eligible, State.silenced_port_other]
        rw [hother]
      · rfl
    obtain ⟨htoken, hmode, hnone, -, hflag, -⟩ := State.setToken_left (hdrive c hdriving) hdrivingU
    have ht' : t = (s.silenced c).setToken (s.silenced c).tokenLeft := by
      rw [ht, State.tokenLoss, if_pos hdrivingU]
    rw [← ht'] at htoken hmode hnone hflag
    have hne : t.token ≠ s.token := by
      rw [htoken]
      simpa using (State.tokenLeft_ne hdrivingU).symm
    refine ⟨htoken.trans hleft, fun he => absurd he hne, fun _ => ⟨hflag, hmode⟩, fun hall => ?_⟩
    obtain ⟨hready, -, hlost⟩ := hnone hall.2
    exact ⟨hready, fun hs => hlost (by simpa using hs)⟩
  · by_cases hlink : s.token.lendLink = some c
    · have hother : s.token.driving = some (otherCab c) := by
        unfold TokenLaw at hlaw
        rw [hlink] at hlaw
        exact hlaw.1
      have ht' : t = (s.silenced c).setToken (Token.plain (otherCab c)) := by
        rw [ht, State.tokenLoss, if_neg (by simpa using hdriving), if_pos (by simpa using hlink)]
        simp [hother]
      have hne : (s.silenced c).token ≠ Token.plain (otherCab c) := Token.plain_ne_lent (by simp [hlink])
      obtain ⟨htoken, hmode, hflag, -⟩ := State.setToken_kept hne (hdrive _ hother) (by simp [Token.plain])
      rw [← ht'] at htoken hmode hflag
      have hsame : t.token ≠ s.token := by
        rw [htoken]
        simpa using hne.symm
      refine ⟨?_, fun he => absurd he hsame, fun _ => ⟨hflag, ?_⟩, fun hall => absurd hall.1 hdriving⟩
      · rw [htoken, State.tokenWithout, if_neg hdriving, if_pos hlink]
      · rw [hmode, htoken]
        exact ⟨fun _ => by simp [Token.plain], fun _ => hdrive _ hother⟩
    · have ht' : t = s.silenced c := by
        rw [ht, State.tokenLoss, if_neg (by simpa using hdriving), if_neg (by simpa using hlink)]
      have htoken : t.token = s.token := by simp [ht']
      refine ⟨?_, fun _ => ht', fun hne => absurd htoken hne, fun hall => absurd hall.1 hdriving⟩
      rw [htoken, State.tokenWithout, if_neg hdriving, if_neg hlink]

/-- Settles O7: the link goes LOST, then the token by the cab's role, then a load that the cab began. -/
theorem silenceLosesLinkAndToken : Obligations.SilenceLosesLinkAndToken := by
  intro s c n hrunning hlaw hdriveLaw
  refine ⟨fun hvalid => ?_, fun hidle hload hloader => ?_, fun hidle hnone => ?_⟩
  · obtain ⟨t, ht⟩ : ∃ t, t = (s.silenced c).tokenLoss c := ⟨_, rfl⟩
    have hexec : exec (.silenceTimerExpiry c) s = .next t := by
      rw [exec_silence_running hrunning, State.cabLost_noLoad (.inl (by simp [hvalid])), ← ht]
    obtain ⟨htoken, hsame, hchanged, hnobody⟩ := State.tokenLoss_silenced c hlaw hdriveLaw ht
    have hports : t.upper = (s.silenced c).upper ∧ t.lower = (s.silenced c).lower := by simp [ht]
    have hport := State.port_congr hports.1 hports.2
    have hline := LineStore.eq_of_stored (State.tokenLoss_stored c (s.silenced c))
    rw [← ht] at hline
    refine ⟨t, hexec, (hport c).trans (State.silenced_port_same c s),
      (hport _).trans (State.silenced_port_other c s), htoken, fun he => ?_, hchanged, hnobody, ?_⟩
    · rw [hsame he]
      simp
    · rw [hline]
      simp [SameSetup, ht]
  · have hexec : exec (.silenceTimerExpiry c) s = .next ((s.silenced c).abandonLoad c) := by
      rw [exec_silence_running hrunning, State.cabLost, State.tokenLoss_idle (by simpa using hidle)]
    obtain ⟨hline, hflag, hpermitted, hlimiting, hshadow⟩ :=
      State.abandonLoad_effect (c := c) (s := s.silenced c) (by simpa using hload) (by simpa using hloader)
    have hport := State.port_congr (s := s.silenced c) (t := (s.silenced c).abandonLoad c) (by simp) (by simp)
    refine ⟨_, hexec, (hport c).trans (State.silenced_port_same c s), (hport _).trans (State.silenced_port_other c s),
      hline.trans ?_, hflag, hpermitted, hlimiting, hshadow, ?_⟩
    · simp [LineStore.cleared]
    · simp [SameSetup]
  · rw [exec_silence_running hrunning, State.cabLost_noLoad (by simpa using hnone), State.tokenLoss_idle (by simpa using hidle)]
    rfl

end Sys2Proof.Machine

/-! SUPPORT. What the doors' withdrawal and an entry into a mode leave of the brake unit: terms but DOOR, causes, watches and a
rollaway count of 0. -/

namespace Sys2Proof.Machine

/-! ## Properties kept by the writes of a withdrawal -/

/-- A property kept by each write that a withdrawal of the doors is made of. -/
structure Closing (P : State → Prop) : Prop where
  apply : ∀ s b, P s → P (s.applyCmd b)
  door : ∀ s n, P s → P (s.setTerms { s.brk.terms with door := n })
  flag : ∀ s k, P s → P (s.flag k)
  doors : ∀ s d, P s → P (s.withDoors d)

/-- A calm property that every apply command keeps and that says nothing of the doors is kept by a withdrawal. -/
theorem Calm.closing {P : State → Prop} (q : Calm P) (happly : ∀ s b, P s → P (s.applyCmd b))
    (hdoors : ∀ s d, P s → P (s.withDoors d)) : Closing P where
  apply := happly
  door _ _ h := q.setTerms (.inl rfl) h
  flag := q.flag
  doors := hdoors

section
variable {P : State → Prop}

theorem Closing.setLeaf (q : Closing P) (i : LeafId) (x : LeafState) (r : Nat) {s : State} (h : P s) :
    P (s.setLeaf i x r) := by
  have hflag := q.flag _ .doors (q.doors s
    (s.doors.putLeaf i { s.doors.leaf i with state := x, timer := leafTimer x, reversals := r }) h)
  unfold State.setLeaf
  dsimp only
  split
  · exact hflag
  · exact q.apply _ _ hflag

theorem Closing.lockLoss (q : Closing P) {s : State} (h : P s) : P s.lockLoss := by
  unfold State.lockLoss
  split
  · exact h
  · exact q.door s 100 h

theorem Closing.settleLeaf (q : Closing P) (i : LeafId) (n : Nat) {s : State} (h : P s) : P (s.settleLeaf i n) := by
  induction n generalizing s with
  | zero => exact h
  | succ n ih =>
    unfold State.settleLeaf
    dsimp only
    split
    · exact h
    · next x r _ =>
      refine ih ?_
      split
      · exact q.lockLoss (q.setLeaf i x r h)
      · exact q.setLeaf i x r h

theorem Closing.withdrawLeaf (q : Closing P) (i : LeafId) {s : State} (h : P s) : P (s.withdrawLeaf i) := by
  unfold State.withdrawLeaf
  split
  case h_1 | h_2 | h_3 | h_4 => exact q.settleLeaf i 10 (q.setLeaf i _ _ h)
  all_goals exact h

theorem Closing.withdrawSide (q : Closing P) (d : SideId) {s : State} (h : P s) : P (s.withdrawSide d) := by
  have hside : P (s.setSide d .locked) := by
    unfold State.setSide
    split
    · exact h
    · exact q.flag _ _ (q.doors s _ h)
  unfold State.withdrawSide
  split
  · exact h
  · cases d <;> exact q.withdrawLeaf _ (q.withdrawLeaf _ hside)

theorem Closing.withdrawAll (q : Closing P) {s : State} (h : P s) : P s.withdrawAll :=
  q.withdrawSide .b (q.withdrawSide .a h)

end

/-! ## What a withdrawal leaves of the brake unit -/

/-- The terms but DOOR, the causes with their record, and the watches. -/
def Brakes.undoored (b : Brakes) : Terms × CauseSet × Option FirstCause × (Option Nat × Option Nat × Bool) :=
  ({ b.terms with door := 0 }, b.causes, b.first, b.watches)

theorem Brakes.undoored_of_still {b c : Brakes} (h : b.still = c.still) : b.undoored = c.undoored := by
  obtain ⟨hterms, hcauses, hfirst, -⟩ := Brakes.still_iff.1 h
  simp [Brakes.undoored, hterms, hcauses, hfirst, Brakes.watches_of_still h]

theorem Brakes.undoored_parts {b c : Brakes} (h : b.undoored = c.undoored) :
    (b.terms.driver = c.terms.driver ∧ b.terms.vigilance = c.terms.vigilance ∧
      b.terms.supervision = c.terms.supervision ∧ b.terms.contact = c.terms.contact ∧ b.terms.valley = c.terms.valley ∧
      b.terms.emergency = c.terms.emergency) ∧
      b.causes = c.causes ∧ b.first = c.first ∧ b.watches = c.watches := by
  simp only [Brakes.undoored, Prod.mk.injEq, Terms.mk.injEq] at h
  obtain ⟨hterms, hcauses, hfirst, hwatches⟩ := h
  exact ⟨by simp_all, hcauses, hfirst, hwatches⟩

/-- Terms written leave the causes, their record and the watches. -/
theorem State.setTerms_causesWatches (t : Terms) (s : State) : (s.setTerms t).brk.causes = s.brk.causes ∧
    (s.setTerms t).brk.first = s.brk.first ∧ (s.setTerms t).brk.watches = s.brk.watches := by
  obtain ⟨-, hcauses, hfirst, -⟩ := State.setTerms_effect t s
  exact ⟨hcauses, hfirst, State.setTerms_brkWatches t s⟩

theorem Brakes.undoored_closing (x : Terms × CauseSet × Option FirstCause × (Option Nat × Option Nat × Bool)) :
    Closing fun t => t.brk.undoored = x where
  apply s b h := (Brakes.undoored_of_still (State.applyCmd_still b s)).trans h
  door s n h := by
    obtain ⟨hcauses, hfirst, hwatches⟩ := State.setTerms_causesWatches { s.brk.terms with door := n } s
    rw [← h, Brakes.undoored, hcauses, hfirst, hwatches, (State.setTerms_effect _ s).1]
    rfl
  flag s k h := by simpa using h
  doors s d h := h

@[simp] theorem State.withdrawAll_undoored (s : State) : s.withdrawAll.brk.undoored = s.brk.undoored :=
  (Brakes.undoored_closing _).withdrawAll rfl

/-! ## A rollaway count of 0 -/

theorem State.syncRollaway_zero {s : State} (h : s.brk.rollCount = 0) : s.syncRollaway.brk.rollCount = 0 :=
  s.syncRollaway_running.2 h

theorem State.setBrake_zero (b : BrakeId) (x : BrakeState) {s : State} (h : s.brk.rollCount = 0) :
    (s.setBrake b x).brk.rollCount = 0 := by
  unfold State.setBrake
  split
  · exact h
  · have hput : ∀ c : SpringBrake, (s.brk.put b c).rollCount = 0 := fun c => by cases b <;> exact h
    have hzero := State.syncRollaway_zero (s := ((s.withBrk (s.brk.put b { s.brk.get b with
      state := x, timer := brakeTimer x })).flag .brakes).settleOutputs) (by rw [(State.settleOutputs_roll _).2]; simp [hput])
    simpa using hzero

theorem State.applyCmd_zero (b : BrakeId) {s : State} (h : s.brk.rollCount = 0) : (s.applyCmd b).brk.rollCount = 0 := by
  unfold State.applyCmd
  split
  case h_1 | h_2 =>
    dsimp only
    split
    · exact State.setBrake_zero _ _ (State.setBrake_zero _ _ h)
    · exact State.setBrake_zero _ _ h
  all_goals exact h

theorem Brakes.zeroCount_quiet : Quiet fun t => t.brk.rollCount = 0 where
  rack s h := State.applyCmd_zero .rack h
  hold s _ h := State.applyCmd_zero .hold h
  settle s t _ h := by
    rw [(State.settleOutputs_roll _).2]
    exact h
  cause s j f h := h
  flag s k h := by simpa using h
  sup s x h := h
  contact s x h := h
  authority s a h := h
  reports s x h := h
  vigilance s v h := h
  reselect s h := rfl

/-! ## The entry into a mode -/

/-- A property kept by each write that an entry into a mode is made of. -/
structure Entering (P : State → Prop) : Prop extends Closing P where
  mode : ∀ s c, P s → P (s.withMode c)
  modem : ∀ s m, P s → P (s.modemFor m)
  zero : ∀ s, P s → P (s.withBrk { s.brk with rollCount := 0 })
  sync : ∀ s, P s → P s.syncRollaway

theorem Entering.enterMode {P : State → Prop} (q : Entering P) (m : CarMode) {s : State} (h : P s) : P (s.enterMode m) := by
  have hfollows : ∀ t : State, P t → P (t.modeFollows m) := fun t ht => by
    unfold State.modeFollows
    dsimp only
    refine q.sync _ ?_
    (repeat' split)
    · exact q.zero _ (q.modem _ _ (q.withdrawAll ht))
    · exact q.zero _ (q.modem _ _ ht)
    · exact q.modem _ _ (q.withdrawAll ht)
    · exact q.modem _ _ ht
  have hbrakes : P (s.modeBrakes m) := by
    have hmode := q.flag _ .mode (q.mode s (ModeCtl.timersFor m { s.mode with mode := m }) h)
    unfold State.modeBrakes
    dsimp only
    (repeat' split)
    · exact hmode
    · exact q.apply _ _ hmode
    · exact q.apply _ _ hmode
    · exact q.apply _ _ (q.apply _ _ hmode)
  rw [State.enterMode_eq]
  split
  · exact h
  · exact hfollows _ hbrakes

theorem Brakes.undoored_entering (x : Terms × CauseSet × Option FirstCause × (Option Nat × Option Nat × Bool)) :
    Entering fun t => t.brk.undoored = x where
  toClosing := Brakes.undoored_closing x
  mode s c h := h
  modem s m h := by simpa using h
  zero s h := h
  sync s h := (Brakes.undoored_of_still (State.syncRollaway_parts s).1).trans h

@[simp] theorem State.enterMode_undoored (m : CarMode) (s : State) : (s.enterMode m).brk.undoored = s.brk.undoored :=
  (Brakes.undoored_entering _).enterMode m rfl

theorem Brakes.zeroCount_entering : Entering fun t => t.brk.rollCount = 0 where
  toClosing := Brakes.zeroCount_quiet.closing (fun _ b h => State.applyCmd_zero b h) fun _ _ h => h
  mode s c h := h
  modem s m h := by simpa using h
  zero s h := rfl
  sync s h := State.syncRollaway_zero h

end Sys2Proof.Machine

/-! SUPPORT. A new record of the control inputs: CAB_STATE. -/

namespace Sys2Proof.Machine

/-! ## The payload -/

theorem boolOf_octBool (b : Bool) : boolOf (octBool b).toNat = some b := by cases b <;> rfl

/-- A payload whose fields are in range carries a record (Table 10-2). -/
theorem readControls_inRange (r : Controls) (sel : Octet) (rest : List Octet) (hsel : selectorOf sel.toNat = some r.selector)
    (hlever : r.lever ≤ 100) :
    readControls (octBool r.key :: sel :: oct r.lever :: octBool r.deadman :: octBool r.button :: rest) = some r := by
  have hoct : (oct r.lever).toNat = r.lever := by simp [oct]; omega
  simp [readControls, boolOf_octBool, hsel, hoct, hlever]

theorem boolOf_none {n : Nat} (h : 1 < n) : boolOf n = none := by
  unfold boolOf
  split <;> first | omega | rfl

theorem selectorOf_none {n : Nat} (h : 2 < n) : selectorOf n = none := by
  unfold selectorOf
  split <;> first | omega | rfl

/-- A payload that is short or has a field out of range carries none (R199). -/
theorem readControls_short {p : List Octet} (h : p.length < 5) : readControls p = none := by
  unfold readControls
  split
  · simp at h; omega
  · rfl

theorem readControls_outOfRange {k sel lever dead button : Octet} {rest : List Octet}
    (h : 1 < k.toNat ∨ 2 < sel.toNat ∨ 100 < lever.toNat ∨ 1 < dead.toNat ∨ 1 < button.toNat) :
    readControls (k :: sel :: lever :: dead :: button :: rest) = none := by
  unfold readControls
  dsimp only
  split
  · next hk hs hd hb =>
    have hlever : ¬ lever.toNat ≤ 100 := by
      rcases h with h | h | h | h | h
      · simp [boolOf_none h] at hk
      · simp [selectorOf_none h] at hs
      · omega
      · simp [boolOf_none h] at hd
      · simp [boolOf_none h] at hb
    exact if_neg hlever
  · rfl

/-! ## The loss of the cab -/

theorem State.setToken_token (t : Token) (s : State) : (s.setToken t).token = t := by
  by_cases h : s.token = t
  · rw [State.setToken, State.tokenTo, if_pos h, h]
  · obtain ⟨-, -, htoken, -⟩ := State.fixed_parts (State.tokenTo_turns (m := t.mode) h).fixed
    exact htoken.trans (by simp [State.writeToken])

/-- A cab lost does not drive (R141). -/
theorem State.tokenLoss_driving {c : Cab} {s : State} (hlaw : TokenLaw s) : (s.tokenLoss c).token.driving ≠ some c := by
  unfold State.tokenLoss
  split
  · next hdriving =>
    rw [State.setToken_token, State.tokenLeft]
    split
    · next l hl =>
      obtain rfl := hlaw.lender hdriving hl
      split
      · simpa [Token.plain] using otherCab_ne c
      · simp [Token.nobody]
    · simp [Token.nobody]
  · next hdriving =>
    split
    · split
      · next d hd =>
        rw [State.setToken_token]
        simpa [Token.plain, hd] using hdriving
      · exact hdriving
    · exact hdriving

/-- A cause held stays held when the car mode changes. -/
theorem State.changeMode_held {k : CauseKind} (m : CarMode) {s : State} (h : s.brk.causes.has k = true) :
    (s.changeMode m).brk.causes.has k = true := by
  rcases s.changeMode_cases m with hc | hc <;> rw [hc]
  · rwa [State.enterMode_causes]
  · obtain ⟨hemergency, -⟩ := State.releaseRack_effect (s.enterMode m)
    simp only [Brakes.emergency, Prod.mk.injEq] at hemergency
    rwa [hemergency.1, State.enterMode_causes]

theorem State.setToken_held {k : CauseKind} (t : Token) {s : State} (h : s.brk.causes.has k = true) :
    (s.setToken t).brk.causes.has k = true := by
  have hq := CauseSet.held_quiet k
  have hchange := State.changeMode_held t.mode (s := (s.withToken t).flag .token) (by simpa using h)
  unfold State.setToken State.tokenTo
  split
  · exact h
  · refine hq.tokenReaders s ?_
    split
    · exact hq.addCause (by decide) hchange
    · exact hchange

theorem State.profileChanged_held {k : CauseKind} {s : State} (h : s.brk.causes.has k = true) :
    s.profileChanged.brk.causes.has k = true := by
  have hq := CauseSet.held_quiet k
  exact hq.evaluate (hq.shadowTest (by simpa using h))

/-- A cause held stays held when a cab is lost. -/
theorem State.cabLost_held {k : CauseKind} (c : Cab) {s : State} (h : s.brk.causes.has k = true) :
    (s.cabLost c).brk.causes.has k = true := by
  have hloss : (s.tokenLoss c).brk.causes.has k = true := by
    unfold State.tokenLoss
    (repeat' split)
    · exact State.setToken_held _ h
    · exact State.setToken_held _ h
    all_goals exact h
  rcases (s.tokenLoss c).abandonLoad_cases c with hc | ⟨-, hc⟩ <;> rw [State.cabLost, hc]
  · exact hloss
  · exact State.profileChanged_held hloss

/-- A cab lost abandons the load it began, and leaves any other line store but for the void flag of the authority (R12). -/
theorem State.cabLost_line (c : Cab) (s : State) :
    if s.line.profile = .loading ∧ s.line.loader = some c then
      (s.cabLost c).line = { s.line.cleared .empty none with authority := (s.cabLost c).line.authority } ∧
        Flagged (s.cabLost c) .lineRecord
    else (s.cabLost c).line = { s.line with authority := (s.cabLost c).line.authority } := by
  obtain ⟨u, hu⟩ : ∃ u, u = s.tokenLoss c := ⟨_, rfl⟩
  have hline : u.line = { s.line with authority := u.line.authority } := by
    rw [hu]
    exact LineStore.eq_of_stored (State.tokenLoss_stored c s)
  have hprofile : u.line.profile = s.line.profile ∧ u.line.loader = s.line.loader := by
    rw [hline]
    exact ⟨rfl, rfl⟩
  rw [State.cabLost, ← hu]
  split
  · next h =>
    obtain ⟨hcleared, hflag, -⟩ := State.abandonLoad_effect (s := u) (hprofile.1.trans h.1) (hprofile.2.trans h.2)
    refine ⟨hcleared.trans ?_, hflag⟩
    rw [hline]
    rfl
  · next h =>
    rw [State.abandonLoad, if_neg (by rwa [hprofile.1, hprofile.2])]
    exact hline

end Sys2Proof.Machine

/-! SUPPORT. CAB_STATE: what its record makes of the state, and its obligation. -/

namespace Sys2Proof.Machine

/-! ## The key and the button -/

theorem State.putControls_port_same (c : Cab) (r : Controls) (s : State) :
    (s.putControls c r).port c = { s.port c with controls := some r } := by
  cases c <;> rfl

@[simp] theorem State.putControls_frame (c : Cab) (r : Controls) (s : State) :
    (s.putControls c r).params = s.params ∧ (s.putControls c r).gates = s.gates ∧ (s.putControls c r).token = s.token ∧
      (s.putControls c r).refusal = s.refusal ∧ (s.putControls c r).line = s.line ∧ (s.putControls c r).pos = s.pos ∧
      (s.putControls c r).mon = s.mon ∧ (s.putControls c r).mode = s.mode ∧
      (s.putControls c r).pending = s.pending := by
  simp [State.putControls]

/-- A new record with the button PRESSED adds CAB_EMERGENCY (R100). -/
def State.takeButton (c : Cab) (r : Controls) (s : State) : State :=
  if r.button then (s.putControls c r).addCause .cabEmergency else s.putControls c r

theorem State.takeKey_eq (c : Cab) (r : Controls) (s : State) : s.takeKey c r =
    if (s.port c).keyOn ∧ r.key = false then (s.takeButton c r).cabLost c else s.takeButton c r := rfl

@[simp] theorem State.takeButton_frame (c : Cab) (r : Controls) (s : State) :
    (s.takeButton c r).params = s.params ∧ (s.takeButton c r).gates = s.gates ∧ (s.takeButton c r).token = s.token ∧
      (s.takeButton c r).refusal = s.refusal ∧ (s.takeButton c r).line = s.line ∧ (s.takeButton c r).pos = s.pos ∧
      (s.takeButton c r).mon = s.mon ∧ (s.takeButton c r).mode = s.mode ∧
      (s.takeButton c r).pending = s.pending ∧ (s.takeButton c r).upper = (s.putControls c r).upper ∧
      (s.takeButton c r).lower = (s.putControls c r).lower := by
  unfold State.takeButton
  split <;> simp

@[simp] theorem State.takeKey_frame (c : Cab) (r : Controls) (s : State) :
    (s.takeKey c r).params = s.params ∧ (s.takeKey c r).gates = s.gates ∧ (s.takeKey c r).refusal = s.refusal ∧
      (s.takeKey c r).pos = s.pos ∧ (s.takeKey c r).mon = s.mon ∧ (s.takeKey c r).pending = s.pending ∧
      (s.takeKey c r).upper = (s.putControls c r).upper ∧ (s.takeKey c r).lower = (s.putControls c r).lower := by
  rw [State.takeKey_eq]
  split <;> simp

/-- With the key ON no cab is lost: token, mode and line store are as before (R185). -/
theorem State.takeKey_on {c : Cab} {r : Controls} {s : State} (h : r.key = true) :
    s.takeKey c r = s.takeButton c r := by
  rw [State.takeKey_eq, if_neg (by simp [h])]

theorem State.takeKey_button {c : Cab} {r : Controls} {s : State} (h : r.button = true) :
    (s.takeKey c r).brk.causes.has .cabEmergency = true := by
  have hheld : (s.takeButton c r).brk.causes.has .cabEmergency = true := by
    rw [State.takeButton, if_pos h]
    exact (State.addCause_effect (by decide) _).1
  rw [State.takeKey_eq]
  split
  · exact State.cabLost_held c hheld
  · exact hheld

/-- A cab whose key has gone OFF does not drive (R141). -/
theorem State.takeKey_off {c : Cab} {r : Controls} {s : State} (hlaw : TokenLaw s) (hon : (s.port c).keyOn = true)
    (hoff : r.key = false) : (s.takeKey c r).token.driving ≠ some c := by
  have hloss := State.tokenLoss_driving (c := c) (s := s.takeButton c r) (hlaw.congr (by simp))
  rw [State.takeKey_eq, if_pos ⟨hon, hoff⟩]
  simpa [State.cabLost] using hloss

/-- A key gone OFF abandons the load its cab began (R12). -/
theorem State.takeKey_line (c : Cab) (r : Controls) (s : State) :
    if r.key = false ∧ (s.port c).keyOn = true ∧ s.line.profile = .loading ∧ s.line.loader = some c then
      (s.takeKey c r).line = { s.line.cleared .empty none with authority := (s.takeKey c r).line.authority } ∧
        Flagged (s.takeKey c r) .lineRecord
    else (s.takeKey c r).line = { s.line with authority := (s.takeKey c r).line.authority } := by
  have hline : (s.takeButton c r).line = s.line := by simp
  have hlost := State.cabLost_line c (s.takeButton c r)
  rw [hline] at hlost
  rw [State.takeKey_eq]
  by_cases hkey : (s.port c).keyOn = true ∧ r.key = false
  · rw [if_pos hkey]
    by_cases hload : s.line.profile = .loading ∧ s.line.loader = some c
    · rw [if_pos hload] at hlost
      rw [if_pos ⟨hkey.2, hkey.1, hload⟩]
      exact hlost
    · rw [if_neg hload] at hlost
      rw [if_neg fun h => hload h.2.2]
      exact hlost
  · rw [if_neg hkey, if_neg fun h => hkey ⟨h.2.1, h.1⟩, hline]

/-! ## The lever, the deadman and the selector -/

/-- A vigilance timer that runs has its conditions (R84). -/
def State.VigilanceJudged (s : State) : Prop :=
  s.brk.vigTimer.isSome = true →
    s.brk.terms.vigilance = 0 ∧ s.deadmanReleased = true ∧ s.pos.standstill = false

theorem State.judgeVigilance_judged (s : State) : s.judgeVigilance.VigilanceJudged := by
  obtain ⟨u, hu⟩ : ∃ u, u = s.endVigilance := ⟨_, rfl⟩
  intro hruns
  have hall : (decide (u.brk.terms.vigilance = 0) && u.deadmanReleased && !u.pos.standstill) = true := by
    refine Classical.byContradiction fun hnot => ?_
    have hnone : s.judgeVigilance.brk.vigTimer = none := by
      rw [hu] at hnot
      exact if_neg hnot
    simp [hnone] at hruns
  simp only [Bool.and_eq_true, decide_eq_true_eq, Bool.not_eq_true'] at hall
  obtain ⟨⟨hterm, hdeadman⟩, hstand⟩ := hall
  rw [hu] at hterm hdeadman hstand
  exact ⟨hterm, hdeadman, hstand⟩

theorem State.deadmanReleased_congr {s t : State} (htoken : t.token = s.token) (hu : t.upper = s.upper)
    (hl : t.lower = s.lower) : t.deadmanReleased = s.deadmanReleased := by
  rw [State.deadmanReleased, State.drivingControls_congr htoken hu hl, State.deadmanReleased]

/-- What leaves vigilance, watches and the driving record leaves the watch judged. -/
theorem State.VigilanceJudged.congr {s t : State} (h : s.VigilanceJudged) (hwatch : t.brk.watches = s.brk.watches)
    (hterm : t.brk.terms.vigilance = s.brk.terms.vigilance) (hfixed : t.fixed = s.fixed) : t.VigilanceJudged := by
  obtain ⟨-, -, htoken, hu, hl, -, hpos, -⟩ := State.fixed_parts hfixed
  simp only [Brakes.watches, Prod.mk.injEq] at hwatch
  unfold State.VigilanceJudged
  rw [hwatch.1, hterm, hpos, State.deadmanReleased_congr htoken hu hl]
  exact h

theorem State.selectedDir_congr {s t : State} (htoken : t.token = s.token) (hu : t.upper = s.upper)
    (hl : t.lower = s.lower) : t.selectedDir = s.selectedDir := by
  simp only [State.selectedDir, htoken, State.port_congr hu hl]

theorem State.selectedDir_heard (c : Cab) (s : State) : (s.heard c).selectedDir = s.selectedDir := by
  have hold : ∀ d, ((s.heard c).port d).controls = (s.port d).controls := fun d => by
    by_cases hd : d = c
    · rw [hd, State.heard_port_same]
      rfl
    · rw [State.heard, State.withPort_port_ne hd]
  simp only [State.selectedDir, State.heard_frame, hold]

theorem State.rollReselect_zero {d : Option Dir} {s : State} (h : s.selectedDir ≠ d) :
    (s.rollReselect d).brk.rollCount = 0 := by
  rw [State.rollReselect, if_neg h]
  rfl

/-- What the lever, the deadman and the selector leave of the brake unit (R83, R84, R104). -/
theorem State.readLever_watches (c : Cab) (r : Controls) (before s : State) :
    (State.readLever c r before s).VigilanceJudged ∧
      ((State.readLever c r before s).selectedDir ≠ before.selectedDir →
        (State.readLever c r before s).brk.rollCount = 0) := by
  obtain ⟨v, hv⟩ : ∃ v, v = s.driverTerm.judgeVigilance := ⟨_, rfl⟩
  obtain ⟨w, hw⟩ : ∃ w, w = if v.token.driving = some c ∧ before.selectorOfCab c ≠ some r.selector then v.evaluate else v :=
    ⟨_, rfl⟩
  have hlever : State.readLever c r before s = w.rollReselect before.selectedDir := by rw [hw, hv]; rfl
  have hvjudged : v.VigilanceJudged := hv ▸ State.judgeVigilance_judged _
  have hwjudged : w.VigilanceJudged := by
    rw [hw]
    split
    · have hfixed := (State.evaluate_reacts v).turns.fixed
      obtain ⟨⟨-, hterm, -⟩, -⟩ := Brakes.unjudged_iff.1 (State.evaluate_unjudged v)
      exact hvjudged.congr (State.evaluate_watches v) hterm hfixed
    · exact hvjudged
  have hfixed := (State.rollReselect_reacts before.selectedDir w).turns.fixed
  have hkept : (w.rollReselect before.selectedDir).brk.watches = w.brk.watches ∧
      (w.rollReselect before.selectedDir).brk.terms = w.brk.terms := by
    unfold State.rollReselect
    split <;> exact ⟨rfl, rfl⟩
  obtain ⟨-, -, htoken, hu, hl, -⟩ := State.fixed_parts hfixed
  rw [hlever]
  refine ⟨hwjudged.congr hkept.1 (by rw [hkept.2]) hfixed, fun hne => State.rollReselect_zero ?_⟩
  rwa [State.selectedDir_congr htoken hu hl] at hne

theorem State.readLever_subdued (c : Cab) (r : Controls) (before s : State) :
    Subdued s (State.readLever c r before s) := by
  have hvigilance : Subdued s s.driverTerm.judgeVigilance :=
    (State.setTerms_subdued _ s).trans (State.judgeVigilance_effect _).1
  have hroll := fun t : State => (State.rollReselect_effect before.selectedDir t).1
  unfold State.readLever
  dsimp only
  split
  · exact hvigilance.trans ((State.evaluate_subdued _).trans (hroll _))
  · exact hvigilance.trans (hroll _)

@[simp] theorem State.readLever_frame (c : Cab) (r : Controls) (before s : State) :
    (State.readLever c r before s).mode = s.mode ∧ (State.readLever c r before s).refusal = s.refusal ∧
      (State.readLever c r before s).mon = s.mon := by
  unfold State.readLever
  dsimp only
  split <;> simp [State.driverTerm]

/-! ## CAB_STATE -/

/-- The vigilance watch and the rollaway count after a new record (R84, R104). -/
theorem State.takeControls_watches (c : Cab) (r : Controls) (s : State) :
    (s.takeControls c r).VigilanceJudged ∧
      ((s.takeControls c r).selectedDir ≠ s.selectedDir → (s.takeControls c r).brk.rollCount = 0) := by
  obtain ⟨x, hx⟩ : ∃ x, x = State.readLever c r s (s.takeKey c r) := ⟨_, rfl⟩
  obtain ⟨hjudged, hzero⟩ := State.readLever_watches c r s (s.takeKey c r)
  rw [← hx] at hjudged hzero
  rw [State.takeControls_eq, ← hx]
  split
  · next hmode =>
    rw [State.changeMode_waking hmode.1]
    have hfixed := (State.enterMode_turns .waking x).fixed
    obtain ⟨⟨-, hterm, -⟩, -, -, hwatches⟩ := Brakes.undoored_parts (State.enterMode_undoored .waking x)
    obtain ⟨-, -, htoken, hu, hl, -⟩ := State.fixed_parts hfixed
    refine ⟨hjudged.congr hwatches hterm hfixed, fun hne => Brakes.zeroCount_entering.enterMode .waking (hzero ?_)⟩
    rwa [State.selectedDir_congr htoken hu hl] at hne
  · exact ⟨hjudged, hzero⟩

theorem State.takeControls_subdued (c : Cab) (r : Controls) (s : State) :
    Subdued (s.takeKey c r) (s.takeControls c r) := by
  have hlever := State.readLever_subdued c r s (s.takeKey c r)
  rw [State.takeControls_eq]
  split
  · next hmode =>
    rw [State.changeMode_waking hmode.1]
    exact hlever.trans (State.enterMode_subdued _ _)
  · exact hlever

/-- A cause held before the lever is read stays held. -/
theorem State.takeControls_held {k : CauseKind} {c : Cab} {r : Controls} {s : State}
    (h : (s.takeKey c r).brk.causes.has k = true) : (s.takeControls c r).brk.causes.has k = true := by
  have hq := CauseSet.held_quiet k
  have hlever : (State.readLever c r s (s.takeKey c r)).brk.causes.has k = true := by
    have hvigilance := hq.judgeVigilance (hq.driverTerm h)
    unfold State.readLever
    dsimp only
    split
    · exact hq.rollReselect _ (hq.evaluate hvigilance)
    · exact hq.rollReselect _ hvigilance
  rw [State.takeControls_eq]
  split
  · exact State.changeMode_held _ hlever
  · exact hlever

@[simp] theorem State.takeControls_frame (c : Cab) (r : Controls) (s : State) :
    (s.takeControls c r).params = s.params ∧ (s.takeControls c r).gates = s.gates ∧
      (s.takeControls c r).refusal = s.refusal ∧ (s.takeControls c r).pos = s.pos ∧
      (s.takeControls c r).mon = s.mon ∧ (s.takeControls c r).pending = s.pending ∧
      (s.takeControls c r).upper = (s.putControls c r).upper ∧
      (s.takeControls c r).lower = (s.putControls c r).lower := by
  have hrest : (s.takeControls c r).refusal = s.refusal ∧ (s.takeControls c r).mon = s.mon := by
    rw [State.takeControls_eq]
    split <;> simp
  obtain ⟨hparams, hgates, -, hu, hl, -, hpos, hpending⟩ := State.fixed_parts (State.takeControls_wakes c r s).fixed
  simp [hrest, hparams, hgates, hu, hl, hpos, hpending, State.driverTerm]

/-- A new record leaves the token and the line store as the key left them (R185). -/
theorem State.takeControls_key (c : Cab) (r : Controls) (s : State) :
    (s.takeControls c r).token = (s.takeKey c r).token ∧
      (s.takeControls c r).line.stored = (s.takeKey c r).line.stored := by
  obtain ⟨-, -, htoken, -, -, hline, -⟩ := State.fixed_parts (State.takeControls_wakes c r s).fixed
  exact ⟨htoken.trans (by simp [State.driverTerm]), hline.trans (by simp [State.driverTerm])⟩

/-- A key ON wakes a PARKED car (R194). -/
theorem State.takeControls_wakesParked {c : Cab} {r : Controls} {s : State} (hkey : r.key = true)
    (hparked : s.mode.mode = .parked) : (s.takeControls c r).mode.mode = .waking := by
  have hmode : (State.readLever c r s (s.takeKey c r)).mode.mode = .parked := by
    rw [State.takeKey_on hkey]
    simpa using hparked
  rw [State.takeControls_eq, if_pos ⟨hmode, hkey⟩, State.changeMode_mode]

/-- A driving cab's lever is the DRIVER term (R83, R185). -/
theorem State.takeControls_lever {c : Cab} {r : Controls} {s : State} (h : (s.takeControls c r).token.driving = some c) :
    (s.takeControls c r).brk.terms.driver = r.lever := by
  have hdriver : DriverTerm (s.takeControls c r) := (State.takeControls_wakes c r s).driverTerm (State.driverTerm_law _)
  have hport : (s.takeControls c r).port c = { s.port c with controls := some r } :=
    (State.port_congr (by simp) (by simp) c).trans (State.putControls_port_same c r s)
  unfold DriverTerm State.drivingControls at hdriver
  rw [h] at hdriver
  simpa [hport] using hdriver

/-- The indication record shows of a port its link and what its record makes of the cab's rank (R186). -/
theorem State.indication_withPort {c : Cab} {p : Port} {s : State} (hlink : p.link = (s.port c).link)
    (hcontrols : p.controls = (s.port c).controls) (d : Cab) : (s.withPort c p).indication d = s.indication d := by
  have hport : ∀ e, ((s.withPort c p).port e).link = (s.port e).link ∧
      ((s.withPort c p).port e).controls = (s.port e).controls := fun e => by
    by_cases he : e = c
    · rw [he, State.withPort_port_same]
      exact ⟨hlink, hcontrols⟩
    · rw [State.withPort_port_ne he]
      exact ⟨rfl, rfl⟩
  have hrank : ∀ e, (s.withPort c p).cabRank e = s.cabRank e := fun e => by
    obtain ⟨hl, hc⟩ := hport e
    simp [State.cabRank, State.eligible, Port.keyOn, hl, hc]
  have hupper : (s.withPort c p).upper.link = s.upper.link := (hport .upper).1
  have hlower : (s.withPort c p).lower.link = s.lower.link := (hport .lower).1
  simp [State.indication, State.radioOctets, State.valleyRank, hrank, hupper, hlower]

theorem Port.withAnswer_link (p : Port) (a : Answer) : (p.withAnswer a).link = p.link ∧
    (p.withAnswer a).controls = p.controls := by
  unfold Port.withAnswer
  split <;> exact ⟨rfl, rfl⟩

/-- Settles O8: the record is replaced, and button, key, lever, deadman and selector go to their readers; a record out of
range is answered RANGE. -/
theorem cabStateReplacesTheRecord : Obligations.CabStateReplacesTheRecord := by
  intro s m h
  refine ⟨fun r sel rest hpayload hsel hlever => ?_, fun hbad => ?_⟩
  · obtain ⟨t, ht⟩ : ∃ t, t = (s.heard m.cab).takeControls m.cab r := ⟨_, rfl⟩
    have hown : ownCabState m.cab m.payload (s.heard m.cab) =
        { st := t, code := .ok, body := fun u => u.indication m.cab } := by
      rw [ownCabState, hpayload, readControls_inRange r sel rest hsel hlever, ht]
    have hnote : t.noteResult .ok 0#8 (.cab m.cab) = t := by simp [State.noteResult, ResultCode.accepted]
    have hport : t.port m.cab = ({ s.port m.cab with controls := some r } : Port).heard := by
      rw [ht, State.port_congr (s := (s.heard m.cab).putControls m.cab r) (by simp) (by simp),
        State.putControls_port_same, State.heard_port_same]
      rfl
    have hother : t.port (otherCab m.cab) = s.port (otherCab m.cab) := by
      rw [ht, State.port_congr (s := (s.heard m.cab).putControls m.cab r) (by simp) (by simp), State.putControls,
        State.withPort_port_ne (otherCab_ne _), State.heard_port_other]
    obtain ⟨y, hy⟩ : ∃ y, y = t.withPort m.cab ((t.port m.cab).withAnswer
      { kind := 0#8, tag := m.tag, code := .ok, payload := t.indication m.cab }) := ⟨_, rfl⟩
    have hexec : exec (.cabState m) s = .next y := by
      rw [hy]
      exact congrArg Host.Outcome.next (State.cabCommand_reply h hown hnote)
    have hindication : y.indication m.cab = t.indication m.cab := by
      obtain ⟨hlink, hcontrols⟩ := Port.withAnswer_link (t.port m.cab)
        { kind := 0#8, tag := m.tag, code := .ok, payload := t.indication m.cab }
      rw [hy, State.indication_withPort hlink hcontrols]
    have hyport : y.port m.cab = (t.port m.cab).withAnswer
        { kind := 0#8, tag := m.tag, code := .ok, payload := y.indication m.cab } := by
      rw [hindication, hy, State.withPort_port_same]
    have hyfixed : y.token = t.token ∧ y.brk = t.brk ∧ y.mode = t.mode ∧ y.line = t.line ∧ y.flags = t.flags ∧
        y.params = t.params ∧ y.gates = t.gates ∧ y.pending = t.pending ∧ y.refusal = t.refusal ∧ y.pos = t.pos ∧
        y.mon = t.mon := by
      simp [hy]
    obtain ⟨htoken, hbrk, hmode, hline, hflags, hparams, hgates, hpending, hrefusal, hpos, hmon⟩ := hyfixed
    have hcontrols : ∀ d, (y.port d).controls = (t.port d).controls := fun d => by
      by_cases hd : d = m.cab
      · rw [hd, hyport, (Port.withAnswer_link _ _).2]
      · rw [hy, State.withPort_port_ne hd]
    have hdriving : y.drivingControls = t.drivingControls := by
      simp only [State.drivingControls, htoken, hcontrols]
    have hdir : y.selectedDir = t.selectedDir := by
      simp only [State.selectedDir, htoken, hcontrols]
    have hfrom : (s.heard m.cab).selectedDir = s.selectedDir := State.selectedDir_heard m.cab s
    obtain ⟨hjudged, hzero⟩ := (s.heard m.cab).takeControls_watches m.cab r
    obtain ⟨htokenT, hstored⟩ := (s.heard m.cab).takeControls_key m.cab r
    have hkeyOn : ((s.heard m.cab).port m.cab).keyOn = (s.port m.cab).keyOn := by
      rw [State.heard_port_same]
      rfl
    have hkeyLine := (s.heard m.cab).takeKey_line m.cab r
    have htline : t.line = { ((s.heard m.cab).takeKey m.cab r).line with authority := t.line.authority } :=
      LineStore.eq_of_stored (ht ▸ hstored)
    rw [← ht] at hjudged hzero htokenT
    refine ⟨y, hexec, by rw [hyport, hport], ?_, fun hb => ?_, fun hd => ?_, fun hk => ?_, fun hk hp => ?_,
      fun hk hon hlaw => ?_, ?_, fun hne => ?_, fun hruns => ?_, ?_⟩
    · rw [hy, State.withPort_port_ne (otherCab_ne _), hother]
    · have hheld := State.takeControls_held (k := .cabEmergency) (State.takeKey_button (c := m.cab) (s := s.heard m.cab) hb)
      rw [hbrk, ht]
      exact hheld
    · rw [hbrk, ht]
      exact State.takeControls_lever (by rw [← ht, ← htoken, hd])
    · rw [htoken, htokenT, State.takeKey_on hk]
      simp
    · rw [hmode, ht]
      exact State.takeControls_wakesParked hk (by simpa using hp)
    · rw [htoken, htokenT]
      exact State.takeKey_off (hlaw.congr (by simp)) (hkeyOn.trans hon) hk
    · rw [hkeyOn] at hkeyLine
      simp only [State.heard_frame] at hkeyLine
      split
      · next hall =>
        rw [if_pos hall] at hkeyLine
        obtain ⟨hcleared, hflag⟩ := hkeyLine
        have hsub := (s.heard m.cab).takeControls_subdued m.cab r
        refine ⟨?_, (ht ▸ hsub.flags _ hflag : Flagged t .lineRecord).congr hflags⟩
        rw [hline, htline, hcleared]
        simp [LineStore.cleared]
      · next hall =>
        rw [if_neg hall] at hkeyLine
        rw [hline, htline, hkeyLine]
    · rw [hbrk]
      exact hzero (by rwa [hdir, ← hfrom] at hne)
    · rw [hbrk] at hruns ⊢
      rw [State.deadmanReleased, hdriving, hpos]
      exact hjudged hruns
    · simp [SameSetup, hparams, hgates, hpending, hrefusal, hpos, hmon, ht]
  · have hread : readControls m.payload = none := by
      rcases hbad with hshort | ⟨k, sel, lever, dead, button, rest, hpayload, hrange⟩
      · exact readControls_short hshort
      · rw [hpayload]
        exact readControls_outOfRange hrange
    have hown : ownCabState m.cab m.payload (s.heard m.cab) =
        { st := s.heard m.cab, code := .range, body := fun u => u.indication m.cab } := by
      rw [ownCabState, hread]
    obtain ⟨t, ht⟩ : ∃ t, t = (s.heard m.cab).withRefusal (some { code := .range, index := 0, valley := false }) := ⟨_, rfl⟩
    have hnote : (s.heard m.cab).noteResult .range 0#8 (.cab m.cab) = t := by
      simp [State.noteResult, ResultCode.accepted, Origin.isValley, ht]
    have hport : t.port m.cab = (s.port m.cab).heard := by
      rw [ht]
      exact (State.port_congr (s := s.heard m.cab) (by rfl) (by rfl) m.cab).trans (State.heard_port_same m.cab s)
    have hcommute : t = (s.withRefusal (some { code := .range, index := 0, valley := false })).withPort m.cab
        (s.port m.cab).heard := by
      rw [ht, State.heard_eq]
      cases m.cab <;> rfl
    have hanswer : ∀ p : List Octet,
        t.withPort m.cab ((s.port m.cab).heard.withAnswer { kind := 0#8, tag := m.tag, code := .range, payload := p }) =
          (s.withRefusal (some { code := .range, index := 0, valley := false })).answer 0#8 m .range p := fun p => by
      rw [hcommute]
      simp only [State.answer, State.answered]
      cases m.cab <;> rfl
    have hreply := State.cabCommand_reply h hown hnote
    rw [hport, hanswer] at hreply
    rw [← hcommute]
    exact congrArg Host.Outcome.next hreply

end Sys2Proof.Machine

/-! SUPPORT. A tooth arrival: what joins ROLLAWAY, the watches, and the position unit. -/

namespace Sys2Proof.Machine

/-! ## ROLLAWAY -/

/-- The state with ROLLAWAY held, joined now or before (R99). -/
def State.rolledAway (s : State) : State := if s.brk.causes.has .rollaway then s else s.joinCause .rollaway

theorem State.rolledAway_held (s : State) : s.rolledAway.brk.causes.has .rollaway = true := by
  unfold State.rolledAway
  split
  · next h => exact h
  · simp [State.joinCause_effect, CauseSet.has_join]

@[simp] theorem State.rolledAway_mode (s : State) : s.rolledAway.mode = s.mode := by
  unfold State.rolledAway
  split <;> simp

/-- ROLLAWAY added in PARKED takes the car to READY, where the cause held keeps the rack brake's valve as it is (R94, R99,
R194). -/
theorem State.addCause_rollaway (s : State) : s.addCause .rollaway =
    if s.mode.mode = .parked then s.rolledAway.enterMode .ready else s.rolledAway := by
  have hempty : (s.rolledAway.enterMode .ready).brk.causes.isEmpty = false := by
    have hroll : s.rolledAway.brk.causes.rollaway = true := s.rolledAway_held
    rw [State.enterMode_causes]
    simp [CauseSet.isEmpty, hroll]
  change (if CauseKind.rollaway = .rollaway ∧ s.rolledAway.mode.mode = .parked then s.rolledAway.changeMode .ready
    else s.rolledAway) = _
  rw [State.rolledAway_mode]
  by_cases hparked : s.mode.mode = .parked
  · rw [if_pos ⟨rfl, hparked⟩, if_pos hparked]
    simp [State.changeMode, hparked, CarMode.running, State.releaseRack, hempty]
  · rw [if_neg fun h => hparked h.2, if_neg hparked]

theorem Calm.rolledAway {P : State → Prop} (q : Calm P) {s : State} (h : P s) : P s.rolledAway := by
  unfold State.rolledAway
  split
  · exact h
  · exact q.joinCause _ h

theorem Calm.addRollaway {P : State → Prop} (q : Calm P) (e : Entering P) {s : State} (h : P s) :
    P (s.addCause .rollaway) := by
  rw [State.addCause_rollaway]
  split
  · exact e.enterMode _ (q.rolledAway h)
  · exact q.rolledAway h

/-- The rollaway watch keeps what a joining cause and an entry into READY keep, whatever the count. -/
theorem Calm.rollTooth {P : State → Prop} (q : Calm P) (e : Entering P)
    (hcount : ∀ s n, P s → P (s.withBrk { s.brk with rollCount := n })) (d : Dir) {s : State} (h : P s) :
    P (s.rollTooth d) := by
  unfold State.rollTooth
  dsimp only
  split
  · split
    · exact q.addRollaway e (hcount s 0 h)
    · exact hcount s _ h
  · exact h

/-! ## The long standstill and the causes at a tooth -/

/-- The hold timer stopped, the standstill not long. -/
def State.NotLong (s : State) : Prop := s.brk.holdTimer = none ∧ s.brk.long = false

theorem State.NotLong.of_watches {s t : State} (h : s.NotLong) (hw : t.brk.watches = s.brk.watches) : t.NotLong := by
  simp only [Brakes.watches, Prod.mk.injEq] at hw
  obtain ⟨-, hhold, hlong⟩ := hw
  exact ⟨hhold.trans h.1, hlong.trans h.2⟩

theorem State.notLong_quiet : Quiet State.NotLong where
  rack s h := h.of_watches (Brakes.watches_of_still (State.applyCmd_still .rack s))
  hold s _ h := h.of_watches (Brakes.watches_of_still (State.applyCmd_still .hold s))
  settle s t _ h := State.NotLong.of_watches (s := s.withBrk { s.brk with terms := t }) h (Brakes.watches_of_still (State.settleOutputs_still _))
  cause s k f h := h
  flag s k h := by simpa [State.NotLong] using h
  sup s x h := h
  contact s x h := h
  authority s a h := h
  reports s x h := h
  vigilance s v h := h
  reselect s h := h

theorem State.notLong_entering : Entering State.NotLong where
  toClosing := State.notLong_quiet.closing
    (fun s b h => h.of_watches (Brakes.watches_of_still (State.applyCmd_still b s))) fun _ _ h => h
  mode s c h := h
  modem s m h := by simpa [State.NotLong] using h
  zero s h := h
  sync s h := h.of_watches (Brakes.watches_of_still (State.syncRollaway_parts s).1)

/-- A flag held stays held. -/
theorem Flagged.quiet (k : FlagKind) : Quiet fun t => Flagged t k where
  rack _ h := h.applyCmd .rack
  hold _ _ h := h.applyCmd .hold
  settle _ _ _ h := (State.settleOutputs_subdued _).flags k h
  cause _ _ _ h := h
  flag _ j h := h.flag j
  sup _ _ h := h
  contact _ _ h := h
  authority _ _ h := h
  reports _ _ h := h
  vigilance _ _ h := h
  reselect _ h := h

theorem Flagged.entering (k : FlagKind) : Entering fun t => Flagged t k where
  toClosing := (Flagged.quiet k).closing (fun _ b h => h.applyCmd b) fun _ _ h => h
  mode _ _ h := h
  modem _ _ h := h.congr (by simp)
  zero _ h := h
  sync _ h := h.congr (by simp)

theorem CauseSet.held_entering (k : CauseKind) : Entering fun t => t.brk.causes.has k = true where
  toClosing := (CauseSet.held_quiet k).closing
    (fun s b h => by rwa [(Brakes.still_iff.1 (State.applyCmd_still b s)).2.1]) fun _ _ h => h
  mode s c h := h
  modem s m h := by simpa using h
  zero s h := h
  sync s h := by rwa [(Brakes.still_iff.1 (State.syncRollaway_parts s).1).2.1]

/-! ## A tooth arrival -/

/-- A tooth up to the watches: the position unit, the long standstill, LINE_END and supervision (R20 to R27, R96). -/
def State.toothMeasured (d : Dir) (micros : Nat) (s : State) : State :=
  ((((s.withPos (s.pos.tooth s.params.maxUnconfirmed d micros)).endLong).lineEndTest d).evaluate)

theorem State.toothArrival_eq (d : Dir) (micros : Nat) (s : State) : s.toothArrival d micros =
    ((((s.toothMeasured d micros).rollTooth d).judgeVigilance).toothDoors s.pos).shadowTest := rfl

@[simp] theorem State.toothMeasured_frame (d : Dir) (micros : Nat) (s : State) :
    (s.toothMeasured d micros).params = s.params ∧ (s.toothMeasured d micros).gates = s.gates ∧
      (s.toothMeasured d micros).token = s.token ∧ (s.toothMeasured d micros).refusal = s.refusal ∧
      (s.toothMeasured d micros).pos = s.pos.tooth s.params.maxUnconfirmed d micros ∧
      (s.toothMeasured d micros).doors = s.doors ∧ (s.toothMeasured d micros).upper = s.upper ∧
      (s.toothMeasured d micros).lower = s.lower ∧ (s.toothMeasured d micros).lineCode = s.lineCode ∧
      (s.toothMeasured d micros).handler = s.handler ∧ (s.toothMeasured d micros).mon = s.mon ∧
      (s.toothMeasured d micros).mode = s.mode ∧ (s.toothMeasured d micros).pending = s.pending := by
  simp [State.toothMeasured, State.endLong]

@[simp] theorem State.toothArrival_frame (d : Dir) (micros : Nat) (s : State) :
    (s.toothArrival d micros).params = s.params ∧ (s.toothArrival d micros).gates = s.gates ∧
      (s.toothArrival d micros).token = s.token ∧ (s.toothArrival d micros).refusal = s.refusal ∧
      (s.toothArrival d micros).pos = s.pos.tooth s.params.maxUnconfirmed d micros ∧
      (s.toothArrival d micros).upper = s.upper ∧ (s.toothArrival d micros).lower = s.lower ∧
      (s.toothArrival d micros).lineCode = s.lineCode ∧ (s.toothArrival d micros).handler = s.handler ∧
      (s.toothArrival d micros).mon = s.mon ∧ (s.toothArrival d micros).pending = s.pending := by
  simp [State.toothArrival_eq]

/-- What follows the rollaway watch at a tooth keeps what an evaluation, the watches and a withdrawal keep. -/
theorem Quiet.toothRest {P : State → Prop} (q : Quiet P) (e : Closing P) (p : Position) {s : State} (h : P s) :
    P ((s.judgeVigilance.toothDoors p).shadowTest) := by
  have hjudged := q.judgeVigilance h
  refine q.shadowTest ?_
  unfold State.toothDoors
  split
  · exact e.withdrawAll hjudged
  · exact hjudged

/-- A tooth keeps what an evaluation, the watches and an entry into READY keep, whatever the count of the watch. -/
theorem Quiet.toothArrival {P : State → Prop} (q : Quiet P) (e : Entering P)
    (hcount : ∀ s n, P s → P (s.withBrk { s.brk with rollCount := n })) {d : Dir} {micros : Nat} {s : State}
    (h : P (s.toothMeasured d micros)) : P (s.toothArrival d micros) :=
  q.toothRest e.toClosing s.pos (q.rollTooth e hcount d h)

/-- The long standstill ends at a tooth and the hold timer stops (R96). -/
theorem State.toothArrival_notLong (d : Dir) (micros : Nat) (s : State) : (s.toothArrival d micros).NotLong := by
  have hend : ((s.withPos (s.pos.tooth s.params.maxUnconfirmed d micros)).endLong).NotLong := ⟨rfl, rfl⟩
  refine State.notLong_quiet.toothArrival State.notLong_entering (fun _ _ h => h) (State.notLong_quiet.evaluate ?_)
  unfold State.lineEndTest
  (repeat' split)
  · exact State.notLong_quiet.addCause (by decide) hend
  · exact hend
  · exact State.notLong_quiet.addCause (by decide) hend
  all_goals exact hend

/-- A tooth leaves the line store but for the void flag of the authority. -/
theorem State.toothArrival_stored (d : Dir) (micros : Nat) (s : State) :
    (s.toothArrival d micros).line.stored = s.line.stored := by
  obtain ⟨-, -, -, -, -, hshadow, -⟩ :=
    State.record_parts (State.shadowTest_reacts ((((s.toothMeasured d micros).rollTooth d).judgeVigilance).toothDoors s.pos)).record
  obtain ⟨-, -, -, -, -, heval, -⟩ := State.record_parts
    (State.evaluate_reacts (((s.withPos (s.pos.tooth s.params.maxUnconfirmed d micros)).endLong).lineEndTest d)).record
  rw [State.toothArrival_eq, hshadow]
  simp only [State.toothDoors_frame, State.judgeVigilance_frame, State.rollTooth_frame]
  rw [State.toothMeasured, heval]
  simp [State.endLong]

/-- Past the line's end LINE_END is held (R23). -/
theorem State.toothArrival_lineEnd {d : Dir} {micros : Nat} {s : State} (hvalid : s.line.profile = .valid)
    (hknown : s.pos.confidence ≠ .unknown)
    (hpast : match d with
      | .up => s.line.lineEnd < countAfter s.pos.count .up
      | .down => countAfter s.pos.count .down < s.params.carLength) :
    (s.toothArrival d micros).brk.causes.has .lineEnd = true := by
  obtain ⟨u, hu⟩ : ∃ u, u = (s.withPos (s.pos.tooth s.params.maxUnconfirmed d micros)).endLong := ⟨_, rfl⟩
  have hq := CauseSet.held_quiet .lineEnd
  have hadded : ∀ t : State, (t.addCause .lineEnd).brk.causes.has .lineEnd = true := fun t =>
    (State.addCause_effect (by decide) t).1
  have hconfidence : u.line.profile = .valid ∧ u.pos.confidence ≠ .unknown := by
    refine ⟨by rw [hu]; exact hvalid, ?_⟩
    have hpos : u.pos = s.pos.tooth s.params.maxUnconfirmed d micros := by simp [hu, State.endLong]
    rw [hpos]
    simp only [Position.tooth]
    split
    · decide
    · exact hknown
  refine hq.toothArrival (CauseSet.held_entering _) (fun _ _ h => h) (hq.evaluate ?_)
  rw [← hu]
  unfold State.lineEndTest
  rw [if_pos hconfidence]
  cases d with
  | up =>
    have hover : (u.line.lineEnd : Int) < u.upperEnd := by
      have hend : u.upperEnd = (countAfter s.pos.count .up : Int) := by rw [hu]; rfl
      have hline : u.line = s.line := by simp [hu, State.endLong]
      rw [hend, hline]
      exact_mod_cast hpast
    simp only [if_pos hover, hadded]
  | down =>
    have hunder : u.lowerEnd < 0 := by
      have hend : u.lowerEnd = (countAfter s.pos.count .down : Int) - s.params.carLength := by rw [hu]; rfl
      rw [hend]
      have : (countAfter s.pos.count .down : Int) < s.params.carLength := by exact_mod_cast hpast
      omega
    simp only [if_pos hunder, hadded]

end Sys2Proof.Machine

/-! SUPPORT. The position unit's events: teeth, sensor faults, marker pulses and the standstill declaration. -/

namespace Sys2Proof.Machine

theorem speedOf_pos {n : Nat} (h : 0 < n) : speedOf n = min 2000 (10000000 / n) := if_neg (by omega)

/-- Across the counted boundary a sensor transition is a tooth (R19). -/
theorem exec_tooth {s : State} {s1 s2 : Level} (micros : Nat) {d : Dir}
    (h : (s.pos.phase, phaseOf s1 s2) = (match d with
      | .up => (Phase.q3, Phase.q0)
      | .down => (Phase.q0, Phase.q3))) :
    exec (.sensorTransition s1 s2 micros) s =
      .next ((s.withPos { s.pos with phase := phaseOf s1 s2 }).toothArrival d micros) := by
  have hclass : transitionOf s.pos.phase (phaseOf s1 s2) = .tooth d := by
    cases d <;> simp only [Prod.mk.injEq] at h <;> rw [h.1, h.2] <;> rfl
  simp [exec, execSensorTransition, hclass]

/-- At the end of standstill, and where confidence leaves CONFIRMED, both sides are LOCKED (R114). -/
theorem State.toothArrival_sides {d : Dir} {micros : Nat} {s : State}
    (h : s.pos.standstill = true ∨ (s.toothArrival d micros).pos.confidence ≠ s.pos.confidence) :
    (s.toothArrival d micros).doors.sideReleased = false := by
  have hleft : s.pos.standstill = true ∨
      (s.pos.confidence = .confirmed ∧ (s.pos.tooth s.params.maxUnconfirmed d micros).confidence ≠ .confirmed) := by
    rcases h with h | h
    · exact .inl h
    · refine .inr ?_
      simp only [State.toothArrival_frame, Position.tooth] at h ⊢
      split at h
      · next hc => exact ⟨hc.1, by rw [if_pos hc]; decide⟩
      · exact absurd rfl h
  rw [State.toothArrival_eq]
  simp only [State.shadowTest_frame]
  rw [State.toothDoors, if_pos (by simpa using hleft)]
  exact State.withdrawAll_sideReleased _

/-- Settles O34: the position unit takes the tooth, and what follows writes only what it may. -/
theorem toothArrivalCountsAndMeasures : Obligations.ToothArrivalCountsAndMeasures := by
  intro s s1 s2 micros d hphase
  obtain ⟨u, hu⟩ : ∃ u, u = s.withPos { s.pos with phase := phaseOf s1 s2 } := ⟨_, rfl⟩
  have hupos : u.pos = { s.pos with phase := phaseOf s1 s2 } := by simp [hu]
  have hparams : u.params = s.params ∧ u.line = s.line := by simp [hu]
  obtain ⟨t, ht⟩ : ∃ t, t = u.toothArrival d micros := ⟨_, rfl⟩
  have hexec : exec (.sensorTransition s1 s2 micros) s = .next t := by rw [exec_tooth micros hphase, ← hu, ht]
  have hpos : t.pos = ({ s.pos with phase := phaseOf s1 s2 } : Position).tooth s.params.maxUnconfirmed d micros := by
    simp [ht, hupos, hparams]
  have hcount : t.pos.count = countAfter s.pos.count d := by rw [hpos]; rfl
  obtain ⟨hhold, hlong⟩ := State.toothArrival_notLong d micros u
  have hline := LineStore.eq_of_stored (State.toothArrival_stored d micros u)
  rw [← ht] at hhold hlong hline
  refine ⟨t, hexec, ?_, by rw [hpos]; rfl, by rw [hpos]; rfl, by rw [hpos]; rfl, by rw [hpos]; rfl, by rw [hpos]; rfl,
    by rw [hpos]; rfl, by rw [hpos]; rfl, fun start hstart hdir hbefore => ?_, fun hfresh => ?_, by rw [hpos]; rfl, hhold,
    hlong, fun hside => ?_, fun hvalid hknown hpast => ?_, ?_⟩
  · rw [hcount]
    cases d <;> rfl
  · rw [hpos]
    simp only [Position.tooth, hdir, hstart, if_true]
    exact speedOf_pos (by omega)
  · rw [hpos]
    simp only [Position.tooth]
    rcases hfresh with hnone | hdir
    · simp [hnone]
    · simp [hdir]
  · rw [ht] at hside ⊢
    exact State.toothArrival_sides (by simpa [hupos] using hside)
  · have hheld := State.toothArrival_lineEnd (s := u) (d := d) (micros := micros) (by rw [hparams.2]; exact hvalid)
      (by rw [hupos]; exact hknown)
    rw [hcount] at hpast
    rw [ht]
    refine hheld ?_
    rw [hparams.1, hparams.2, hupos]
    cases d <;> exact hpast
  · rw [hline]
    simp [SameSetup, ht, hu]

/-! ## Sensor faults -/

theorem exec_step {s : State} {s1 s2 : Level} (micros : Nat) (h : transitionOf s.pos.phase (phaseOf s1 s2) = .step) :
    exec (.sensorTransition s1 s2 micros) s = .next (s.withPos { s.pos with phase := phaseOf s1 s2 }) := by
  simp [exec, execSensorTransition, h]

theorem exec_sensorFault {s : State} {s1 s2 : Level} (micros : Nat)
    (h : transitionOf s.pos.phase (phaseOf s1 s2) = .fault) :
    exec (.sensorTransition s1 s2 micros) s = .next (s.withPos { s.pos with phase := phaseOf s1 s2 }).sensorFault := by
  simp [exec, execSensorTransition, h]

/-- What a change of confidence leaves of position, doors and the causes that no evaluation adds (R24, R114). -/
theorem State.setConfidence_effect (c : Confidence) (s : State) :
    (s.setConfidence c).pos = { s.pos with confidence := c } ∧
      (s.pos.confidence = .confirmed → c ≠ .confirmed → (s.setConfidence c).doors.sideReleased = false) ∧
      (s.setConfidence c).brk.otherCauses = s.brk.otherCauses := by
  unfold State.setConfidence
  split
  · next h =>
    subst h
    exact ⟨rfl, fun hc hne => absurd hc hne, rfl⟩
  · dsimp only
    refine ⟨?_, fun hc _ => ?_, ?_⟩
    · split <;> simp
    · rw [if_pos hc]
      simp
    · rw [Brakes.otherCauses_of_unjudged (State.evaluate_unjudged _)]
      split
      · obtain ⟨-, hcauses, -⟩ := Brakes.undoored_parts
          (State.withdrawAll_undoored (s.withPos { s.pos with confidence := c }))
        rw [Brakes.otherCauses, hcauses]
        rfl
      · rfl

theorem Confidence.doubted_eq (c : Confidence) : c.doubted = if c = .unknown then .unknown else .lost := by
  cases c <;> rfl

/-- What a sensor fault leaves of position, cause set and doors (R21). -/
theorem State.sensorFault_effect (s : State) :
    s.sensorFault.pos = { s.pos with
      runStart := none
      confidence := if s.pos.confidence = .unknown then .unknown else .lost } ∧
      (s.pos.standstill = false → s.sensorFault.brk.causes.has .sensor = true) ∧
      (s.pos.standstill = true → s.sensorFault.brk.otherCauses = s.brk.otherCauses) ∧
      (s.pos.confidence = .confirmed → s.sensorFault.doors.sideReleased = false) := by
  obtain ⟨u, hu⟩ : ∃ u, u = s.withPos { s.pos with runStart := none } := ⟨_, rfl⟩
  obtain ⟨v, hv⟩ : ∃ v, v = if u.pos.standstill then u else u.addCause .sensor := ⟨_, rfl⟩
  have hfault : s.sensorFault = v.setConfidence v.pos.confidence.doubted := by rw [hv, hu]; rfl
  have hvpos : v.pos = { s.pos with runStart := none } := by
    rw [hv]
    split <;> simp [hu]
  have hstand : u.pos.standstill = s.pos.standstill := by simp [hu]
  obtain ⟨hpos, hsides, hcauses⟩ := State.setConfidence_effect v.pos.confidence.doubted v
  rw [hfault]
  refine ⟨?_, fun hmoves => ?_, fun hs => ?_, fun hc => hsides (by rw [hvpos]; exact hc) ?_⟩
  · rw [hpos, hvpos, Confidence.doubted_eq]
  · have hheld : v.brk.causes.has .sensor = true := by
      rw [hv, if_neg (by simp [hstand, hmoves])]
      exact (State.addCause_effect (by decide) u).1
    have hsame : (v.setConfidence v.pos.confidence.doubted).brk.causes.sensor = v.brk.causes.sensor :=
      (congrArg CauseSet.sensor hcauses : _)
    exact hsame.trans hheld
  · rw [hcauses, hv, if_pos (hstand.trans hs), hu]
    rfl
  · rw [hvpos]
    simp [hc, Confidence.doubted_eq]

@[simp] theorem State.sensorFault_frame (s : State) :
    s.sensorFault.params = s.params ∧ s.sensorFault.gates = s.gates ∧ s.sensorFault.token = s.token ∧
      s.sensorFault.refusal = s.refusal ∧ s.sensorFault.upper = s.upper ∧ s.sensorFault.lower = s.lower ∧
      s.sensorFault.rx = s.rx ∧ s.sensorFault.lineCode = s.lineCode ∧ s.sensorFault.tx = s.tx ∧
      s.sensorFault.handler = s.handler ∧ s.sensorFault.mon = s.mon ∧ s.sensorFault.mode = s.mode ∧
      s.sensorFault.pending = s.pending := by
  unfold State.sensorFault
  dsimp only
  split <;> simp

/-- Settles O35: six neighbouring steps move the phase, four double steps are sensor faults. -/
theorem uncountedStepsAndSensorFaults : Obligations.UncountedStepsAndSensorFaults := by
  intro s s1 s2 micros
  refine ⟨fun h => ?_, fun h => ?_⟩
  · refine exec_step micros ?_
    simp only [List.mem_cons, Prod.mk.injEq, List.not_mem_nil, or_false] at h
    rcases h with ⟨hp, hq⟩ | ⟨hp, hq⟩ | ⟨hp, hq⟩ | ⟨hp, hq⟩ | ⟨hp, hq⟩ | ⟨hp, hq⟩ <;> rw [hp, hq] <;> rfl
  · have hclass : transitionOf s.pos.phase (phaseOf s1 s2) = .fault := by
      simp only [List.mem_cons, Prod.mk.injEq, List.not_mem_nil, or_false] at h
      rcases h with ⟨hp, hq⟩ | ⟨hp, hq⟩ | ⟨hp, hq⟩ | ⟨hp, hq⟩ <;> rw [hp, hq] <;> rfl
    obtain ⟨u, hu⟩ : ∃ u, u = s.withPos { s.pos with phase := phaseOf s1 s2 } := ⟨_, rfl⟩
    have hupos : u.pos = { s.pos with phase := phaseOf s1 s2 } := by simp [hu]
    have hubrk : u.brk = s.brk := by simp [hu]
    obtain ⟨hpos, hadded, hkept, hsides⟩ := u.sensorFault_effect
    rw [hupos] at hpos hadded hkept hsides
    refine ⟨u.sensorFault, by rw [exec_sensorFault micros hclass, hu], hpos, hadded, fun hs => ?_, hsides, ?_⟩
    · have hcauses := hkept hs
      rw [hubrk] at hcauses
      exact (congrArg CauseSet.sensor hcauses : _)
    · simp [SameSetup, SameRadio, hu]

/-! ## Datum markers -/

/-- The nearest of two, the marker found before standing where both are equally near (R28). -/
def nearerOf (count b x : Nat) : Nat := if markerGap count x < markerGap count b then x else b

/-- Through a rising list the marker kept is the nearest, the lowest of those equally near (R28). -/
theorem nearest_foldl (count b : Nat) (l : List Nat) (h : (b :: l).Pairwise (· < ·)) {r : Nat}
    (hr : r = l.foldl (nearerOf count) b) :
    ∀ x ∈ b :: l, markerGap count r ≤ markerGap count x ∧ (markerGap count r = markerGap count x → r ≤ x) := by
  induction l generalizing b with
  | nil =>
    obtain rfl : r = b := hr
    intro x hx
    obtain rfl : x = r := by simpa using hx
    exact ⟨Nat.le_refl _, fun _ => Nat.le_refl _⟩
  | cons y l ih =>
    obtain ⟨hb, hrest⟩ := List.pairwise_cons.1 h
    have hby : b < y := hb y (by simp)
    rw [List.foldl_cons, nearerOf] at hr
    intro x hx
    by_cases hnearer : markerGap count y < markerGap count b
    · rw [if_pos hnearer] at hr
      have hall := ih y hrest hr
      rcases List.mem_cons.1 hx with rfl | hx
      · obtain ⟨hle, -⟩ := hall y (by simp)
        exact ⟨by omega, fun he => by omega⟩
      · exact hall x hx
    · rw [if_neg hnearer] at hr
      have hsorted : (b :: l).Pairwise (· < ·) :=
        List.pairwise_cons.2 ⟨fun z hz => hb z (by simp [hz]), (List.pairwise_cons.1 hrest).2⟩
      have hall := ih b hsorted hr
      rcases List.mem_cons.1 hx with rfl | hx
      · exact hall x (by simp)
      · rcases List.mem_cons.1 hx with hxy | hx
        · subst hxy
          obtain ⟨hle, htie⟩ := hall b (by simp)
          exact ⟨by omega, fun he => by have := htie (by omega); omega⟩
        · exact hall x (by simp [hx])

/-- The nearest marker of a rising list is the one that is nearest, the lower of two equally near (R28). -/
theorem nearestMarker_eq {count near : Nat} {l : List Nat} (hmem : near ∈ l) (hsorted : l.Pairwise (· < ·))
    (hnear : ∀ x ∈ l, markerGap count near ≤ markerGap count x ∧
      (markerGap count near = markerGap count x → near ≤ x)) : nearestMarker count l = some near := by
  cases l with
  | nil => simp at hmem
  | cons b l =>
    obtain ⟨r, hr⟩ : ∃ r, r = l.foldl (nearerOf count) b := ⟨_, rfl⟩
    have hfound : nearestMarker count (b :: l) = some r := by rw [hr]; rfl
    obtain ⟨hle, htie⟩ := nearest_foldl count b l hsorted hr near hmem
    obtain ⟨hge, hlow⟩ := hnear r (nearestMarker_mem hfound)
    have hgap : markerGap count near = markerGap count r := by omega
    have : r = near := by
      have := hlow hgap
      have := htie hgap.symm
      omega
    rw [hfound, this]

theorem Confidence.window_eq {c : Confidence} (h : c ≠ .unknown) (w : Nat) :
    c.window w = some (if c = .confirmed ∨ c = .drifting then w else 4 * w) := by
  cases c <;> simp_all [Confidence.window]

/-- What a mismatch leaves of position and doors (R30). -/
theorem State.markerMismatch_effect (s : State) :
    s.markerMismatch.pos = { s.pos with confidence := .lost } ∧
      (s.pos.confidence = .confirmed → s.markerMismatch.doors.sideReleased = false) := by
  unfold State.markerMismatch
  split
  · next h => exact ⟨by simp [← h], fun hc => absurd (h.symm.trans hc) (by decide)⟩
  · obtain ⟨hpos, hsides, -⟩ := State.setConfidence_effect .lost s
    exact ⟨hpos, fun hc => hsides hc (by decide)⟩

@[simp] theorem State.markerMismatch_frame (s : State) :
    s.markerMismatch.params = s.params ∧ s.markerMismatch.gates = s.gates ∧ s.markerMismatch.token = s.token ∧
      s.markerMismatch.refusal = s.refusal ∧ s.markerMismatch.upper = s.upper ∧ s.markerMismatch.lower = s.lower ∧
      s.markerMismatch.rx = s.rx ∧ s.markerMismatch.lineCode = s.lineCode ∧ s.markerMismatch.tx = s.tx ∧
      s.markerMismatch.handler = s.handler ∧ s.markerMismatch.mon = s.mon ∧ s.markerMismatch.mode = s.mode ∧
      s.markerMismatch.pending = s.pending := by
  unfold State.markerMismatch
  split <;> simp

@[simp] theorem State.markerMatch_frame (m : Nat) (s : State) :
    (s.markerMatch m).params = s.params ∧ (s.markerMatch m).gates = s.gates ∧ (s.markerMatch m).token = s.token ∧
      (s.markerMatch m).refusal = s.refusal ∧ (s.markerMatch m).upper = s.upper ∧ (s.markerMatch m).lower = s.lower ∧
      (s.markerMatch m).rx = s.rx ∧ (s.markerMatch m).lineCode = s.lineCode ∧ (s.markerMatch m).tx = s.tx ∧
      (s.markerMatch m).handler = s.handler ∧ (s.markerMatch m).mon = s.mon ∧ (s.markerMatch m).mode = s.mode ∧
      (s.markerMatch m).pending = s.pending ∧
      (s.markerMatch m).pos =
        { s.pos with correction := (m : Int) - s.pos.count, count := m, distance := 0, confidence := .confirmed } := by
  simp [State.markerMatch]

/-- A pulse under a committed profile, in another state than UNKNOWN, is judged against the nearest marker (R28). -/
theorem exec_markerPulse {s : State} (hvalid : s.line.profile = .valid) (hknown : s.pos.confidence ≠ .unknown) :
    exec .markerPulse s = .next (match nearestMarker s.pos.count (s.line.markers.map (·.2)) with
      | some m =>
        if markerGap s.pos.count m ≤ (if s.pos.confidence = .confirmed ∨ s.pos.confidence = .drifting
          then s.params.markerWindow else 4 * s.params.markerWindow) then s.markerMatch m else s.markerMismatch
      | none => s.markerMismatch) := by
  simp only [exec, execMarkerPulse, Confidence.window_eq hknown, hvalid, LineStore.markerList, if_true] <;> rfl

/-- Settles O36: the nearest marker decides between a match and a mismatch. -/
theorem markerPulseMatchesOrLoses : Obligations.MarkerPulseMatchesOrLoses := by
  intro s
  refine ⟨fun h => ?_, fun hvalid hknown => ⟨fun near window hwindow hmem hnear hsorted => ?_, fun hnone => ?_⟩⟩
  · rcases h with h | h
    · simp [exec, execMarkerPulse, h, Confidence.window]
    · cases hw : s.pos.confidence.window s.params.markerWindow <;> simp [exec, execMarkerPulse, hw, h]
  · obtain ⟨e, he, henear⟩ := hmem
    have hfound : nearestMarker s.pos.count (s.line.markers.map (·.2)) = some near := by
      refine nearestMarker_eq (List.mem_map.2 ⟨e, he, henear⟩) hsorted fun x hx => ?_
      obtain ⟨f, hf, rfl⟩ := List.mem_map.1 hx
      exact hnear f hf
    refine ⟨if markerGap s.pos.count near ≤ window then s.markerMatch near else s.markerMismatch, ?_, ?_, ?_⟩
    · rw [exec_markerPulse hvalid hknown, hfound, hwindow]
    · have hgap : markerGap s.pos.count near = ((s.pos.count : Int) - near).natAbs := rfl
      rw [← hgap]
      split
      · simp
      · exact s.markerMismatch_effect.1
    · split <;> simp [SameSetup, SameRadio]
  · obtain ⟨hpos, hsides⟩ := s.markerMismatch_effect
    refine ⟨s.markerMismatch, ?_, hpos, hsides, ?_⟩
    · rw [exec_markerPulse hvalid hknown, hnone]
      rfl
    · simp [SameSetup, SameRadio]

end Sys2Proof.Machine

/-! SUPPORT. The standstill declaration. -/

namespace Sys2Proof.Machine

/-! ## Supervision after an evaluation of any depth -/

/-- The supervision unit is as some evaluation of the records of a state left it. -/
def State.Evaluated (s t : State) : Prop := ∃ v : State, v.fixed = s.fixed ∧ t.sup = v.evalCore.sup

theorem State.evaluated_of_fixed {s v : State} (h : v.fixed = s.fixed) : State.Evaluated s v.evalCore := ⟨v, h, rfl⟩

/-- A contact state that is left leaves supervision; one that changes ends in an evaluation (R55, R57). -/
theorem State.setContactState_sup (x : ContactState) (s : State) :
    (s.setContactState x).sup = s.sup ∨ State.Evaluated s (s.setContactState x) := by
  obtain ⟨u, hu⟩ : ∃ u, u = (s.withContact { s.contact with state := x }).flag .radio := ⟨_, rfl⟩
  obtain ⟨w, hw⟩ : ∃ w, w = if x = .void then u.voidAuthority else u := ⟨_, rfl⟩
  have hset : s.setContactState x = if s.contact.state = x then s
      else (w.setTerms { w.brk.terms with contact := if x = .void then 100 else 0 }).evalCore := by
    rw [hw, hu]
    rfl
  rw [hset]
  split
  · exact .inl rfl
  · refine .inr (State.evaluated_of_fixed ?_)
    have hwfixed : w.fixed = s.fixed := by
      rw [hw]
      split
      · simp [hu, State.fixed, State.voidAuthority_stored]
      · simp [hu, State.fixed]
    rw [← hwfixed]
    simp [State.fixed]

theorem State.judgeContact_sup (s : State) : s.judgeContact.sup = s.sup ∨ State.Evaluated s s.judgeContact := by
  unfold State.judgeContact
  split
  · exact .inl rfl
  · exact State.setContactState_sup _ s

theorem State.setShadow_sup (b : Bool) (s : State) : (s.setShadow b).sup = s.sup ∨ State.Evaluated s (s.setShadow b) := by
  unfold State.setShadow
  split
  · exact .inl rfl
  · exact State.judgeContact_sup _

theorem State.shadowTest_sup (s : State) : s.shadowTest.sup = s.sup ∨ State.Evaluated s s.shadowTest := by
  unfold State.shadowTest
  split
  · split
    · exact State.setShadow_sup _ s
    · exact .inl rfl
  · exact State.setShadow_sup false s

theorem State.evaluate_evaluated (s : State) : State.Evaluated s s.evaluate := by
  unfold State.evaluate
  dsimp only
  split
  · exact State.evaluated_of_fixed rfl
  · rcases s.evalCore.shadowTest_sup with h | ⟨v, hv, h⟩
    · exact ⟨s, rfl, h⟩
    · exact ⟨v, hv.trans (State.evalCore_reacts s).turns.fixed, h⟩

theorem State.travelNow_congr {s t : State} (h : t.fixed = s.fixed) : t.travelNow = s.travelNow := by
  obtain ⟨-, -, htoken, hu, hl, -, hpos, -⟩ := State.fixed_parts h
  simp only [State.travelNow, hpos, State.selectedDir_congr htoken hu hl]

/-- At standstill supervision is never left in TRIP, and goes by the selected direction (R61, R78). -/
theorem State.Evaluated.standstill {s t : State} (h : State.Evaluated s t) (hstand : s.pos.standstill = true)
    (hspeed : s.pos.speed = 0) : t.sup.state ≠ .trip ∧ t.sup.travel = s.selectedDir := by
  obtain ⟨v, hv, hsup⟩ := h
  have htravel : v.travelNow = s.selectedDir := by
    rw [State.travelNow_congr hv, State.travelNow, if_pos hstand]
  obtain ⟨-, -, -, -, -, -, hpos, -⟩ := State.fixed_parts hv
  rw [hsup, State.evalCore_sup]
  refine ⟨?_, htravel⟩
  dsimp only
  rw [hpos, hstand, hspeed]
  cases v.sup.state <;> simp [SupState.next]

/-! ## STANDSTILL_DECLARATION -/

theorem State.judgeVigilance_standstill {s : State} (h : s.pos.standstill = true) :
    s.judgeVigilance.brk = { s.endVigilance.brk with vigTimer := none } := by
  simp [State.judgeVigilance, h]

/-- The brakes at a standstill declaration: DOOR and VIGILANCE may end, the hold timer starts (R84, R86, R96). -/
theorem State.standstillBrakes_effect {s : State} (h : s.pos.standstill = true) :
    s.standstillBrakes.brk.terms = { s.brk.terms with
      door := 0
      vigilance := if s.deadmanPressed then 0 else s.brk.terms.vigilance } ∧
      s.standstillBrakes.brk.holdTimer = some s.params.holdDelay ∧ s.standstillBrakes.brk.long = false ∧
      s.standstillBrakes.brk.vigTimer = none := by
  obtain ⟨u, hu⟩ : ∃ u, u = s.setTerms { s.brk.terms with door := 0 } := ⟨_, rfl⟩
  have hterms : u.brk.terms = { s.brk.terms with door := 0 } := hu ▸ (State.setTerms_effect _ s).1
  have hustand : u.pos.standstill = true := by rw [hu]; simpa using h
  have hdeadman : u.deadmanPressed = s.deadmanPressed := by
    simp only [State.deadmanPressed]
    rw [State.drivingControls_congr (s := s) (by simp [hu]) (by simp [hu]) (by simp [hu])]
  have hvigilance : u.endVigilance.brk.terms = { s.brk.terms with
      door := 0
      vigilance := if s.deadmanPressed then 0 else s.brk.terms.vigilance } := by
    unfold State.endVigilance
    rw [hdeadman]
    split
    · next hends =>
      obtain ⟨-, -, hdead⟩ := hends
      rw [(State.setTerms_effect _ u).1, hterms, if_pos hdead]
    · next hends =>
      rw [hterms]
      split
      · next hdead =>
        have hzero : s.brk.terms.vigilance = 0 := by
          refine Classical.byContradiction fun hne => ?_
          exact hends ⟨by rw [hterms]; exact hne, hustand, hdead⟩
        simp [← hzero]
      · rfl
  have hjudged := State.judgeVigilance_standstill hustand
  have hparams : u.judgeVigilance.params = s.params := by simp [hu]
  unfold State.standstillBrakes
  dsimp only
  rw [← hu]
  refine ⟨?_, by rw [hparams]; rfl, rfl, ?_⟩
  · exact (congrArg Brakes.terms hjudged).trans hvigilance
  · exact congrArg Brakes.vigTimer hjudged

theorem exec_standstill {s : State} {n : Nat} (h : s.pos.standTimer = some n) : exec .standstillDeclaration s =
    .next (s.withPos
      { s.pos with standstill := true, standTimer := none, speed := 0, runStart := none }).evaluate.standstillBrakes := by
  simp [exec, execStandstillDeclaration, h]

/-- Settles O37: position stands, supervision evaluates, and the brakes' watches follow. -/
theorem standstillIsDeclared : Obligations.StandstillIsDeclared := by
  intro s n hruns
  obtain ⟨u, hu⟩ : ∃ u, u = s.withPos
    { s.pos with standstill := true, standTimer := none, speed := 0, runStart := none } := ⟨_, rfl⟩
  have hpos : u.pos = { s.pos with standstill := true, standTimer := none, speed := 0, runStart := none } := by simp [hu]
  obtain ⟨hstate, htravel⟩ := u.evaluate_evaluated.standstill (by rw [hpos]) (by rw [hpos])
  obtain ⟨hterms, hhold, hlong, hvigTimer⟩ := State.standstillBrakes_effect (s := u.evaluate) (by simp [hpos])
  have hdeadman : u.evaluate.deadmanPressed = s.deadmanPressed := by
    simp only [State.deadmanPressed]
    rw [State.drivingControls_congr (s := s) (by simp [hu]) (by simp [hu]) (by simp [hu])]
  have hvigilance : u.evaluate.brk.terms.vigilance = s.brk.terms.vigilance := by
    obtain ⟨⟨-, hterm, -⟩, -⟩ := Brakes.unjudged_iff.1 (State.evaluate_unjudged u)
    rw [hterm, hu]
    rfl
  have hselected : u.selectedDir = s.selectedDir :=
    State.selectedDir_congr (by simp [hu]) (by simp [hu]) (by simp [hu])
  rw [hdeadman] at hterms
  refine ⟨u.evaluate.standstillBrakes, by rw [exec_standstill hruns, hu], by simp [hpos], by rw [hterms], ?_, hlong,
    hvigTimer, fun hd => ?_, fun hd => ?_, by simpa using hstate, ?_, ?_⟩
  · rw [hhold]
    simp [hu]
  · rw [hterms, if_pos hd]
  · rw [hterms, hd]
    exact hvigilance
  · simpa [hselected] using htravel
  · simp [SameSetup, SameRadio, hu]

end Sys2Proof.Machine

/-! SUPPORT. The contact state and the shadow test: the thresholds, a tooth arrival, a declared position. -/

namespace Sys2Proof.Machine

/-! ## A contact state that changes -/

/-- The line store with the void flag of its authority set (R57). -/
def LineStore.voided (l : LineStore) : LineStore :=
  { l with authority := l.authority.map fun a => { a with void := true } }

theorem State.voidAuthority_effect (s : State) : s.voidAuthority.line = s.line.voided ∧
    (s.line.authority.isSome = true → Flagged s.voidAuthority .lineRecord) ∧
    (∀ k, Flagged s k → Flagged s.voidAuthority k) := by
  unfold State.voidAuthority
  split
  · next a ha =>
    exact ⟨by simp [LineStore.voided, ha], fun _ => flagged_flag _ _, fun k hk => Flagged.flag (hk.congr (by simp)) _⟩
  · next ha =>
    have hsame : s.line.voided = s.line := by rw [LineStore.voided, ha, Option.map_none, ← ha]
    exact ⟨hsame.symm, fun h => by simp [ha] at h, fun _ hk => hk⟩

/-- What a contact state that is new leaves of contact, line store, CONTACT term and flags (R55, R57, R85). -/
theorem State.setContactState_effect {x : ContactState} {s : State} (h : s.contact.state ≠ x) :
    (s.setContactState x).contact = { s.contact with state := x } ∧
      (s.setContactState x).line = (if x = .void then s.line.voided else s.line) ∧
      ContactTerm (s.setContactState x) ∧ Flagged (s.setContactState x) .radio ∧
      (x = .void → s.line.authority.isSome = true → Flagged (s.setContactState x) .lineRecord) := by
  obtain ⟨u, hu⟩ : ∃ u, u = (s.withContact { s.contact with state := x }).flag .radio := ⟨_, rfl⟩
  obtain ⟨w, hw⟩ : ∃ w, w = if x = .void then u.voidAuthority else u := ⟨_, rfl⟩
  obtain ⟨v, hv⟩ : ∃ v, v = w.setTerms { w.brk.terms with contact := if x = .void then 100 else 0 } := ⟨_, rfl⟩
  have hset : s.setContactState x = v.evalCore := by
    rw [hv, hw, hu]
    exact if_neg h
  obtain ⟨hvoided, hflagged, hkeeps⟩ := u.voidAuthority_effect
  have huline : u.line = s.line := by simp [hu]
  have hradio : Flagged u .radio := hu ▸ flagged_flag _ _
  have hwcontact : w.contact = { s.contact with state := x } := by
    rw [hw]
    split <;> simp [hu]
  have hwline : w.line = if x = .void then s.line.voided else s.line := by
    rw [hw, ← huline]
    split
    · exact hvoided
    · rfl
  have hwradio : Flagged w .radio := by
    rw [hw]
    split
    · exact hkeeps _ hradio
    · exact hradio
  have hterm : ContactTerm v := by
    have hcontact : v.contact.state = x := by simp [hv, hwcontact]
    rw [ContactTerm, hcontact, hv, (State.setTerms_effect _ w).1]
  have hflags : ∀ k, Flagged w k → Flagged v.evalCore k := fun k hk =>
    (State.evalCore_subdued v).flags k (hv ▸ hk.setTerms _)
  rw [hset]
  refine ⟨by simp [hv, hwcontact], by simpa [hv] using hwline, (State.evalCore_reacts v).contactTerm hterm,
    hflags _ hwradio, fun hx hsome => hflags _ ?_⟩
  rw [hw, if_pos hx]
  exact hflagged (huline ▸ hsome)

theorem Params.contactState_eq (p : Params) (value : Nat) (b : Bool) : p.contactState value b = contactFor p value b := by
  cases b
  · by_cases h : p.degrade * 1000 ≤ value <;>
      simp [Params.contactState, contactFor, Params.voidMs, Params.degradeMs, h]
  · by_cases h : value < p.shadowVoid * 1000
    · simp [Params.contactState, contactFor, Params.voidMs, h, Nat.not_le.2 h]
    · simp [Params.contactState, contactFor, Params.voidMs, h, Nat.not_lt.1 h]

theorem State.judgeContact_eq {s : State} (h : s.contact.state ≠ .void) :
    s.judgeContact = s.setContactState (contactFor s.params s.contact.value s.contact.shadow) := by
  rw [State.judgeContact, if_neg h, Params.contactState_eq]

/-! ## The thresholds -/

theorem contactFor_degrade {p : Params} {value : Nat} (h : p.degrade * 1000 ≤ value) :
    contactFor p value false = if p.void * 1000 ≤ value then .void else .degraded := by
  simp [contactFor, h]

theorem contactFor_void {p : Params} {value : Nat} {b : Bool} (h : p.voidMs b ≤ value) : contactFor p value b = .void := by
  rw [← Params.contactState_eq, Params.contactState, if_pos h]

/-- Settles O43: each threshold brings the timer up to it, and the contact state is judged. -/
theorem contactThresholdsMoveTheContactState : Obligations.ContactThresholdsMoveTheContactState := by
  intro s
  refine ⟨fun hlive hshadow => ?_, fun h => ?_, fun hnot => ?_, fun hvoid => ?_⟩
  · obtain ⟨v, hv⟩ : ∃ v, v = max s.contact.value (s.params.degrade * 1000) := ⟨_, rfl⟩
    obtain ⟨u, hu⟩ : ∃ u, u = s.withContact { s.contact with value := v } := ⟨_, rfl⟩
    have hustate : u.contact.state = .live := by simp [hu, hlive]
    obtain ⟨x, hx⟩ : ∃ x, x = if s.params.void * 1000 ≤ v then ContactState.void else .degraded := ⟨_, rfl⟩
    have hjudged : u.judgeContact = u.setContactState x := by
      rw [State.judgeContact_eq (by rw [hustate]; decide), hx]
      have hcontact : u.contact.value = v ∧ u.contact.shadow = false := by simp [hu, hshadow]
      rw [hcontact.1, hcontact.2, contactFor_degrade]
      · simp [hu]
      · rw [show u.params = s.params by simp [hu], hv]
        exact Nat.le_max_right _ _
    have hexec : exec .degradeThresholdReached s = .next (u.setContactState x) := by
      rw [← hjudged, hu, hv]
      exact congrArg Host.Outcome.next (if_pos ⟨hshadow, hlive⟩)
    have hchange : u.contact.state ≠ x := by
      rw [hustate, hx]
      split <;> decide
    obtain ⟨hcontact, hline, hterm, hradio, hrecord⟩ := State.setContactState_effect hchange
    have huline : u.line = s.line := by simp [hu]
    have hucontact : u.contact = { s.contact with value := v } := by simp [hu]
    rw [huline] at hline hrecord
    rw [hucontact] at hcontact
    refine ⟨_, hexec, by rw [hcontact, hv], by rw [hcontact]; exact hshadow, fun hbelow => ?_, fun habove => ?_, hradio, ?_⟩
    · have hdegraded : x = .degraded := by
        rw [hcontact] at hbelow
        rw [hx, if_neg (by simpa using hbelow)]
      subst hdegraded
      exact ⟨by rw [hcontact], hline, by rw [hterm, hcontact]; rfl⟩
    · have hvoid : x = .void := by
        rw [hcontact] at habove
        rw [hx, if_pos habove]
      subst hvoid
      exact ⟨by rw [hcontact], by rw [hterm, hcontact]; rfl, by rw [hline]; rfl, fun hsome => hrecord rfl hsome⟩
    · simp [SameSetup, SameRadio, hu]
  · refine congrArg Host.Outcome.next (if_neg fun hboth => ?_)
    rcases h with h | h
    · simp [hboth.1] at h
    · exact h hboth.2
  · obtain ⟨u, hu⟩ : ∃ u, u = s.withContact
      { s.contact with value := max s.contact.value (s.params.voidMs s.contact.shadow) } := ⟨_, rfl⟩
    have hustate : u.contact.state ≠ .void := by simpa [hu] using hnot
    have hjudged : u.judgeContact = u.setContactState .void := by
      have hreached : u.params.voidMs u.contact.shadow ≤ u.contact.value := by
        rw [hu]
        exact Nat.le_max_right _ _
      rw [State.judgeContact_eq hustate, contactFor_void hreached]
    have hexec : exec .voidThresholdReached s = .next (u.setContactState .void) := by
      rw [← hjudged, hu]
      exact congrArg Host.Outcome.next (if_neg hnot)
    obtain ⟨hcontact, hline, hterm, hradio, hrecord⟩ := State.setContactState_effect hustate
    have huline : u.line = s.line := by simp [hu]
    rw [huline] at hline hrecord
    refine ⟨_, hexec, by rw [hcontact], by rw [hterm, hcontact]; rfl, hradio, by rw [hline]; rfl, hrecord rfl, ?_⟩
    simp [SameSetup, SameRadio, hu]
  · exact congrArg Host.Outcome.next (if_pos hvoid)

end Sys2Proof.Machine

/-! SUPPORT. The shadow test at a tooth and at a declared position. -/

namespace Sys2Proof.Machine

/-! ## A test made -/

/-- What a shadow test made `b` leaves, contact and line store taken from one state and found in the other (R54 to R57). -/
structure State.Tested (b : Bool) (s t : State) : Prop where
  shadow : t.contact.shadow = b
  same : b = s.contact.shadow → t.contact = s.contact ∧ t.line = s.line
  value : b ≠ s.contact.shadow →
    t.contact.value = if b = true then s.contact.value else min s.contact.value (s.params.degrade * 1000)
  state : b ≠ s.contact.shadow →
    t.contact.state = if s.contact.state = .void then .void else contactFor s.params t.contact.value b
  flag : b ≠ s.contact.shadow → t.contact.state ≠ s.contact.state → Flagged t .radio
  void : b ≠ s.contact.shadow → t.contact.state = .void → s.contact.state ≠ .void →
    t.line = s.line.voided ∧ ContactTerm t

/-- What is read of the state before, and what is kept of the state after, carries a test made. -/
theorem State.Tested.congr {b : Bool} {s s' t t' : State} (h : State.Tested b s t) (hparams : s'.params = s.params)
    (hcontact : s'.contact = s.contact) (hline : s'.line = s.line) (htcontact : t'.contact = t.contact)
    (htline : t'.line = t.line) (hflag : Flagged t .radio → Flagged t' .radio) (hterm : ContactTerm t → ContactTerm t') :
    State.Tested b s' t' where
  shadow := by rw [htcontact]; exact h.shadow
  same hb := by
    rw [htcontact, htline, hcontact, hline]
    exact h.same (by rwa [hcontact] at hb)
  value hb := by
    rw [htcontact, hcontact, hparams]
    exact h.value (by rwa [hcontact] at hb)
  state hb := by
    rw [htcontact, hcontact, hparams]
    exact h.state (by rwa [hcontact] at hb)
  flag hb hne := by
    rw [hcontact] at hb hne
    rw [htcontact] at hne
    exact hflag (h.flag hb hne)
  void hb hv hnot := by
    rw [hcontact] at hb hnot
    rw [htcontact] at hv
    obtain ⟨hvoided, hct⟩ := h.void hb hv hnot
    exact ⟨by rw [htline, hline]; exact hvoided, hterm hct⟩

/-- A shadow test that takes a value (R55, R56). -/
theorem State.setShadow_tested (b : Bool) (s : State) : State.Tested b s (s.setShadow b) := by
  by_cases hsame : b = s.contact.shadow
  · have hself : s.setShadow b = s := hsame ▸ State.setShadow_self s
    rw [hself]
    exact ⟨hsame.symm, fun _ => ⟨rfl, rfl⟩, fun h => absurd hsame h, fun h => absurd hsame h, fun h => absurd hsame h,
      fun h => absurd hsame h⟩
  · obtain ⟨v, hv⟩ : ∃ v, v = if b = true then s.contact.value else min s.contact.value (s.params.degrade * 1000) := ⟨_, rfl⟩
    obtain ⟨u, hu⟩ : ∃ u, u = s.withContact { s.contact with shadow := b, value := v } := ⟨_, rfl⟩
    have hset : s.setShadow b = u.judgeContact := by
      rw [hu, hv]
      exact if_neg fun h => hsame h.symm
    have hucontact : u.contact = { s.contact with shadow := b, value := v } := by simp [hu]
    have huline : u.line = s.line ∧ u.params = s.params := by simp [hu]
    rw [hset]
    by_cases hvoid : s.contact.state = .void
    · have hstays : u.judgeContact = u := if_pos (by rw [hucontact]; exact hvoid)
      rw [hstays]
      refine ⟨by rw [hucontact], fun h => absurd h hsame, fun _ => by rw [hucontact, hv], fun _ => ?_, fun _ hne => ?_,
        fun _ _ hne => absurd hvoid hne⟩
      · rw [if_pos hvoid, hucontact]
        exact hvoid
      · exact absurd (by rw [hucontact]) hne
    · have hustate : u.contact.state = s.contact.state := by rw [hucontact]
      obtain ⟨x, hx⟩ : ∃ x, x = contactFor s.params v b := ⟨_, rfl⟩
      have hjudged : u.judgeContact = u.setContactState x := by
        rw [State.judgeContact_eq (by rwa [hustate]), hucontact, huline.2, hx]
      have hcontact : (u.setContactState x).contact = { u.contact with state := x } := by
        by_cases hchange : u.contact.state = x
        · rw [State.setContactState, if_pos hchange, ← hchange]
        · exact (State.setContactState_effect hchange).1
      rw [hucontact] at hcontact
      rw [hjudged]
      refine ⟨by rw [hcontact], fun h => absurd h hsame, fun _ => by rw [hcontact, hv], fun _ => ?_, fun _ hne => ?_,
        fun _ hv hne => ?_⟩
      · rw [if_neg hvoid, hcontact, hx]
      · rw [hcontact] at hne
        exact (State.setContactState_effect (by rw [hustate]; exact fun he => hne he.symm)).2.2.2.1
      · rw [hcontact] at hv
        obtain rfl : x = .void := hv
        obtain ⟨-, hline, hterm, -⟩ := State.setContactState_effect (s := u) (x := .void) (by rwa [hustate])
        rw [huline.1] at hline
        exact ⟨hline, hterm⟩

/-! ## The test in a direction of travel -/

/-- The shadow flag of the segment at the front end, clear without a committed profile (R54). -/
def State.shadowFor (d : Dir) (s : State) : Bool := decide (s.line.profile = .valid) && s.shadowAt d

theorem State.shadowTest_moving {s : State} {d : Dir} (h : s.travelNow = some d) :
    s.shadowTest = s.setShadow (s.shadowFor d) := by
  unfold State.shadowTest State.shadowFor
  split
  · next hvalid => simp [h, hvalid]
  · next hvalid => simp [hvalid]

theorem State.shadowFor_congr {s t : State} (h : t.fixed = s.fixed) (d : Dir) : t.shadowFor d = s.shadowFor d := by
  obtain ⟨hparams, -, -, -, -, hline, hpos, -⟩ := State.fixed_parts h
  have hprofile : t.line.profile = s.line.profile ∧ ∀ p, t.line.segmentAt p = s.line.segmentAt p := by
    rw [LineStore.eq_of_stored hline]
    exact ⟨rfl, fun _ => rfl⟩
  have hfront : t.frontEnd d = s.frontEnd d := by
    cases d <;> simp [State.frontEnd, State.upperEnd, State.lowerEnd, hpos, hparams]
  simp only [State.shadowFor, State.shadowAt, hprofile, hfront]

/-! ## At a tooth -/

/-- On a moving car the test of an evaluation, where it makes one, is the one made after it (R54, R60). -/
theorem State.evaluate_moving {s : State} {d : Dir} (h : s.travelNow = some d) :
    s.evaluate = s.evalCore ∨ s.evaluate = s.evalCore.setShadow (s.shadowFor d) := by
  have hfixed := (State.evalCore_reacts s).turns.fixed
  unfold State.evaluate
  dsimp only
  split
  · exact .inl rfl
  · refine .inr ?_
    rw [State.shadowTest_moving ((State.travelNow_congr hfixed).trans h), State.shadowFor_congr hfixed]

/-- The state as a tooth's LINE_END test leaves it. -/
def State.toothTaken (d : Dir) (micros : Nat) (s : State) : State :=
  ((s.withPos (s.pos.tooth s.params.maxUnconfirmed d micros)).endLong).lineEndTest d

/-- A tooth makes the shadow test for its direction (R54 to R57). -/
theorem State.toothArrival_tested (d : Dir) (micros : Nat) (s : State) :
    State.Tested ((s.toothTaken d micros).shadowFor d) s (s.toothArrival d micros) := by
  obtain ⟨u, hu⟩ : ∃ u, u = s.toothTaken d micros := ⟨_, rfl⟩
  obtain ⟨w, hw⟩ : ∃ w, w = ((u.evaluate.rollTooth d).judgeVigilance).toothDoors s.pos := ⟨_, rfl⟩
  have harrival : s.toothArrival d micros = w.shadowTest := by
    rw [hw, hu]
    rfl
  have hucontact : u.contact = s.contact ∧ u.line = s.line ∧ u.params = s.params ∧
      u.pos = s.pos.tooth s.params.maxUnconfirmed d micros := by
    simp [hu, State.toothTaken, State.endLong]
  obtain ⟨hcontact, hline, hparams, hpos⟩ := hucontact
  have hwcontact : w.contact = u.evaluate.contact ∧ w.line = u.evaluate.line ∧ w.params = s.params := by
    simp [hw, hparams]
  obtain ⟨hwcontact, hwline, hwparams⟩ := hwcontact
  have hafter : Turns u.evaluate w := hw ▸ (State.rollTooth_wakes d _).toTurns.trans
    ((State.judgeVigilance_reacts _).turns.trans (State.toothDoors_reacts _ _).turns)
  have htravel : u.travelNow = some d := by
    rw [State.travelNow, hpos, if_neg (by simp [Position.tooth])]
    rfl
  have hfixed : w.fixed = u.fixed := hafter.fixed.trans (State.evaluate_reacts u).turns.fixed
  have htest : w.shadowTest = w.setShadow (u.shadowFor d) := by
    rw [State.shadowTest_moving ((State.travelNow_congr hfixed).trans htravel), State.shadowFor_congr hfixed]
  rw [harrival, ← hu, htest]
  rcases State.evaluate_moving htravel with heval | heval
  · refine (State.setShadow_tested (u.shadowFor d) w).congr hwparams.symm ?_ ?_ rfl rfl id id
    · rw [hwcontact, heval]
      simp [hcontact]
    · rw [hwline, heval]
      simp [hline]
  · have hmade := State.setShadow_tested (u.shadowFor d) u.evalCore
    rw [← heval] at hmade
    have hself : w.setShadow (u.shadowFor d) = w := by
      have hshadow : w.contact.shadow = u.shadowFor d := by rw [hwcontact]; exact hmade.shadow
      rw [← hshadow]
      exact State.setShadow_self w
    have hflags : ∀ k, Flagged u.evaluate k → Flagged w k := fun k hk => by
      have hroll := (Flagged.quiet k).judgeVigilance
        ((Flagged.quiet k).rollTooth (Flagged.entering k) (fun _ _ h => h) d hk)
      rw [hw, State.toothDoors]
      split
      · exact (Flagged.entering k).withdrawAll hroll
      · exact hroll
    rw [hself]
    exact hmade.congr (by simp [hparams]) (by simp [hcontact]) (by simp [hline]) hwcontact hwline (hflags _)
      hafter.contactTerm

/-! ## At a declared position -/

/-- A declaration at standstill makes the test for the selected direction, and keeps it where there is none (R54). -/
theorem State.declarePosition_shadow {p : Nat} {s : State} (hvalid : s.line.profile = .valid)
    (hstand : s.pos.standstill = true) :
    (s.declarePosition p).contact.shadow = (match s.selectedDir with
      | none => s.contact.shadow
      | some d => (s.declareOnly p).shadowFor d) := by
  obtain ⟨u, hu⟩ : ∃ u, u = s.declareOnly p := ⟨_, rfl⟩
  have huprofile : u.line.profile = .valid := by rw [hu, (s.declareOnly_frame p).2.2.2.2.1]; exact hvalid
  have hupos : u.pos = s.pos.declaredAt p := by simp [hu]
  have hucontact : u.contact = s.contact := by
    rw [hu]
    unfold State.declareOnly
    split <;> simp
  have htravel : u.travelNow = s.selectedDir := by
    have hselected : u.selectedDir = s.selectedDir :=
      State.selectedDir_congr (by simp [hu]) (by simp [hu]) (by simp [hu])
    rw [State.travelNow, hselected, hupos, if_pos (by exact hstand)]
  have hfixed := (State.evaluate_reacts u).turns.fixed
  have htravelE := (State.travelNow_congr hfixed).trans htravel
  rw [State.declarePosition_eq, ← hu]
  split
  · next hnone =>
    rw [hnone] at htravel htravelE
    have hevaluate : u.evaluate.contact.shadow = s.contact.shadow := by
      have hcoreTravel : u.evalCore.travelNow = none :=
        (State.travelNow_congr (State.evalCore_reacts u).turns.fixed).trans htravel
      have hcore : u.evalCore.contact.shadow = s.contact.shadow := by simp [hucontact]
      have hprofile : u.evalCore.line.profile = .valid := by simpa using huprofile
      unfold State.evaluate State.shadowTest
      dsimp only
      rw [if_pos hprofile, hcoreTravel]
      split <;> exact hcore
    have hprofile : u.evaluate.line.profile = .valid := by
      obtain ⟨-, -, -, -, -, hstored, -⟩ := State.fixed_parts hfixed
      rw [LineStore.eq_of_stored hstored]
      exact huprofile
    rw [State.shadowTest, if_pos hprofile, htravelE]
    exact hevaluate
  · next d hd =>
    rw [State.shadowTest_moving (htravelE.trans hd), State.shadowFor_congr hfixed, State.setShadow_shadow]

/-- Settles O41: a tooth makes the test for its direction and the contact follows; a declared position makes it for the
selected direction. -/
theorem shadowTestFollowsTheFrontEnd : Obligations.ShadowTestFollowsTheFrontEnd := by
  intro s
  refine ⟨fun s1 s2 micros d b hphase => ?_, fun m p rest h hpayload hstand hvalid hlow hhigh hend => ?_⟩
  · obtain ⟨u, hu⟩ : ∃ u, u = s.withPos { s.pos with phase := phaseOf s1 s2 } := ⟨_, rfl⟩
    have hparts : u.params = s.params ∧ u.contact = s.contact ∧ u.line = s.line := by simp [hu]
    obtain ⟨hparams, hcontact, hline⟩ := hparts
    have htested := (State.toothArrival_tested d micros u).congr hparams.symm hcontact.symm hline.symm rfl rfl id id
    refine ⟨u.toothArrival d micros, by rw [exec_tooth micros hphase, ← hu], fun hb => ?_⟩
    have hcount : (u.toothArrival d micros).pos.count = countAfter s.pos.count d := by
      simp [hu, Position.tooth]
    have hfront : (u.toothTaken d micros).frontEnd d = (match (generalizing := false) d with
        | .up => ((u.toothArrival d micros).pos.count : Int)
        | .down => ((u.toothArrival d micros).pos.count : Int) - s.params.carLength) := by
      rw [hcount]
      cases d <;> simp [State.frontEnd, State.upperEnd, State.lowerEnd, State.toothTaken, State.endLong, Position.tooth, hu]
    have hfor : (u.toothTaken d micros).shadowFor d = b := by
      have htline : (u.toothTaken d micros).line = s.line := by simp [State.toothTaken, State.endLong, hline]
      refine Eq.trans ?_ hb.symm
      simp only [State.shadowFor, State.shadowAt, hfront, htline] <;> rfl
    rw [hfor] at htested
    refine ⟨htested.shadow, htested.same, fun hne => ⟨htested.value hne, htested.state hne, htested.flag hne,
      fun hv hnot => ?_⟩⟩
    obtain ⟨hvoided, hterm⟩ := htested.void hne hv hnot
    refine ⟨by rw [hvoided]; rfl, ?_⟩
    rw [hterm, if_pos hv]
  · have hread : readPosition m.payload = some p := hpayload ▸ readPosition_carried rest (by omega)
    refine ⟨_, exec_setPosition_taken h (by simp [hstand, hvalid]) hread (by omega), ?_⟩
    have hselected : (s.heard m.cab).selectedDir = s.selectedDir := State.selectedDir_heard m.cab s
    have hshadow := State.declarePosition_shadow (p := p) (s := s.heard m.cab) (by simpa using hvalid) (by simpa using hstand)
    rw [hselected] at hshadow
    have hcontact : ((s.heard m.cab).declarePosition p |>.withPort m.cab (s.answered 20#8 m .ok [])).contact =
        ((s.heard m.cab).declarePosition p).contact := by simp
    rw [hcontact, hshadow]
    cases s.selectedDir with
    | none => simp
    | some d =>
      have hfront : ((s.heard m.cab).declareOnly p).frontEnd d = (match (generalizing := false) d with
          | .up => (p : Int)
          | .down => (p : Int) - s.params.carLength) := by
        cases d <;> simp [State.frontEnd, State.upperEnd, State.lowerEnd, Position.declaredAt]
      have hprofile : ((s.heard m.cab).declareOnly p).line.profile = .valid := by simpa using hvalid
      have hsegment : ∀ x, ((s.heard m.cab).declareOnly p).line.segmentAt x = s.line.segmentAt x := fun x => by
        simp only [State.declareOnly_frame, State.heard_frame]
        rfl
      dsimp only
      rw [State.shadowFor, State.shadowAt, hfront, hsegment, hprofile]
      rfl

end Sys2Proof.Machine

/-! SUPPORT. The rollaway watch: the count at a tooth, ROLLAWAY past its threshold, and its start and end. -/

namespace Sys2Proof.Machine

/-! ## A running watch -/

/-- The rollaway watch runs at a count. -/
def State.WatchRuns (n : Int) (s : State) : Prop :=
  s.brk.rollRunning = true ∧ s.rollWatch = true ∧ s.brk.rollCount = n

/-- The rollaway watch runs on at a count, on a moving car. -/
def State.Rolling (n : Int) (s : State) : Prop := s.WatchRuns n ∧ s.brk.long = false ∧ s.pos.standstill = false

theorem State.rollWatch_congr {s t : State} (hmode : t.mode = s.mode) (hhold : t.brk.get .hold = s.brk.get .hold) :
    t.rollWatch = s.rollWatch := by
  simp only [Brakes.get] at hhold
  simp [State.rollWatch, hmode, hhold]

/-- Outputs formed afresh leave a running watch. -/
theorem State.settleOutputs_watchRuns {n : Int} {s : State} (h : s.WatchRuns n) : s.settleOutputs.WatchRuns n := by
  obtain ⟨hrun, hwatch, hcount⟩ := h
  obtain ⟨hr, hc⟩ := State.settleOutputs_roll s
  refine ⟨hr.trans hrun, ?_, hc.trans hcount⟩
  rw [← hwatch]
  exact State.rollWatch_congr (by simp) (State.settleOutputs_brake _ _)

/-- The rack brake's changes of state leave a running watch (R104). -/
theorem State.setBrake_watchRuns {n : Int} {s : State} (h : s.WatchRuns n) (x : BrakeState) :
    (s.setBrake .rack x).WatchRuns n := by
  unfold State.setBrake
  split
  · exact h
  · obtain ⟨u, hu⟩ : ∃ u : State, u = ((s.withBrk (s.brk.put .rack { s.brk.get .rack with
      state := x, timer := brakeTimer x })).flag .brakes).settleOutputs := ⟨_, rfl⟩
    have huruns : u.WatchRuns n := by
      rw [hu]
      exact State.settleOutputs_watchRuns (by simpa [State.WatchRuns, State.rollWatch, Brakes.put] using h)
    have hsync : u.syncRollaway = u := if_pos (huruns.2.1.trans huruns.1.symm)
    dsimp only
    rw [← hu, hsync]
    exact huruns

theorem State.applyCmd_rack_watchRuns {n : Int} {s : State} (h : s.WatchRuns n) : (s.applyCmd .rack).WatchRuns n := by
  unfold State.applyCmd
  split
  case h_1 | h_2 =>
    dsimp only
    split
    · exact State.setBrake_watchRuns (State.setBrake_watchRuns h _) _
    · exact State.setBrake_watchRuns h _
  all_goals exact h

theorem State.rolling_calm (n : Int) : Calm (State.Rolling n) where
  rack s h := by
    obtain ⟨hruns, hlong, hmoves⟩ := h
    obtain ⟨-, -, -, -, -, hl⟩ := Brakes.still_iff.1 (State.applyCmd_still .rack s)
    exact ⟨State.applyCmd_rack_watchRuns hruns, hl.trans hlong, by simpa using hmoves⟩
  hold s hstands h := by
    obtain ⟨-, hlong, hmoves⟩ := h
    rcases hstands with hl | hs
    · simp [hlong] at hl
    · simp [hmoves] at hs
  settle s t _ h := by
    obtain ⟨hruns, hlong, hmoves⟩ := h
    obtain ⟨-, -, -, -, -, hl⟩ := Brakes.still_iff.1 (State.settleOutputs_still (s.withBrk { s.brk with terms := t }))
    exact ⟨State.settleOutputs_watchRuns (s := s.withBrk { s.brk with terms := t }) hruns, hl.trans hlong,
      by simpa using hmoves⟩
  cause s k f h := h
  flag s k h := by simpa [State.Rolling, State.WatchRuns, State.rollWatch] using h
  sup s x h := h
  contact s x h := h
  authority s a h := h
  reports s x h := h

theorem State.Rolling.recount {n : Int} {s : State} (h : s.Rolling n) (k : Int) :
    (s.withBrk { s.brk with rollCount := k }).Rolling k := by
  obtain ⟨⟨hrun, hwatch, -⟩, hlong, hmoves⟩ := h
  exact ⟨⟨hrun, hwatch, rfl⟩, hlong, hmoves⟩

/-! ## A tooth under the watch -/

/-- Up to the watch a tooth leaves the count (R104). -/
theorem State.toothMeasured_rolling {d : Dir} {micros : Nat} {s : State} (hrun : s.brk.rollRunning = true)
    (hwatch : s.rollWatch = true) : (s.toothMeasured d micros).Rolling s.brk.rollCount := by
  have hq := State.rolling_calm s.brk.rollCount
  have htaken : ((s.withPos (s.pos.tooth s.params.maxUnconfirmed d micros)).endLong).Rolling s.brk.rollCount :=
    ⟨⟨hrun, hwatch, rfl⟩, rfl, rfl⟩
  refine hq.evaluate ?_
  unfold State.lineEndTest
  (repeat' split)
  · exact hq.addCause (by decide) htaken
  · exact htaken
  · exact hq.addCause (by decide) htaken
  all_goals exact htaken

/-- Up to the watch a tooth adds no ROLLAWAY. -/
theorem State.toothMeasured_rollaway (d : Dir) (micros : Nat) (s : State) :
    (s.toothMeasured d micros).brk.causes.rollaway = s.brk.causes.rollaway := by
  obtain ⟨u, hu⟩ : ∃ u, u = (s.withPos (s.pos.tooth s.params.maxUnconfirmed d micros)).endLong := ⟨_, rfl⟩
  have hadded : (u.addCause .lineEnd).brk.causes.rollaway = u.brk.causes.rollaway := by
    rw [State.addCause_eq (by decide)]
    split
    · rfl
    · rw [(State.joinCause_effect .lineEnd u).2.1]
      rfl
  have htest : (u.lineEndTest d).brk.causes.rollaway = u.brk.causes.rollaway := by
    unfold State.lineEndTest
    (repeat' split)
    · exact hadded
    · rfl
    · exact hadded
    all_goals rfl
  obtain ⟨-, -, -, -, hroll, -⟩ := Brakes.unjudged_iff.1 (State.evaluate_unjudged (u.lineEndTest d))
  rw [State.toothMeasured, ← hu, hroll, htest, hu]
  rfl

theorem State.rackOff_quiet : Quiet fun t => t.brk.rack.state.energized = false where
  rack s h := (State.applyCmd_subdued .rack s).valves .rack h
  hold s _ h := (State.applyCmd_subdued .hold s).valves .rack h
  settle s t _ h := (State.settleOutputs_subdued (s.withBrk { s.brk with terms := t })).valves .rack h
  cause s k f h := h
  flag s k h := by simpa using h
  sup s x h := h
  contact s x h := h
  authority s a h := h
  reports s x h := h
  vigilance s v h := h
  reselect s h := h

theorem State.rackOff_entering : Entering fun t => t.brk.rack.state.energized = false where
  toClosing := State.rackOff_quiet.closing (fun s b h => (State.applyCmd_subdued b s).valves .rack h) fun _ _ h => h
  mode s c h := h
  modem s m h := by simpa using h
  zero s h := h
  sync s h := by
    have hget := (State.syncRollaway_parts s).2.1 .rack
    simp only [Brakes.get] at hget
    rwa [hget]

/-- EMERGENCY at 100 stays. -/
theorem Brakes.emergency_quiet : Quiet fun t => t.brk.terms.emergency = 100 where
  rack s h := by rwa [(Brakes.still_iff.1 (State.applyCmd_still .rack s)).1]
  hold s _ h := by rwa [(Brakes.still_iff.1 (State.applyCmd_still .hold s)).1]
  settle s t ht h := by
    rw [(Brakes.still_iff.1 (State.settleOutputs_still (s.withBrk { s.brk with terms := t }))).1]
    exact ht.elim (·.trans h) id
  cause s k f h := h
  flag s k h := by simpa using h
  sup s x h := h
  contact s x h := h
  authority s a h := h
  reports s x h := h
  vigilance s v h := h
  reselect s h := h

theorem Brakes.emergency_entering : Entering fun t => t.brk.terms.emergency = 100 where
  toClosing := Brakes.emergency_quiet.closing
    (fun s b h => by rwa [(Brakes.still_iff.1 (State.applyCmd_still b s)).1]) fun _ _ h => h
  mode s c h := h
  modem s m h := by simpa using h
  zero s h := h
  sync s h := by rwa [(Brakes.still_iff.1 (State.syncRollaway_parts s).1).1]

/-- What ROLLAWAY past the threshold leaves at a tooth, `u` being the state up to the watch (R99, R104, R105, R194). -/
theorem State.rolledAway_rest {p : Position} {u t : State}
    (ht : t = ((((u.withBrk { u.brk with rollCount := 0 }).addCause .rollaway).judgeVigilance).toothDoors p).shadowTest) :
    t.brk.rollCount = 0 ∧ t.brk.causes.has .rollaway = true ∧
      (u.mode.mode = .parked → t.mode.mode = .ready ∧ t.mode.modemPower = true ∧ t.mode.modemKey = true ∧
        t.mode.periodTimer = none ∧ t.mode.window = none ∧ Flagged t .mode ∧
        (u.brk.rack.state.energized = false → t.brk.rack.state.energized = false)) ∧
      (u.mode.mode ≠ .parked → t.mode = u.mode) ∧
      (u.brk.causes.rollaway = false → Flagged t .causes ∧ t.brk.terms.emergency = 100) := by
  obtain ⟨v, hv⟩ : ∃ v, v = u.withBrk { u.brk with rollCount := 0 } := ⟨_, rfl⟩
  obtain ⟨w, hw⟩ : ∃ w, w = v.addCause .rollaway := ⟨_, rfl⟩
  have hwt : t = ((w.judgeVigilance).toothDoors p).shadowTest := by rw [hw, hv, ht]
  have hvmode : v.mode = u.mode := by simp [hv]
  have hmode : t.mode = w.mode := by simp [hwt]
  have hheld := CauseSet.held_quiet .rollaway
  refine ⟨?_, ?_, fun hparked => ?_, fun hrunning => ?_, fun hnew => ?_⟩
  · rw [hwt]
    refine Brakes.zeroCount_quiet.toothRest Brakes.zeroCount_entering.toClosing p ?_
    rw [hw]
    exact Brakes.zeroCount_quiet.addRollaway Brakes.zeroCount_entering (by rw [hv]; rfl)
  · rw [hwt]
    refine hheld.toothRest (CauseSet.held_entering _).toClosing p ?_
    rw [hw, State.addCause_rollaway]
    split
    · exact (CauseSet.held_entering _).enterMode _ v.rolledAway_held
    · exact v.rolledAway_held
  · have henter : w = v.rolledAway.enterMode .ready := by
      rw [hw, State.addCause_rollaway, if_pos (by rw [hvmode]; exact hparked)]
    obtain ⟨hentered, hflag, -⟩ := State.enterMode_effect (m := .ready) (s := v.rolledAway) (by simp [hvmode, hparked])
    rw [← henter] at hentered hflag
    refine ⟨by rw [hmode, hentered]; rfl, by rw [hmode, hentered], by rw [hmode, hentered]; rfl,
      by rw [hmode, hentered]; rfl, by rw [hmode, hentered]; rfl, ?_, fun hoff => ?_⟩
    · rw [hwt]
      exact (Flagged.quiet .mode).toothRest (Flagged.entering .mode).toClosing p hflag
    · rw [hwt]
      refine State.rackOff_quiet.toothRest State.rackOff_entering.toClosing p ?_
      rw [hw]
      exact State.rackOff_quiet.addRollaway State.rackOff_entering (by rw [hv]; exact hoff)
  · rw [hmode, hw, State.addCause_rollaway, if_neg (by rwa [hvmode]), State.rolledAway_mode, hvmode]
  · have hjoin : v.rolledAway = v.joinCause .rollaway := if_neg (by rw [hv]; simpa [CauseSet.has] using hnew)
    obtain ⟨hterms, -, -, -, hflag⟩ := State.joinCause_effect .rollaway v
    rw [← hjoin] at hterms hflag
    have hemergency : v.rolledAway.brk.terms.emergency = 100 := by rw [hterms]
    have hall : Flagged w .causes ∧ w.brk.terms.emergency = 100 := by
      rw [hw, State.addCause_rollaway]
      split
      · exact ⟨(Flagged.entering .causes).enterMode _ hflag, Brakes.emergency_entering.enterMode _ hemergency⟩
      · exact ⟨hflag, hemergency⟩
    rw [hwt]
    exact ⟨(Flagged.quiet .causes).toothRest (Flagged.entering .causes).toClosing p hall.1,
      Brakes.emergency_quiet.toothRest Brakes.emergency_entering.toClosing p hall.2⟩

/-- A count within the threshold stands after the tooth (R104). -/
theorem State.rolling_rest {n : Int} {p : Position} {u : State} (h : u.Rolling n) (hsides : u.doors.sideReleased = false) :
    ((u.judgeVigilance.toothDoors p).shadowTest).Rolling n ∧
      ((u.judgeVigilance.toothDoors p).shadowTest).brk.causes.rollaway = u.brk.causes.rollaway := by
  have hq := State.rolling_calm n
  have hjudged : u.judgeVigilance.Rolling n := hq.judgeVigilance (fun _ _ h => h) h
  have hdoors : u.judgeVigilance.toothDoors p = u.judgeVigilance := by
    unfold State.toothDoors
    split
    · exact State.withdrawAll_locked (by simpa using hsides)
    · rfl
  rw [hdoors]
  refine ⟨hq.shadowTest hjudged, ?_⟩
  obtain ⟨-, -, -, -, hroll, -⟩ := Brakes.unjudged_iff.1 (State.shadowTest_unjudged u.judgeVigilance)
  rw [hroll]
  exact (congrArg CauseSet.rollaway (State.judgeVigilance_otherCauses u) : _)

/-- A running watch takes a tooth (R104, R105). -/
theorem State.rollTooth_running {s : State} (d : Dir) (h : s.brk.rollRunning = true) : s.rollTooth d =
    if s.mode.mode.rollAllowance < (rollAfter s.rollDir d s.brk.rollCount).natAbs then
      (s.withBrk { s.brk with rollCount := 0 }).addCause .rollaway
    else s.withBrk { s.brk with rollCount := rollAfter s.rollDir d s.brk.rollCount } := if_pos h

theorem CarMode.rollAllowance_eq (m : CarMode) : m.rollAllowance = if m = .parked then 1 else 3 := by
  cases m <;> rfl

/-! ## The watch's start and end -/

/-- A change of the holding brake's state in READY or DRIVE starts or ends the watch, from 0 (R104). -/
theorem State.setBrake_hold_watch {s : State} {x : BrakeState} (hmode : s.mode.mode = .ready ∨ s.mode.mode = .drive)
    (hnew : s.brk.hold.state ≠ x) (hturns : decide (x ≠ .applied) ≠ s.brk.rollRunning) :
    (s.setBrake .hold x).brk.rollRunning = decide (x ≠ .applied) ∧ (s.setBrake .hold x).brk.rollCount = 0 := by
  obtain ⟨u, hu⟩ : ∃ u : State, u = ((s.withBrk (s.brk.put .hold { s.brk.get .hold with
    state := x, timer := brakeTimer x })).flag .brakes).settleOutputs := ⟨_, rfl⟩
  have hwatch : u.rollWatch = decide (x ≠ .applied) := by
    have hhold : u.brk.hold.state = x := by
      have hget := State.settleOutputs_brake ((s.withBrk (s.brk.put .hold { s.brk.get .hold with
        state := x, timer := brakeTimer x })).flag .brakes) .hold
      rw [← hu] at hget
      exact (congrArg SpringBrake.state hget : _)
    have humode : u.mode = s.mode := by simp [hu]
    rcases hmode with hm | hm <;> simp [State.rollWatch, humode, hm, hhold]
  have hrun : u.brk.rollRunning = s.brk.rollRunning := by
    rw [hu, (State.settleOutputs_roll _).1]
    rfl
  have hsync : u.syncRollaway = u.withBrk { u.brk with rollRunning := u.rollWatch, rollCount := 0 } :=
    if_neg (by rw [hwatch, hrun]; exact hturns)
  have hset : s.setBrake .hold x = u.syncRollaway.syncReadback := by
    rw [hu]
    exact if_neg hnew
  have hbrk : (s.setBrake .hold x).brk = { u.brk with rollRunning := u.rollWatch, rollCount := 0 } := by
    rw [hset, hsync]
    simp [State.syncReadback]
  rw [hbrk]
  exact ⟨hwatch, rfl⟩

/-- The holding brake in FAULT with its watch running from 0. -/
def State.FaultWatch (s : State) : Prop := s.brk.hold.state = .fault ∧ s.WatchRuns 0

theorem State.applyCmd_faultWatch {s : State} (h : s.FaultWatch) (b : BrakeId) : (s.applyCmd b).FaultWatch := by
  obtain ⟨hfault, hruns⟩ := h
  cases b with
  | rack =>
    have hget := State.applyCmd_other (b := .rack) (c := .hold) (by decide) s
    simp only [Brakes.get] at hget
    exact ⟨by rw [hget, hfault], State.applyCmd_rack_watchRuns hruns⟩
  | hold =>
    have hget : (s.brk.get .hold).state = .fault := hfault
    have hstays : s.applyCmd .hold = s := by simp [State.applyCmd, hget]
    rw [hstays]
    exact ⟨hfault, hruns⟩

theorem State.faultWatch_calm : Calm State.FaultWatch where
  rack s h := State.applyCmd_faultWatch h .rack
  hold s _ h := State.applyCmd_faultWatch h .hold
  settle s t _ h := by
    obtain ⟨hfault, hruns⟩ := h
    have hget := State.settleOutputs_brake (s.withBrk { s.brk with terms := t }) .hold
    simp only [Brakes.get] at hget
    exact ⟨by rw [hget]; exact hfault, State.settleOutputs_watchRuns (s := s.withBrk { s.brk with terms := t }) hruns⟩
  cause s k f h := h
  flag s k h := by simpa [State.FaultWatch, State.WatchRuns, State.rollWatch] using h
  sup s x h := h
  contact s x h := h
  authority s a h := h
  reports s x h := h

theorem State.faultWatch_closing : Closing State.FaultWatch :=
  State.faultWatch_calm.closing (fun _ b h => State.applyCmd_faultWatch h b) fun _ _ h => h

/-- Settles O42: the count moves with each tooth under the watch, ROLLAWAY joins past its threshold, and the watch starts and
ends with the holding brake. -/
theorem rollawayWatchCountsTeeth : Obligations.RollawayWatchCountsTeeth := by
  intro s
  refine ⟨fun s1 s2 micros d sel n hphase hrun hruns hsides hsel hn => ?_, fun hmode => ⟨fun hstate hread hrun => ?_,
    fun hstate hread hrun => ?_⟩⟩
  · obtain ⟨x, hx⟩ : ∃ x, x = s.withPos { s.pos with phase := phaseOf s1 s2 } := ⟨_, rfl⟩
    obtain ⟨u, hu⟩ : ∃ u, u = x.toothMeasured d micros := ⟨_, rfl⟩
    have hxparts : x.brk = s.brk ∧ x.mode = s.mode ∧ x.doors = s.doors := by simp [hx]
    obtain ⟨hxbrk, hxmode, hxdoors⟩ := hxparts
    have hxwatch : x.rollWatch = true := by
      rw [State.rollWatch, hxbrk, hxmode]
      rcases hruns with hp | ⟨hm | hm, hh⟩
      · simp [hp]
      · simp [hm, hh]
      · simp [hm, hh]
    have hrolling : u.Rolling s.brk.rollCount := by
      have := State.toothMeasured_rolling (d := d) (micros := micros) (by rw [hxbrk]; exact hrun) hxwatch
      rwa [← hu, hxbrk] at this
    obtain ⟨⟨hurun, -, hucount⟩, -⟩ := id hrolling
    have humode : u.mode = s.mode := by simp [hu, hxmode]
    have huroll : u.brk.causes.rollaway = s.brk.causes.rollaway := by
      rw [hu, State.toothMeasured_rollaway, hxbrk]
    have hurackOff : s.brk.rack.state.energized = false → u.brk.rack.state.energized = false := fun hoff => by
      rw [hu]
      refine State.rackOff_quiet.evaluate ?_
      have htaken : ((x.withPos (x.pos.tooth x.params.maxUnconfirmed d micros)).endLong).brk.rack.state.energized = false := by
        rw [← hxbrk] at hoff
        exact hoff
      unfold State.lineEndTest
      (repeat' split)
      · exact State.rackOff_quiet.addCause (by decide) htaken
      · exact htaken
      · exact State.rackOff_quiet.addCause (by decide) htaken
      all_goals exact htaken
    have hcount : rollAfter u.rollDir d u.brk.rollCount = n := by
      have hdir : u.rollDir = sel := by
        have hselected : u.selectedDir = s.selectedDir :=
          State.selectedDir_congr (by simp [hu, hx]) (by simp [hu, hx]) (by simp [hu, hx])
        rw [State.rollDir, humode, hselected, hsel]
      rw [hdir, hucount, hn]
      cases sel <;> cases d <;> rfl
    have hexec : exec (.sensorTransition s1 s2 micros) s =
        .next (((u.rollTooth d).judgeVigilance.toothDoors x.pos).shadowTest) := by
      rw [exec_tooth micros hphase, ← hx, State.toothArrival_eq, hu]
    refine ⟨_, hexec, ?_⟩
    obtain ⟨a, ha⟩ : ∃ a, a = if s.mode.mode = .parked then 1 else 3 := ⟨_, rfl⟩
    rw [State.rollTooth_running d hurun, hcount, humode, CarMode.rollAllowance_eq, ← ha]
    by_cases hover : a < n.natAbs
    · rw [if_pos hover, if_pos hover]
      obtain ⟨hzero, hheld, hparked, hother, hjoins⟩ := State.rolledAway_rest (p := x.pos) (u := u) rfl
      rw [humode] at hparked hother
      rw [huroll] at hjoins
      refine ⟨hzero, hheld, fun hp => ?_, hother, hjoins⟩
      obtain ⟨hready, hpower, hkey, hperiod, hwindow, hflag, hoff⟩ := hparked hp
      exact ⟨hready, hpower, hkey, hperiod, hwindow, hflag, fun h => hoff (hurackOff h)⟩
    · rw [if_neg hover, if_neg hover]
      obtain ⟨⟨⟨hrunT, -, hcountT⟩, -⟩, hrollT⟩ :=
        State.rolling_rest (p := x.pos) (hrolling.recount n) (by simpa [hu, hxdoors] using hsides)
      exact ⟨hcountT, hrollT.trans huroll, hrunT, by simp [humode]⟩
  · obtain ⟨u, hu⟩ : ∃ u, u = s.setFeedback .hold .applied := ⟨_, rfl⟩
    have hexec : exec (.brakeFeedbackChange .hold .applied) s = .next (u.setBrake .hold .applied) := by
      have hjudged : u.judgeFeedback .hold = u.setBrake .hold .applied := by
        have hstateU : (u.brk.get .hold).state = .applying ∧ (u.brk.get .hold).feedback = .applied := by
          rw [hu, (State.setFeedback_get _ _ _).1]
          exact ⟨hstate, rfl⟩
        simp [State.judgeFeedback, hstateU]
      rw [← hjudged, hu]
      exact congrArg Host.Outcome.next (if_neg (by simp [Brakes.get, hread]))
    have hustate : u.brk.hold.state = .applying := by rw [hu]; exact hstate
    obtain ⟨hrunT, hcountT⟩ := State.setBrake_hold_watch (s := u) (x := .applied) (by simpa [hu, State.setFeedback] using hmode)
      (by rw [hustate]; decide) (by rw [hu]; simp [State.setFeedback, Brakes.put, hrun])
    exact ⟨_, hexec, (State.setBrake_same .hold .applied u).1, hrunT, hcountT⟩
  · obtain ⟨u, hu⟩ : ∃ u, u = s.setFeedback .hold .clear := ⟨_, rfl⟩
    have hustate : (u.brk.get .hold).state = .applied ∧ (u.brk.get .hold).feedback = .clear := by
      rw [hu, (State.setFeedback_get _ _ _).1]
      exact ⟨hstate, rfl⟩
    have hexec : exec (.brakeFeedbackChange .hold .clear) s = .next (u.faulted .hold) := by
      have hjudged : u.judgeFeedback .hold = u.faulted .hold := by
        rw [State.judgeFeedback_fault (.inl hustate), State.brakeFault_eq, hustate.2]
        simp
      rw [← hjudged, hu]
      exact congrArg Host.Outcome.next (if_neg (by simp [Brakes.get, hread]))
    have humode : u.mode.mode = .ready ∨ u.mode.mode = .drive := by simpa [hu, State.setFeedback] using hmode
    obtain ⟨hrunU, hcountU⟩ := State.setBrake_hold_watch (s := u) (x := .fault) humode
      (by rw [show u.brk.hold.state = .applied from hustate.1]; decide) (by rw [hu]; simp [State.setFeedback, Brakes.put, hrun])
    have hset : (u.setBrake .hold .fault).FaultWatch := by
      have hfault : (u.setBrake .hold .fault).brk.hold.state = .fault := (State.setBrake_same .hold .fault u).1
      refine ⟨hfault, hrunU, ?_, hcountU⟩
      rcases humode with hm | hm <;> simp [State.rollWatch, hm, hfault]
    have hfaulted : (u.faulted .hold).FaultWatch := by
      unfold State.faulted
      refine State.faultWatch_calm.addCause (by decide) ?_
      rw [if_pos hustate.1]
      exact State.faultWatch_closing.withdrawAll hset
    obtain ⟨hfault, hrunT, -, hcountT⟩ := hfaulted
    exact ⟨_, hexec, hfault, hrunT, hcountT⟩

end Sys2Proof.Machine

/-! SUPPORT. EVALUATION_TIMER_EXPIRY where the direction of travel stays, and the braking curves of its targets. -/

namespace Sys2Proof.Machine

/-! ## The timer's evaluation -/

/-- The supervision timer started again (R60). -/
def State.evalRestarted (s : State) : State := s.withSup { s.sup with evalTimer := evaluationPeriod }

/-- Where the direction of travel stays the timer's expiry is one evaluation (R60). -/
theorem exec_evaluation {s : State} (h : s.sup.travel = s.travelNow) :
    exec .evaluationTimerExpiry s = .next s.evalRestarted.evalCore := by
  have hsame : s.evalRestarted.sup.travel = s.evalRestarted.evalCore.sup.travel := by
    rw [State.evalCore_sup]
    exact h
  exact congrArg Host.Outcome.next (if_pos hsame)

/-- What the evaluation leaves of supervision (R60, R77, R80). -/
theorem State.evalRestarted_sup (s : State) : s.evalRestarted.evalCore.sup =
    { travel := s.travelNow
      permitted := s.limitNow.value
      warning := s.limitNow.value + s.params.warningMargin
      limiting := s.limitNow.shown
      targets := s.targetsNow
      state := s.sup.state.next s.pos.speed s.limitNow.value s.params.serviceMargin s.params.emergencyMargin
        s.pos.standstill
      passedMark := s.eoaBehind
      evalTimer := evaluationPeriod } := by
  rw [State.evalCore_sup]
  rfl

/-! ## What a target is made of -/

/-- A target of some place and speed (R70). -/
def State.IsTarget (s : State) (d : Dir) (g : Target) : Prop := ∃ kind pos vt teeth, g = s.target d kind pos vt teeth

theorem mem_insertNear {t u : Target} {l : List Target} : u ∈ insertNear t l ↔ u = t ∨ u ∈ l := by
  induction l with
  | nil => simp [insertNear]
  | cons x l ih =>
    unfold insertNear
    split
    · simp
    · simp only [List.mem_cons, ih]
      exact or_left_comm

/-- Ordering the targets keeps each of them (R70). -/
theorem mem_nearestFirst {u : Target} {l : List Target} : u ∈ nearestFirst l ↔ u ∈ l := by
  induction l with
  | nil => simp [nearestFirst]
  | cons x l ih =>
    have hstep : nearestFirst (x :: l) = insertNear x (nearestFirst l) := rfl
    rw [hstep, mem_insertNear, ih, List.mem_cons]

theorem State.isTarget_of_targetInView {s : State} {d : Dir} {kind : TargetKind} {pos : Int} {vt : Nat} {g : Target}
    (h : g ∈ s.targetInView d kind pos vt) : s.IsTarget d g := by
  unfold State.targetInView at h
  split at h
  · exact ⟨kind, pos, vt, _, by simpa using h⟩
  · simp at h

theorem State.isTarget_of_targetOrReached {s : State} {d : Dir} {kind : TargetKind} {pos : Int} {g : Target}
    (h : g ∈ s.targetOrReached d kind pos) : s.IsTarget d g := by
  unfold State.targetOrReached at h
  split at h
  · exact State.isTarget_of_targetInView h
  · exact ⟨kind, pos, 0, 0, by simpa using h⟩

/-- Every target of the list is one by its place and speed. -/
theorem State.isTarget_of_mem {s : State} {d : Dir} {g : Target} (h : g ∈ s.targetList d) : s.IsTarget d g := by
  unfold State.targetList at h
  split at h
  · simp only [mem_nearestFirst, List.mem_append] at h
    obtain (((h | h) | h) | h) | h := h
    · unfold State.authorityTarget at h
      split at h
      · split at h
        · exact State.isTarget_of_targetOrReached h
        · exact ⟨_, _, _, _, by simpa using h⟩
      · exact ⟨_, _, _, _, by simpa using h⟩
    · exact State.isTarget_of_targetOrReached h
    · unfold State.overflowTarget at h
      split at h
      · exact State.isTarget_of_targetInView h
      · simp at h
    · simp only [State.restrictionTargets, List.mem_flatten, List.mem_map] at h
      obtain ⟨l, ⟨r, -, rfl⟩, hg⟩ := h
      exact State.isTarget_of_targetInView hg
    · simp only [State.boundaryTargets, List.mem_flatten, List.mem_map] at h
      obtain ⟨l, ⟨p, -, rfl⟩, hg⟩ := h
      unfold State.boundaryTarget at hg
      cases d <;> exact State.isTarget_of_targetInView hg
  · simp at h

/-! ## The arithmetic of the curve -/

theorem ceilDiv_spec {n d k : Nat} (hd : 0 < d) (hlow : n ≤ d * k) (hhigh : d * k < n + d) : ceilDiv n d = k := by
  rw [ceilDiv, Nat.div_eq_of_lt_le]
  · rw [Nat.mul_comm]; omega
  · rw [Nat.succ_mul, Nat.mul_comm]; omega

/-- The root is found digit by digit, from below (R75). -/
theorem isqrtFrom_spec (n k r : Nat) (hlow : r * r ≤ n) (hhigh : n < (r + 2 ^ k) * (r + 2 ^ k)) :
    isqrtFrom n k r * isqrtFrom n k r ≤ n ∧ n < (isqrtFrom n k r + 1) * (isqrtFrom n k r + 1) := by
  induction k generalizing r with
  | zero => exact ⟨hlow, show n < (r + 1) * (r + 1) by simpa using hhigh⟩
  | succ k ih =>
    have hdouble : 2 ^ (k + 1) = 2 ^ k + 2 ^ k := by rw [Nat.pow_succ]; omega
    unfold isqrtFrom
    split
    · next hfits =>
      refine ih _ hfits ?_
      rwa [hdouble, ← Nat.add_assoc] at hhigh
    · next hover => exact ih _ hlow (Nat.not_le.1 hover)

/-- The integer square root is the largest integer whose square does not exceed the argument (R75). -/
theorem isqrt_spec (n : Nat) : isqrt n * isqrt n ≤ n ∧ n < (isqrt n + 1) * (isqrt n + 1) := by
  refine isqrtFrom_spec n _ 0 (by simp) ?_
  have hlog : n < 2 ^ (n.log2 + 1) := Nat.lt_log2_self
  have hexp : n.log2 + 1 ≤ (n.log2 / 2 + 1) + (n.log2 / 2 + 1) := by omega
  calc n < 2 ^ (n.log2 + 1) := hlog
    _ ≤ 2 ^ ((n.log2 / 2 + 1) + (n.log2 / 2 + 1)) := Nat.pow_le_pow_right (by omega) hexp
    _ = (0 + 2 ^ (n.log2 / 2 + 1)) * (0 + 2 ^ (n.log2 / 2 + 1)) := by rw [Nat.pow_add]; simp

/-! ## The worst fall -/

/-- The greatest of the falls met, and of the one before. -/
theorem foldl_fall_spec (d : Dir) (l : List Span) (m : Nat) :
    (m ≤ l.foldl (fun m p => max m (p.seg.falling d).toNat) m) ∧
      (∀ p ∈ l, (p.seg.falling d).toNat ≤ l.foldl (fun m p => max m (p.seg.falling d).toNat) m) ∧
      (l.foldl (fun m p => max m (p.seg.falling d).toNat) m = m ∨
        ∃ p ∈ l, (p.seg.falling d).toNat = l.foldl (fun m p => max m (p.seg.falling d).toNat) m) := by
  induction l generalizing m with
  | nil => simp
  | cons x l ih =>
    obtain ⟨hbase, hall, hfound⟩ := ih (max m (x.seg.falling d).toNat)
    rw [List.foldl_cons]
    refine ⟨by omega, fun p hp => ?_, ?_⟩
    · rcases List.mem_cons.1 hp with rfl | hp
      · omega
      · exact hall p hp
    · rcases hfound with hfound | ⟨p, hp, he⟩
      · rcases Nat.le_total m (x.seg.falling d).toNat with hle | hle
        · exact .inr ⟨x, by simp, by rw [hfound]; omega⟩
        · exact .inl (by rw [hfound]; omega)
      · exact .inr ⟨p, by simp [hp], he⟩

theorem fallOf_eq (d : Dir) (g : Segment) : fallOf d g.gradient = g.falling d := by cases d <;> rfl

/-- The worst fall over a span (R72). -/
theorem State.fMax_spec (s : State) (d : Dir) (lo hi : Int) :
    (∀ p ∈ s.line.overlapping lo hi, fallOf d p.seg.gradient ≤ s.fMax d lo hi) ∧
      (s.fMax d lo hi = 0 ∨ ∃ p ∈ s.line.overlapping lo hi, fallOf d p.seg.gradient = s.fMax d lo hi) := by
  obtain ⟨-, hall, hfound⟩ := foldl_fall_spec d (s.line.overlapping lo hi) 0
  refine ⟨fun p hp => ?_, ?_⟩
  · have := hall p hp
    rw [fallOf_eq]
    unfold State.fMax
    omega
  · by_cases hzero : s.fMax d lo hi = 0
    · exact .inl hzero
    · refine .inr ?_
      rcases hfound with hfound | ⟨p, hp, he⟩
      · exact absurd hfound hzero
      · refine ⟨p, hp, ?_⟩
        have hmax : (p.seg.falling d).toNat = s.fMax d lo hi := he
        rw [fallOf_eq]
        omega

/-! ## The curve speed -/

theorem State.curveSpeed_floor {s : State} {vt distance : Nat} {a : Int} (h : a < s.params.aFloor) :
    s.curveSpeed vt distance a = vt := if_pos h

theorem State.effDistance_eq {s : State} {distance run : Nat} (hlow : s.pos.speed * s.params.reaction ≤ 10 * run)
    (hhigh : 10 * run < s.pos.speed * s.params.reaction + 10) :
    s.effDistance distance = (distance : Int) - run - (s.params.targetMargin : Int) * 10 := by
  rw [State.effDistance, ceilDiv_spec (by omega) hlow hhigh]

/-- With distance left the curve speed is the largest integer within the square, capped at 1,200 (R75). -/
theorem State.curveSpeed_spec {s : State} {vt distance eff : Nat} {a : Int} (hfloor : (s.params.aFloor : Int) ≤ a)
    (heff : s.effDistance distance = eff) (hpos : 0 < eff) :
    s.curveSpeed vt distance a ≤ 1200 ∧
      (s.curveSpeed vt distance a : Int) * s.curveSpeed vt distance a ≤ (vt : Int) * vt + 2 * a * eff ∧
      (s.curveSpeed vt distance a = 1200 ∨
        (vt : Int) * vt + 2 * a * eff < ((s.curveSpeed vt distance a : Int) + 1) * (s.curveSpeed vt distance a + 1)) := by
  obtain ⟨b, rfl⟩ : ∃ b : Nat, a = b := ⟨a.toNat, by omega⟩
  obtain ⟨r, hr⟩ : ∃ r, r = isqrt (vt * vt + 2 * b * eff) := ⟨_, rfl⟩
  obtain ⟨hsquare, hnext⟩ := isqrt_spec (vt * vt + 2 * b * eff)
  rw [← hr] at hsquare hnext
  have hcurve : s.curveSpeed vt distance b = min 1200 r := by
    rw [State.curveSpeed, if_neg (by omega), heff, if_neg (by omega), hr]
    rfl
  have hsquareZ : (r : Int) * r ≤ (vt : Int) * vt + 2 * b * eff := by exact_mod_cast hsquare
  have hnextZ : (vt : Int) * vt + 2 * b * eff < ((r : Int) + 1) * (r + 1) := by exact_mod_cast hnext
  rw [hcurve]
  rcases Nat.le_total r 1200 with hle | hle
  · rw [Nat.min_eq_right hle]
    exact ⟨hle, hsquareZ, .inr hnextZ⟩
  · rw [Nat.min_eq_left hle]
    have hleZ : ((1200 : Nat) : Int) ≤ r := Int.ofNat_le.2 hle
    have hcapped := Int.mul_le_mul hleZ hleZ (Int.natCast_nonneg _) (Int.natCast_nonneg _)
    exact ⟨Nat.le_refl _, Int.le_trans hcapped hsquareZ, .inl rfl⟩

/-- Settles O40: a target's worst fall, gravity term and curve speed are the rounded ones. -/
theorem curvesAreRoundedToTheLowerSpeed : Obligations.CurvesAreRoundedToTheLowerSpeed := by
  intro s d hvalid hnow htravel
  refine ⟨_, exec_evaluation (htravel.trans hnow.symm), fun g hg => ?_⟩
  rw [State.evalRestarted_sup] at hg
  have htargets : s.targetsNow = s.targetList d := by simp [State.targetsNow, hvalid, hnow]
  obtain ⟨kind, pos, vt, teeth, rfl⟩ := State.isTarget_of_mem (htargets ▸ hg)
  obtain ⟨hall, hfound⟩ := s.fMax_spec d (min (s.rearEnd d) pos) (max (s.rearEnd d) pos)
  refine ⟨hall, hfound, fun grav hlow hhigh => ?_, State.curveSpeed_floor, fun run hlow hhigh hfloor =>
    ⟨fun hnear => ?_, fun eff hdistance hpos => ?_⟩⟩
  · have hgravity : gravity (s.fMax d (min (s.rearEnd d) pos) (max (s.rearEnd d) pos)) = grav :=
      ceilDiv_spec (by omega) hlow hhigh
    simp only [State.target, hgravity]
  · have hnone : s.effDistance (teeth * 10) ≤ 0 := by
      rw [State.effDistance_eq hlow hhigh]
      have : teeth * 10 ≤ run + s.params.targetMargin * 10 := hnear
      omega
    simp only [State.target, State.curveSpeed, if_pos hnone, ite_self]
  · refine State.curveSpeed_spec hfloor ?_ hpos
    rw [State.effDistance_eq hlow hhigh]
    have : teeth * 10 = run + s.params.targetMargin * 10 + eff := hdistance
    omega

end Sys2Proof.Machine

/-! SUPPORT. The target list of an evaluation: what it holds, its order and its bound. -/

namespace Sys2Proof.Machine

/-! ## In view -/

theorem State.ahead_iff {s : State} {d : Dir} {p : Int} : s.ahead d p = true ↔ s.isAhead d p := by
  cases d <;> exact decide_eq_true_iff

theorem State.inLookAhead_iff {s : State} {d : Dir} {p : Int} {teeth : Nat} :
    s.inLookAhead d p teeth ↔ s.inView d p = true ∧ teeth = s.teethTo d p := by
  simp only [State.inLookAhead, State.inView, Bool.and_eq_true, State.ahead_iff, decide_eq_true_eq]
  constructor
  · rintro ⟨hahead, rfl, hnear⟩
    exact ⟨⟨hahead, hnear⟩, rfl⟩
  · rintro ⟨⟨hahead, hnear⟩, rfl⟩
    exact ⟨hahead, rfl, hnear⟩

theorem State.mem_targetInView {s : State} {d : Dir} {k : TargetKind} {p : Int} {vt : Nat} {g : Target} :
    g ∈ s.targetInView d k p vt ↔ ∃ teeth, s.inLookAhead d p teeth ∧ g = s.target d k p vt teeth := by
  simp only [State.inLookAhead_iff]
  unfold State.targetInView
  split
  · next h => simp [h]
  · next h => simp [h]

theorem State.mem_targetOrReached {s : State} {d : Dir} {k : TargetKind} {p : Int} {g : Target} :
    g ∈ s.targetOrReached d k p ↔ ∃ teeth, (s.inLookAhead d p teeth ∨ (¬ s.isAhead d p ∧ teeth = 0)) ∧
      g = s.target d k p 0 teeth := by
  unfold State.targetOrReached
  split
  · next h =>
    simp [State.mem_targetInView, State.ahead_iff.1 h]
  · next h =>
    have hnot : ¬ s.isAhead d p := fun ha => h (State.ahead_iff.2 ha)
    have hview : ∀ teeth, ¬ s.inLookAhead d p teeth := fun teeth hv => hnot hv.1
    simp [hview, hnot]

/-! ## The targets of a kind -/

/-- A target of a kind as the line and the authority give it (R68, R69). -/
def State.Gives (s : State) (d : Dir) (k : TargetKind) (g : Target) : Prop :=
  ∃ p vt teeth, s.givesTarget d k p vt teeth ∧ g = s.target d k p vt teeth

theorem State.mem_authorityTarget {s : State} {d : Dir} {g : Target} :
    g ∈ s.authorityTarget d ↔ s.Gives d .eoa g ∨ s.Gives d .noAuthority g := by
  unfold State.authorityTarget State.Gives
  split
  · next a ha =>
    by_cases husable : a.usable d = true
    · have hboth : a.void = false ∧ a.dir = d := by simpa [Authority.usable] using husable
      rw [if_pos husable, State.mem_targetOrReached]
      constructor
      · rintro ⟨teeth, hview, rfl⟩
        exact .inl ⟨a.eoa, 0, teeth, ⟨rfl, hview, a, ha, hboth.1, hboth.2, rfl⟩, rfl⟩
      · rintro (⟨p, vt, teeth, ⟨rfl, hview, b, hb, -, -, rfl⟩, rfl⟩ | ⟨p, vt, teeth, ⟨-, -, -, hnone⟩, -⟩)
        · obtain rfl : a = b := Option.some.inj (ha.symm.trans hb)
          exact ⟨teeth, hview, rfl⟩
        · rcases hnone a ha with h | h
          · simp [hboth.1] at h
          · exact absurd hboth.2 h
    · have hunusable : a.void = true ∨ a.dir ≠ d := by
        refine Classical.byContradiction fun hnot => ?_
        rw [not_or] at hnot
        exact husable (by simpa [Authority.usable] using hnot)
      rw [if_neg husable, List.mem_singleton]
      constructor
      · rintro rfl
        exact .inr ⟨_, 0, 0, ⟨rfl, rfl, rfl, fun b hb => Option.some.inj (ha.symm.trans hb) ▸ hunusable⟩, rfl⟩
      · rintro (⟨p, vt, teeth, ⟨rfl, hview, b, hb, hvoid, hdir, rfl⟩, rfl⟩ | ⟨p, vt, teeth, ⟨rfl, rfl, rfl, -⟩, rfl⟩)
        · obtain rfl : a = b := Option.some.inj (ha.symm.trans hb)
          rcases hunusable with h | h
          · simp [hvoid] at h
          · exact absurd hdir h
        · rfl
  · next ha =>
    rw [List.mem_singleton]
    constructor
    · rintro rfl
      exact .inr ⟨_, 0, 0, ⟨rfl, rfl, rfl, fun b hb => by simp [ha] at hb⟩, rfl⟩
    · rintro (⟨p, vt, teeth, ⟨-, -, b, hb, -⟩, -⟩ | ⟨p, vt, teeth, ⟨rfl, rfl, rfl, -⟩, rfl⟩)
      · simp [ha] at hb
      · rfl

theorem State.mem_lineEndTarget {s : State} {d : Dir} {g : Target} : g ∈ s.lineEndTarget d ↔ s.Gives d .lineEnd g := by
  unfold State.lineEndTarget State.Gives
  rw [State.mem_targetOrReached]
  constructor
  · rintro ⟨teeth, hview, rfl⟩
    exact ⟨_, 0, teeth, ⟨rfl, hview, rfl⟩, rfl⟩
  · rintro ⟨p, vt, teeth, ⟨rfl, hview, rfl⟩, rfl⟩
    exact ⟨teeth, hview, rfl⟩

theorem entryPoint_eq (start stop : Nat) (d : Dir) :
    entryPoint start stop d = (match d with | .up => (start : Int) | .down => stop) := by cases d <;> rfl

theorem State.mem_overflowTarget {s : State} {d : Dir} {g : Target} : g ∈ s.overflowTarget d ↔ s.Gives d .overflow g := by
  unfold State.overflowTarget State.Gives
  split
  · next o ho =>
    rw [State.mem_targetInView]
    constructor
    · rintro ⟨teeth, hview, rfl⟩
      exact ⟨_, _, teeth, ⟨hview, o, ho, entryPoint_eq .., rfl⟩, rfl⟩
    · rintro ⟨p, vt, teeth, ⟨hview, q, hq, hp, rfl⟩, rfl⟩
      obtain rfl : o = q := Option.some.inj (ho.symm.trans hq)
      obtain rfl : p = entryPoint o.start o.stop d := hp.trans (entryPoint_eq ..).symm
      exact ⟨teeth, hview, rfl⟩
  · next ho =>
    refine ⟨fun h => absurd h (by simp), ?_⟩
    rintro ⟨p, vt, teeth, ⟨-, q, hq, -⟩, -⟩
    simp [ho] at hq

theorem State.mem_restrictionTargets {s : State} {d : Dir} {g : Target} :
    g ∈ s.restrictionTargets d ↔ s.Gives d .restriction g := by
  simp only [State.restrictionTargets, State.Gives, List.mem_flatten, List.mem_map]
  constructor
  · rintro ⟨l, ⟨r, hr, rfl⟩, hg⟩
    obtain ⟨teeth, hview, rfl⟩ := State.mem_targetInView.1 hg
    exact ⟨_, _, teeth, ⟨hview, r, hr, entryPoint_eq .., rfl⟩, rfl⟩
  · rintro ⟨p, vt, teeth, ⟨hview, r, hr, hp, rfl⟩, rfl⟩
    obtain rfl : p = entryPoint r.start r.stop d := hp.trans (entryPoint_eq ..).symm
    exact ⟨_, ⟨r, hr, rfl⟩, State.mem_targetInView.2 ⟨teeth, hview, rfl⟩⟩

/-! ## The boundaries -/

/-- The target of the boundary between two segments (R68). -/
def State.betweenTarget (s : State) (d : Dir) (lower upper : Segment) : List Target :=
  match d with
  | .up => s.targetInView .up .boundary upper.start upper.limitUp
  | .down => s.targetInView .down .boundary ((upper.start : Int) - 1) lower.limitDown

theorem spansOf_head (n i : Nat) (g : Segment) (l : List Segment) :
    ∃ a rest, spansOf n i (g :: l) = a :: rest ∧ a.seg = g ∧ a.first = g.start := by
  cases l <;> exact ⟨_, _, rfl, rfl, rfl⟩

/-- Neighbouring spans are those of neighbouring segments, each ending where the next begins (R2). -/
theorem boundaries_of_spans (s : State) (d : Dir) (n i : Nat) (l : List Segment) :
    ((spansOf n i l).zip (spansOf n i l).tail).map (fun p => s.boundaryTarget d p.1 p.2) =
      (l.zip l.tail).map fun p => s.betweenTarget d p.1 p.2 := by
  induction l generalizing i with
  | nil => rfl
  | cons g l ih =>
    cases l with
    | nil => rfl
    | cons h rest =>
      have htail := ih (i + 1)
      obtain ⟨a, more, hspans, hseg, hfirst⟩ := spansOf_head n (i + 1) h rest
      rw [hspans] at htail
      have hstep : spansOf n i (g :: h :: rest) =
          { seg := g, first := g.start, last := (h.start : Int) - 1, index := i } :: a :: more := by
        rw [← hspans]
        rfl
      simp only [hstep, List.tail_cons, List.zip_cons_cons, List.map_cons] at htail ⊢
      rw [htail]
      refine congrArg (· :: _) ?_
      cases d <;> simp only [State.boundaryTarget, State.betweenTarget, hseg, hfirst]

theorem State.boundaryTargets_eq {s : State} {d : Dir} (h : s.line.profile = .valid) :
    s.boundaryTargets d = (((s.line.segments.map (·.2)).zip (s.line.segments.map (·.2)).tail).map fun p =>
      s.betweenTarget d p.1 p.2).flatten := by
  rw [State.boundaryTargets, LineStore.spans, if_pos h, boundaries_of_spans]

/-- Neighbours in a list are those at consecutive places. -/
theorem mem_zip_tail {α : Type} {l : List α} {a b : α} :
    (a, b) ∈ l.zip l.tail ↔ ∃ i, l[i]? = some a ∧ l[i + 1]? = some b := by
  rw [List.mem_iff_getElem?]
  simp only [List.getElem?_zip_eq_some, List.getElem?_tail]

theorem State.mem_boundaryTargets {s : State} {d : Dir} {g : Target} (h : s.line.profile = .valid) :
    g ∈ s.boundaryTargets d ↔ s.Gives d .boundary g := by
  rw [State.boundaryTargets_eq h]
  simp only [List.mem_flatten, List.mem_map, State.Gives]
  constructor
  · rintro ⟨l, ⟨⟨lower, upper⟩, hmem, rfl⟩, hg⟩
    obtain ⟨i, hlower, hupper⟩ := mem_zip_tail.1 hmem
    rw [List.getElem?_map, Option.map_eq_some_iff] at hlower hupper
    obtain ⟨e, he, rfl⟩ := hlower
    obtain ⟨f, hf, rfl⟩ := hupper
    cases d
    · obtain ⟨teeth, hview, rfl⟩ := State.mem_targetInView.1 hg
      exact ⟨_, _, teeth, ⟨hview, i, e, f, he, hf, rfl, rfl⟩, rfl⟩
    · obtain ⟨teeth, hview, rfl⟩ := State.mem_targetInView.1 hg
      exact ⟨_, _, teeth, ⟨hview, i, e, f, he, hf, rfl, rfl⟩, rfl⟩
  · rintro ⟨p, vt, teeth, ⟨hview, i, e, f, he, hf, hplace⟩, rfl⟩
    have hmem : (e.2, f.2) ∈ (s.line.segments.map (·.2)).zip (s.line.segments.map (·.2)).tail :=
      mem_zip_tail.2 ⟨i, by simp [he], by simp [hf]⟩
    refine ⟨s.betweenTarget d e.2 f.2, ⟨(e.2, f.2), hmem, rfl⟩, ?_⟩
    cases d
    · obtain ⟨rfl, rfl⟩ := hplace
      exact State.mem_targetInView.2 ⟨teeth, hview, rfl⟩
    · obtain ⟨rfl, rfl⟩ := hplace
      exact State.mem_targetInView.2 ⟨teeth, hview, rfl⟩

/-! ## The whole list -/

/-- The targets in the order of their kinds, before they are put nearest first. -/
def State.targetsByKind (s : State) (d : Dir) : List Target :=
  s.authorityTarget d ++ s.lineEndTarget d ++ s.overflowTarget d ++ s.restrictionTargets d ++ s.boundaryTargets d

theorem State.targetList_eq (s : State) (d : Dir) :
    s.targetList d = if s.pos.confidence.buildsTargets then nearestFirst (s.targetsByKind d) else [] := rfl

/-- The list holds exactly the targets given (R68, R69). -/
theorem State.mem_targetsByKind {s : State} {d : Dir} {g : Target} (h : s.line.profile = .valid) :
    g ∈ s.targetsByKind d ↔ ∃ k, s.Gives d k g := by
  simp only [State.targetsByKind, List.mem_append, State.mem_authorityTarget, State.mem_lineEndTarget,
    State.mem_overflowTarget, State.mem_restrictionTargets, State.mem_boundaryTargets h]
  constructor
  · rintro (((((h | h) | h) | h) | h) | h)
    all_goals exact ⟨_, h⟩
  · rintro ⟨k, hk⟩
    cases k
    all_goals simp [hk]

/-! ## The order -/

/-- Nearer first; at one distance in the order of the kinds (R70). -/
def Target.Before (g h : Target) : Prop :=
  g.distance < h.distance ∨ (g.distance = h.distance ∧ g.kind.place ≤ h.kind.place)

theorem insertNear_sorted {t : Target} {l : List Target} (hl : l.Pairwise Target.Before)
    (hkind : ∀ u ∈ l, t.kind.place ≤ u.kind.place) : (insertNear t l).Pairwise Target.Before := by
  induction l with
  | nil => simp [insertNear]
  | cons x l ih =>
    obtain ⟨hx, hrest⟩ := List.pairwise_cons.1 hl
    unfold insertNear
    split
    · next hnear =>
      refine List.pairwise_cons.2 ⟨fun u hu => ?_, hl⟩
      have hdist : t.distance ≤ u.distance := by
        rcases List.mem_cons.1 hu with rfl | hu
        · exact hnear
        · rcases hx u hu with h | ⟨h, -⟩ <;> omega
      have := hkind u hu
      unfold Target.Before
      omega
    · next hfar =>
      refine List.pairwise_cons.2 ⟨fun u hu => ?_, ih hrest fun u hu => hkind u (by simp [hu])⟩
      rcases mem_insertNear.1 hu with rfl | hu
      · exact .inl (by omega)
      · exact hx u hu

/-- Targets in the order of their kinds are put in the order of R70. -/
theorem nearestFirst_sorted {l : List Target} (h : l.Pairwise fun g h => g.kind.place ≤ h.kind.place) :
    (nearestFirst l).Pairwise Target.Before := by
  induction l with
  | nil => exact .nil
  | cons x l ih =>
    obtain ⟨hx, hrest⟩ := List.pairwise_cons.1 h
    exact insertNear_sorted (ih hrest) fun u hu => hx u (mem_nearestFirst.1 hu)

theorem insertNear_length (t : Target) (l : List Target) : (insertNear t l).length = l.length + 1 := by
  induction l with
  | nil => rfl
  | cons x l ih =>
    unfold insertNear
    split
    · rfl
    · simp [ih]

theorem nearestFirst_length (l : List Target) : (nearestFirst l).length = l.length := by
  induction l with
  | nil => rfl
  | cons x l ih => exact (insertNear_length x (nearestFirst l)).trans (by rw [ih]; rfl)

/-- Among targets of one distance the order given stays (R70). -/
theorem filter_insertNear {q : Target → Bool} {t : Target} {l : List Target}
    (hsame : q t = true → ∀ u ∈ l, q u = true → t.distance ≤ u.distance) :
    (insertNear t l).filter q = (t :: l).filter q := by
  induction l with
  | nil => rfl
  | cons x l ih =>
    unfold insertNear
    split
    · rfl
    · next hfar =>
      have hrest := ih fun ht u hu => hsame ht u (by simp [hu])
      rw [List.filter_cons, hrest]
      by_cases ht : q t = true
      · have hx : ¬ q x = true := fun hx => hfar (hsame ht x (by simp) hx)
        simp [ht, hx]
      · simp [List.filter_cons, ht]

theorem filter_nearestFirst {q : Target → Bool} {n : Nat} {l : List Target}
    (hsame : ∀ u ∈ l, q u = true → u.distance = n) : (nearestFirst l).filter q = l.filter q := by
  induction l with
  | nil => rfl
  | cons x l ih =>
    have hstep : (insertNear x (nearestFirst l)).filter q = (x :: nearestFirst l).filter q :=
      filter_insertNear fun hx u hu hq => Nat.le_of_eq (by
        rw [hsame x (by simp) hx, hsame u (by simp [mem_nearestFirst.1 hu]) hq])
    have hrest := ih fun u hu => hsame u (by simp [hu])
    exact hstep.trans (by rw [List.filter_cons, List.filter_cons, hrest])

theorem State.Gives.kind_eq {s : State} {d : Dir} {k : TargetKind} {g : Target} (h : s.Gives d k g) : g.kind = k := by
  obtain ⟨p, vt, teeth, -, rfl⟩ := h
  rfl

/-- The targets before they are put nearest first stand in the order of their kinds (R70). -/
theorem State.targetsByKind_sorted {s : State} (d : Dir) (h : s.line.profile = .valid) :
    (s.targetsByKind d).Pairwise fun g h => g.kind.place ≤ h.kind.place := by
  have hauthority : ∀ g ∈ s.authorityTarget d, g.kind.place = 0 := fun g hg => by
    rcases State.mem_authorityTarget.1 hg with h | h <;> rw [h.kind_eq] <;> rfl
  have hlineEnd : ∀ g ∈ s.lineEndTarget d, g.kind.place = 1 := fun g hg => by
    rw [(State.mem_lineEndTarget.1 hg).kind_eq]; rfl
  have hoverflow : ∀ g ∈ s.overflowTarget d, g.kind.place = 2 := fun g hg => by
    rw [(State.mem_overflowTarget.1 hg).kind_eq]; rfl
  have hrestriction : ∀ g ∈ s.restrictionTargets d, g.kind.place = 3 := fun g hg => by
    rw [(State.mem_restrictionTargets.1 hg).kind_eq]; rfl
  have hboundary : ∀ g ∈ s.boundaryTargets d, g.kind.place = 4 := fun g hg => by
    rw [((State.mem_boundaryTargets h).1 hg).kind_eq]; rfl
  have hconst : ∀ {n : Nat} {l : List Target}, (∀ g ∈ l, g.kind.place = n) →
      l.Pairwise fun g h => g.kind.place ≤ h.kind.place := fun hl =>
    List.pairwise_of_forall_mem_list fun a ha b hb => Nat.le_of_eq (by rw [hl a ha, hl b hb])
  simp only [State.targetsByKind, List.pairwise_append, List.mem_append]
  refine ⟨⟨⟨⟨hconst hauthority, hconst hlineEnd, ?_⟩, hconst hoverflow, ?_⟩, hconst hrestriction, ?_⟩, hconst hboundary, ?_⟩
  · intro a ha b hb
    rw [hauthority a ha, hlineEnd b hb]
    decide
  · rintro a (ha | ha) b hb
    · rw [hauthority a ha, hoverflow b hb]; decide
    · rw [hlineEnd a ha, hoverflow b hb]; decide
  · rintro a ((ha | ha) | ha) b hb
    · rw [hauthority a ha, hrestriction b hb]; decide
    · rw [hlineEnd a ha, hrestriction b hb]; decide
    · rw [hoverflow a ha, hrestriction b hb]; decide
  · rintro a (((ha | ha) | ha) | ha) b hb
    · rw [hauthority a ha, hboundary b hb]; decide
    · rw [hlineEnd a ha, hboundary b hb]; decide
    · rw [hoverflow a ha, hboundary b hb]; decide
    · rw [hrestriction a ha, hboundary b hb]; decide

/-! ## Restrictions at one entry point -/

/-- A restriction target at a position. -/
def Target.restrictsAt (p : Int) (g : Target) : Bool := decide (g.kind = .restriction) && decide (g.pos = p)

/-- The restriction targets at a position in view are those of the restrictions entered there, in the list's order (R68). -/
theorem State.restrictionTargets_at {s : State} {d : Dir} {p : Int} (h : s.inView d p = true) :
    ((s.restrictionTargets d).filter (Target.restrictsAt p)).map (·.vt) =
      (s.line.restrictions.filter fun r => decide (p = entryPoint r.start r.stop d)).map (·.limit) := by
  unfold State.restrictionTargets
  generalize s.line.restrictions = l
  induction l with
  | nil => rfl
  | cons r l ih =>
    rw [List.map_cons, List.flatten_cons, List.filter_append, List.map_append, ih, List.filter_cons]
    by_cases hp : p = entryPoint r.start r.stop d
    · have hone : s.targetInView d .restriction (entryPoint r.start r.stop d) r.limit =
          [s.target d .restriction p r.limit (s.teethTo d p)] := by
        rw [State.targetInView, ← hp, if_pos h]
      simp [hone, hp, Target.restrictsAt, State.target]
    · have hnone : (s.targetInView d .restriction (entryPoint r.start r.stop d) r.limit).filter (Target.restrictsAt p) =
          [] := by
        refine List.filter_eq_nil_iff.2 fun g hg => ?_
        obtain ⟨teeth, -, rfl⟩ := State.mem_targetInView.1 hg
        simp [Target.restrictsAt, State.target, Ne.symm hp]
      simp [hnone, hp]

/-- No other kind of target restricts. -/
theorem filter_restrictsAt_nil {s : State} {d : Dir} {k : TargetKind} (hk : k ≠ .restriction) {l : List Target}
    (hl : ∀ g ∈ l, s.Gives d k g) (p : Int) : l.filter (Target.restrictsAt p) = [] :=
  List.filter_eq_nil_iff.2 fun g hg => by simp [Target.restrictsAt, (hl g hg).kind_eq, hk]

theorem State.targetsByKind_restrictsAt {s : State} (d : Dir) (h : s.line.profile = .valid) (p : Int) :
    (s.targetsByKind d).filter (Target.restrictsAt p) = (s.restrictionTargets d).filter (Target.restrictsAt p) := by
  have hauthority : (s.authorityTarget d).filter (Target.restrictsAt p) = [] :=
    List.filter_eq_nil_iff.2 fun g hg => by
      rcases State.mem_authorityTarget.1 hg with h | h <;> simp [Target.restrictsAt, h.kind_eq]
  have hlineEnd := filter_restrictsAt_nil (by decide) (fun g hg => State.mem_lineEndTarget (s := s) (d := d).1 hg) p
  have hoverflow := filter_restrictsAt_nil (by decide) (fun g hg => State.mem_overflowTarget (s := s) (d := d).1 hg) p
  have hboundary := filter_restrictsAt_nil (by decide) (fun g hg => (State.mem_boundaryTargets (d := d) h).1 hg) p
  simp [State.targetsByKind, hauthority, hlineEnd, hoverflow, hboundary]

/-! ## The bound -/

theorem State.targetInView_length (s : State) (d : Dir) (k : TargetKind) (p : Int) (vt : Nat) :
    (s.targetInView d k p vt).length ≤ 1 := by
  unfold State.targetInView
  split <;> simp

theorem State.targetOrReached_length (s : State) (d : Dir) (k : TargetKind) (p : Int) :
    (s.targetOrReached d k p).length ≤ 1 := by
  unfold State.targetOrReached
  split
  · exact s.targetInView_length d k p 0
  · simp

theorem flatten_length_le {α β : Type} {f : α → List β} (hf : ∀ a, (f a).length ≤ 1) (l : List α) :
    ((l.map f).flatten).length ≤ l.length := by
  induction l with
  | nil => simp
  | cons a l ih =>
    have := hf a
    simp only [List.map_cons, List.flatten_cons, List.length_append, List.length_cons]
    omega

/-- At most one target of the authority, one of the line end, one of the overflow record, 16 restrictions and 255 boundaries
(R70). -/
theorem State.targetsByKind_length {s : State} (d : Dir) (h : s.line.profile = .valid) (hlist : RestrictionLaw s)
    (hsegments : s.line.segments.length ≤ 256) : (s.targetsByKind d).length ≤ 274 := by
  have hauthority : (s.authorityTarget d).length ≤ 1 := by
    unfold State.authorityTarget
    split
    · split
      · exact s.targetOrReached_length d _ _
      · simp
    · simp
  have hlineEnd : (s.lineEndTarget d).length ≤ 1 := s.targetOrReached_length d _ _
  have hoverflow : (s.overflowTarget d).length ≤ 1 := by
    unfold State.overflowTarget
    split
    · exact s.targetInView_length ..
    · simp
  have hrestriction : (s.restrictionTargets d).length ≤ s.line.restrictions.length :=
    flatten_length_le (fun r => s.targetInView_length ..) _
  have hboundary : (s.boundaryTargets d).length ≤ 255 := by
    have hone : ∀ p : Segment × Segment, (s.betweenTarget d p.1 p.2).length ≤ 1 := fun p => by
      cases d <;> exact s.targetInView_length ..
    have := flatten_length_le hone ((s.line.segments.map (·.2)).zip (s.line.segments.map (·.2)).tail)
    rw [State.boundaryTargets_eq h]
    simp only [List.length_zip, List.length_map, List.length_tail] at this
    omega
  obtain ⟨hsixteen, -⟩ := hlist
  simp only [State.targetsByKind, List.length_append]
  omega

/-- Settles O39: the list holds the targets given, in their order, restrictions in theirs, and at most 274. -/
theorem targetListIsThatOfTheLine : Obligations.TargetListIsThatOfTheLine := by
  intro s d hvalid hnow htravel
  have htargets : s.evalRestarted.evalCore.sup.targets = s.targetList d := by
    rw [State.evalRestarted_sup]
    simp [State.targetsNow, hvalid, hnow]
  refine ⟨_, exec_evaluation (htravel.trans hnow.symm), fun hnone => ?_, fun hknown hdeclared => ?_⟩
  · rw [htargets, State.targetList_eq]
    rcases hnone with h | h <;> simp [h, Confidence.buildsTargets]
  · have hbuilds : s.pos.confidence.buildsTargets = true := by
      cases hc : s.pos.confidence <;> simp_all [Confidence.buildsTargets]
    have hlist : s.evalRestarted.evalCore.sup.targets = nearestFirst (s.targetsByKind d) := by
      rw [htargets, State.targetList_eq, if_pos hbuilds]
    rw [hlist]
    refine ⟨fun g hg => ?_, fun k p vt teeth hgives => ?_, nearestFirst_sorted (State.targetsByKind_sorted d hvalid),
      fun p teeth hview => ?_, fun hlaw hsegments => ?_⟩
    · obtain ⟨k, p, vt, teeth, hgives, rfl⟩ := (State.mem_targetsByKind hvalid).1 (mem_nearestFirst.1 hg)
      exact ⟨teeth, rfl, hgives⟩
    · exact ⟨s.target d k p vt teeth,
        mem_nearestFirst.2 ((State.mem_targetsByKind hvalid).2 ⟨k, p, vt, teeth, hgives, rfl⟩), rfl, rfl, rfl, rfl⟩
    · obtain ⟨hinView, rfl⟩ := State.inLookAhead_iff.1 hview
      have hsame : ∀ u ∈ s.targetsByKind d, Target.restrictsAt p u = true → u.distance = s.teethTo d p * 10 := by
        intro u hu hq
        simp only [Target.restrictsAt, Bool.and_eq_true, decide_eq_true_eq] at hq
        obtain ⟨k, x, vt, teeth, hgives, rfl⟩ := (State.mem_targetsByKind hvalid).1 hu
        obtain ⟨rfl, rfl⟩ : k = .restriction ∧ x = p := hq
        obtain ⟨-, rfl⟩ := State.inLookAhead_iff.1 hgives.1
        rfl
      have hfiltered := filter_nearestFirst hsame
      rw [State.targetsByKind_restrictsAt d hvalid] at hfiltered
      have hat := State.restrictionTargets_at hinView
      rw [← hfiltered] at hat
      cases d <;> exact hat
    · rw [nearestFirst_length]
      exact State.targetsByKind_length d hvalid hlaw hsegments

end Sys2Proof.Machine

/-! SUPPORT. An evaluation's permitted speed, limiting term, supervision state and EOA test. -/

namespace Sys2Proof.Machine

/-! ## The least term -/

/-- A list split at the first of its least terms (R67). -/
def FirstLeast (r : SpeedTerm) (a b : List SpeedTerm) : Prop :=
  (∀ x ∈ a, r.value < x.value) ∧ ∀ x ∈ b, r.value ≤ x.value

theorem leastTerm_cons (first t : SpeedTerm) (l : List SpeedTerm) :
    leastTerm first (t :: l) = leastTerm (if t.value < first.value then t else first) l := rfl

theorem leastTerm_split (first : SpeedTerm) (l : List SpeedTerm) :
    ∃ a b, first :: l = a ++ leastTerm first l :: b ∧ FirstLeast (leastTerm first l) a b := by
  induction l generalizing first with
  | nil => exact ⟨[], [], rfl, by simp [FirstLeast]⟩
  | cons t l ih =>
    rw [leastTerm_cons]
    split
    · next hless =>
      obtain ⟨a, b, hsplit, hbefore, hafter⟩ := ih t
      refine ⟨first :: a, b, by rw [hsplit, List.cons_append], fun x hx => ?_, hafter⟩
      rcases List.mem_cons.1 hx with rfl | hx
      · have ht : t ∈ a ++ leastTerm t l :: b := hsplit ▸ List.mem_cons_self
        have hleast : (leastTerm t l).value ≤ t.value := by
          simp only [List.mem_append, List.mem_cons] at ht
          obtain ht | ht | ht := ht
          · exact Nat.le_of_lt (hbefore t ht)
          · exact Nat.le_of_eq (congrArg SpeedTerm.value ht.symm)
          · exact hafter t ht
        omega
      · exact hbefore x hx
    · next hnot =>
      obtain ⟨a, b, hsplit, hbefore, hafter⟩ := ih first
      cases a with
      | nil =>
        obtain ⟨hfirst, hrest⟩ := List.cons.inj hsplit
        refine ⟨[], t :: b, by rw [← hfirst, hrest, List.nil_append], hbefore, fun x hx => ?_⟩
        rcases List.mem_cons.1 hx with rfl | hx
        · rw [← hfirst]
          omega
        · exact hafter x hx
      | cons y a =>
        obtain ⟨rfl, hrest⟩ := List.cons.inj hsplit
        refine ⟨first :: t :: a, b, congrArg (fun k => first :: t :: k) hrest, fun x hx => ?_, hafter⟩
        have hfirst := hbefore first List.mem_cons_self
        simp only [List.mem_cons] at hx
        obtain rfl | rfl | hx := hx
        · exact hfirst
        · omega
        · exact hbefore x (List.mem_cons_of_mem _ hx)

/-! ## The terms that apply -/

theorem foldl_min_spec (l : List Nat) (m : Nat) :
    (∀ x ∈ m :: l, l.foldl min m ≤ x) ∧ l.foldl min m ∈ m :: l := by
  induction l generalizing m with
  | nil => simp
  | cons y l ih =>
    obtain ⟨hleast, hmem⟩ := ih (min m y)
    rw [List.foldl_cons]
    refine ⟨fun x hx => ?_, ?_⟩
    · have hbase := hleast (min m y) (by simp)
      simp only [List.mem_cons] at hx
      obtain rfl | rfl | hx := hx
      · omega
      · omega
      · exact hleast x (by simp [hx])
    · rcases List.mem_cons.1 hmem with h | h
      · rcases Nat.le_total m y with hle | hle
        · rw [h, Nat.min_eq_left hle]; simp
        · rw [h, Nat.min_eq_right hle]; simp
      · simp [h]

theorem leastOf_spec {l : List Nat} (h : l ≠ []) : (∀ x ∈ l, leastOf l ≤ x) ∧ leastOf l ∈ l := by
  cases l with
  | nil => exact absurd rfl h
  | cons m l => exact foldl_min_spec l m

theorem State.isStaticLimit_def (s : State) (d : Dir) (v : Nat) : s.isStaticLimit d v ↔
    (s.extentSpans = [] → v = 0) ∧ (∀ p ∈ s.extentSpans, v ≤ p.seg.limit d) ∧
      (s.extentSpans ≠ [] → ∃ p ∈ s.extentSpans, v = p.seg.limit d) := by
  cases d <;> exact Iff.rfl

/-- The static limit is the least over the segments under the car, 0 over none (R63). -/
theorem State.isStaticLimit_iff {s : State} {d : Dir} {v : Nat} : s.isStaticLimit d v ↔ v = s.staticLimit d := by
  rw [State.isStaticLimit_def, State.staticLimit]
  by_cases hnone : s.extentSpans = []
  · simp [hnone, leastOf]
  · obtain ⟨hleast, hmem⟩ := leastOf_spec (l := s.extentSpans.map fun p => p.seg.limit d) (by simpa using hnone)
    obtain ⟨p, hp, hplace⟩ := List.mem_map.1 hmem
    constructor
    · rintro ⟨-, hlow, hfound⟩
      obtain ⟨q, hq, rfl⟩ := hfound hnone
      have := hlow p hp
      have := hleast (q.seg.limit d) (List.mem_map.2 ⟨q, hq, rfl⟩)
      omega
    · rintro rfl
      exact ⟨fun h => absurd h hnone, fun q hq => hleast _ (List.mem_map.2 ⟨q, hq, rfl⟩), fun _ => ⟨p, hp, hplace.symm⟩⟩

theorem State.underCar_iff {s : State} {start stop : Nat} : s.underCar start stop = true ↔ s.meetsCar start stop :=
  decide_eq_true_iff

theorem mem_termWhen {c : Bool} {v : Nat} {l : Limiting} {t : SpeedTerm} :
    t ∈ termWhen c v l ↔ c = true ∧ t.value = v ∧ t.shown = l := by
  unfold termWhen
  cases t
  split
  · next h => simp [h]
  · next h => simp [h]

/-- The terms in the order of R67, CEILING first. -/
def State.allTerms (s : State) (d : Dir) (targets : List Target) : List SpeedTerm :=
  { value := s.params.carCeiling, shown := .ceiling } :: s.speedTerms d targets

/-- The term of the overflow record (R64). -/
def State.overflowTerm (s : State) : List SpeedTerm :=
  match s.line.overflow with
  | some o => termWhen (s.underCar o.start o.stop) o.limit .overflow
  | none => []

/-- The terms but those of targets, in the order of R67 (R62 to R65). -/
def State.ownTerms (s : State) (d : Dir) : List SpeedTerm :=
  [{ value := s.params.carCeiling, shown := .ceiling }] ++ [{ value := s.staticLimit d, shown := .static }]
    ++ (s.line.restrictions.map fun r => termWhen (s.underCar r.start r.stop) r.limit (.restriction r.id)).flatten
    ++ s.overflowTerm
    ++ termWhen (decide (s.pos.confidence ≠ .confirmed)) s.params.unconfirmedCeiling .unconfirmed
    ++ termWhen (decide (s.contact.state = .degraded) || decide (s.lineCode.effective = .caution))
        s.params.radioCeiling .radio

/-- The term of a target (R62). -/
def Target.term (g : Target) : SpeedTerm := { value := g.curve, shown := .target g.kind g.pos g.vt }

theorem State.allTerms_eq (s : State) (d : Dir) (targets : List Target) :
    s.allTerms d targets = s.ownTerms d ++ targets.map Target.term := by
  simp only [State.allTerms, State.speedTerms, State.ownTerms, List.append_assoc, List.cons_append, List.nil_append] <;> rfl

theorem mem_restrictionTerms {s : State} {t : SpeedTerm} :
    t ∈ (s.line.restrictions.map fun r => termWhen (s.underCar r.start r.stop) r.limit (.restriction r.id)).flatten ↔
      ∃ r ∈ s.line.restrictions, s.meetsCar r.start r.stop ∧ t.value = r.limit ∧ t.shown = .restriction r.id := by
  simp only [List.mem_flatten, List.mem_map]
  constructor
  · rintro ⟨l, ⟨r, hr, rfl⟩, ht⟩
    obtain ⟨hunder, hvalue, hshown⟩ := mem_termWhen.1 ht
    exact ⟨r, hr, State.underCar_iff.1 hunder, hvalue, hshown⟩
  · rintro ⟨r, hr, hunder, hvalue, hshown⟩
    exact ⟨_, ⟨r, hr, rfl⟩, mem_termWhen.2 ⟨State.underCar_iff.2 hunder, hvalue, hshown⟩⟩

theorem mem_overflowTerm {s : State} {t : SpeedTerm} :
    t ∈ s.overflowTerm ↔
      ∃ o, s.line.overflow = some o ∧ s.meetsCar o.start o.stop ∧ t.value = o.limit ∧ t.shown = .overflow := by
  unfold State.overflowTerm
  split
  · next o ho =>
    rw [mem_termWhen, State.underCar_iff]
    constructor
    · rintro ⟨hunder, hvalue, hshown⟩
      exact ⟨o, ho, hunder, hvalue, hshown⟩
    · rintro ⟨q, hq, hunder, hvalue, hshown⟩
      obtain rfl : o = q := Option.some.inj (ho.symm.trans hq)
      exact ⟨hunder, hvalue, hshown⟩
  · next ho => simp [ho]

/-- A term stands in the list exactly where it applies with its value (R62 to R65). -/
theorem State.mem_allTerms {s : State} {d : Dir} {targets : List Target} {t : SpeedTerm} :
    t ∈ s.allTerms d targets ↔ s.termApplies d targets t.shown t.value := by
  obtain ⟨v, l⟩ := t
  rw [State.allTerms_eq]
  simp only [State.ownTerms, List.mem_append, List.mem_singleton, mem_restrictionTerms, mem_overflowTerm, mem_termWhen,
    List.mem_map, Target.term, SpeedTerm.mk.injEq]
  cases l with
  | ceiling => simp [State.termApplies]
  | static => simp [State.termApplies, State.isStaticLimit_iff]
  | restriction id =>
    simp only [State.termApplies, reduceCtorEq, and_false, false_or, or_false, Limiting.restriction.injEq, exists_false]
    exact ⟨fun ⟨r, hr, hmeets, hv, hid⟩ => ⟨r, hr, hid.symm, hv, hmeets⟩,
      fun ⟨r, hr, hid, hv, hmeets⟩ => ⟨r, hr, hmeets, hv, hid.symm⟩⟩
  | overflow =>
    simp only [State.termApplies, reduceCtorEq, and_false, false_or, or_false, and_true, exists_false]
    exact ⟨fun ⟨o, ho, hmeets, hv⟩ => ⟨o, ho, hv, hmeets⟩, fun ⟨o, ho, hv, hmeets⟩ => ⟨o, ho, hmeets, hv⟩⟩
  | unconfirmed => simp [State.termApplies]
  | radio => simp [State.termApplies]
  | target k p vt =>
    simp only [State.termApplies, reduceCtorEq, and_false, false_or, or_false, Limiting.target.injEq, exists_false]
    exact ⟨fun ⟨g, hg, hv, hk, hp, hvt⟩ => ⟨g, hg, hk, hp, hvt, hv.symm⟩,
      fun ⟨g, hg, hk, hp, hvt, hv⟩ => ⟨g, hg, hv.symm, hk, hp, hvt⟩⟩
  | noProfile => simp [State.termApplies]
  | noDirection => simp [State.termApplies]

/-! ## Their order -/

/-- Two terms in the order of R67: by place, and restrictions by id where the list is in order. -/
def SpeedTerm.Before (sorted : Prop) (x y : SpeedTerm) : Prop :=
  x.shown.place ≤ y.shown.place ∧
    (sorted → ∀ i j, x.shown = .restriction i → y.shown = .restriction j → i ≤ j)

theorem SpeedTerm.before_of_place {sorted : Prop} {x y : SpeedTerm} (h : x.shown.place ≤ y.shown.place)
    (hother : x.shown.place ≠ 2 ∨ y.shown.place ≠ 2) : SpeedTerm.Before sorted x y :=
  ⟨h, fun _ i j hi hj => by simp [hi, hj, Limiting.place] at hother⟩

theorem termWhen_sorted (sorted : Prop) (c : Bool) (v : Nat) (l : Limiting) :
    (termWhen c v l).Pairwise (SpeedTerm.Before sorted) := by
  unfold termWhen
  split <;> simp

theorem restrictionTerms_sorted (s : State) (l : List Restriction) :
    (l.map fun r => termWhen (s.underCar r.start r.stop) r.limit (.restriction r.id)).flatten.Pairwise
      (SpeedTerm.Before (l.Pairwise fun a b => a.id < b.id)) := by
  induction l with
  | nil => simp
  | cons r l ih =>
    rw [List.map_cons, List.flatten_cons, List.pairwise_append]
    refine ⟨termWhen_sorted .., ih.imp fun {x y} hxy => ⟨hxy.1, fun hsorted => hxy.2 (List.pairwise_cons.1 hsorted).2⟩,
      fun x hx y hy => ?_⟩
    obtain ⟨-, -, hshown⟩ := mem_termWhen.1 hx
    simp only [List.mem_flatten, List.mem_map] at hy
    obtain ⟨-, ⟨q, hq, rfl⟩, hy⟩ := hy
    obtain ⟨-, -, hshownY⟩ := mem_termWhen.1 hy
    rw [SpeedTerm.Before, hshown, hshownY]
    refine ⟨Nat.le_refl _, fun hsorted i j hi hj => ?_⟩
    have hless := (List.pairwise_cons.1 hsorted).1 q hq
    rw [Limiting.restriction.injEq] at hi hj
    omega

/-- Terms of the next place after terms in order, up to a place. -/
theorem sorted_append {sorted : Prop} {a b : List SpeedTerm} {m : Nat}
    (ha : a.Pairwise (SpeedTerm.Before sorted) ∧ ∀ x ∈ a, x.shown.place ≤ m) (hb : b.Pairwise (SpeedTerm.Before sorted))
    (hplace : ∀ y ∈ b, y.shown.place = m + 1) :
    (a ++ b).Pairwise (SpeedTerm.Before sorted) ∧ ∀ x ∈ a ++ b, x.shown.place ≤ m + 1 := by
  obtain ⟨hpair, hbound⟩ := ha
  refine ⟨List.pairwise_append.2 ⟨hpair, hb, fun x hx y hy => ?_⟩, fun x hx => ?_⟩
  · have := hbound x hx
    have := hplace y hy
    exact SpeedTerm.before_of_place (by omega) (by omega)
  · rcases List.mem_append.1 hx with h | h
    · have := hbound x h; omega
    · exact Nat.le_of_eq (hplace x h)

theorem targetTerms_sorted (sorted : Prop) (targets : List Target) :
    (targets.map Target.term).Pairwise (SpeedTerm.Before sorted) :=
  List.pairwise_of_forall_mem_list fun x hx y hy => by
    obtain ⟨g, -, rfl⟩ := List.mem_map.1 hx
    obtain ⟨h, -, rfl⟩ := List.mem_map.1 hy
    exact SpeedTerm.before_of_place (Nat.le_refl _) (by simp [Target.term, Limiting.place])

theorem State.ownTerms_sorted (s : State) (d : Dir) :
    (s.ownTerms d).Pairwise (SpeedTerm.Before (s.line.restrictions.Pairwise fun a b => a.id < b.id)) ∧
      ∀ x ∈ s.ownTerms d, x.shown.place ≤ 5 := by
  have hwhen : ∀ {c : Bool} {v : Nat} {l : Limiting}, ∀ t ∈ termWhen c v l, t.shown.place = l.place := fun t ht => by
    rw [(mem_termWhen.1 ht).2.2]
  have hrestriction : ∀ t ∈ (s.line.restrictions.map fun r =>
      termWhen (s.underCar r.start r.stop) r.limit (.restriction r.id)).flatten, t.shown.place = 2 := fun t ht => by
    obtain ⟨r, -, -, -, hshown⟩ := mem_restrictionTerms.1 ht
    rw [hshown]
    rfl
  have hoverflow : s.overflowTerm.Pairwise
        (SpeedTerm.Before (s.line.restrictions.Pairwise fun a b => a.id < b.id)) ∧
      ∀ t ∈ s.overflowTerm, t.shown.place = 3 := by
    refine ⟨?_, fun t ht => ?_⟩
    · unfold State.overflowTerm
      split
      · exact termWhen_sorted ..
      · exact .nil
    · obtain ⟨o, -, -, -, hshown⟩ := mem_overflowTerm.1 ht
      rw [hshown]
      rfl
  unfold State.ownTerms
  refine sorted_append (sorted_append (sorted_append (sorted_append (sorted_append (m := 0) ⟨?_, ?_⟩ ?_ ?_)
    (restrictionTerms_sorted s _) hrestriction) hoverflow.1 hoverflow.2) (termWhen_sorted ..) hwhen) (termWhen_sorted ..) hwhen
  all_goals simp [Limiting.place]

/-- The terms stand in the order of R67. -/
theorem State.allTerms_sorted (s : State) (d : Dir) (targets : List Target) :
    (s.allTerms d targets).Pairwise (SpeedTerm.Before (s.line.restrictions.Pairwise fun a b => a.id < b.id)) := by
  rw [State.allTerms_eq]
  refine (sorted_append (s.ownTerms_sorted d) (targetTerms_sorted _ targets) fun t ht => ?_).1
  obtain ⟨g, -, rfl⟩ := List.mem_map.1 ht
  rfl

/-! ## P and the limiting term -/

/-- P is the first of the least terms (R62, R67). -/
theorem State.permittedTerm_split (s : State) (d : Dir) (targets : List Target) : ∃ a b,
    s.allTerms d targets = a ++ s.permittedTerm d targets :: b ∧ FirstLeast (s.permittedTerm d targets) a b :=
  leastTerm_split ..

/-- A term of P's value does not stand before it. -/
theorem FirstLeast.mem_after {r x : SpeedTerm} {a b l : List SpeedTerm} (h : FirstLeast r a b) (hl : l = a ++ r :: b)
    (hx : x ∈ l) (hvalue : x.value = r.value) : x = r ∨ x ∈ b := by
  subst hl
  simp only [List.mem_append, List.mem_cons] at hx
  obtain hx | hx | hx := hx
  · have := h.1 x hx; omega
  · exact .inl hx
  · exact .inr hx

theorem State.permittedTerm_least {s : State} {d : Dir} {targets : List Target} {x : SpeedTerm}
    (hx : x ∈ s.allTerms d targets) : (s.permittedTerm d targets).value ≤ x.value := by
  obtain ⟨a, b, hsplit, hbefore, hafter⟩ := s.permittedTerm_split d targets
  rw [hsplit] at hx
  simp only [List.mem_append, List.mem_cons] at hx
  obtain hx | rfl | hx := hx
  · exact Nat.le_of_lt (hbefore x hx)
  · exact Nat.le_refl _
  · exact hafter x hx

theorem State.permittedTerm_before {s : State} {d : Dir} {targets : List Target} {x : SpeedTerm}
    (hx : x ∈ s.allTerms d targets) (hvalue : x.value = (s.permittedTerm d targets).value) :
    x = s.permittedTerm d targets ∨
      SpeedTerm.Before (s.line.restrictions.Pairwise fun a b => a.id < b.id) (s.permittedTerm d targets) x := by
  obtain ⟨a, b, hsplit, hfirst⟩ := s.permittedTerm_split d targets
  rcases hfirst.mem_after hsplit hx hvalue with rfl | hb
  · exact .inl rfl
  · refine .inr ?_
    have hsorted := s.allTerms_sorted d targets
    rw [hsplit, List.pairwise_append] at hsorted
    exact (List.pairwise_cons.1 hsorted.2.1).1 x hb

/-- P is one of the applying terms (R62). -/
theorem State.permittedTerm_applies (s : State) (d : Dir) (targets : List Target) :
    s.termApplies d targets (s.permittedTerm d targets).shown (s.permittedTerm d targets).value := by
  obtain ⟨a, b, hsplit, -⟩ := s.permittedTerm_split d targets
  exact State.mem_allTerms.1 (by rw [hsplit]; simp)

/-- Where a target limits, it is the first of the list at that speed (R67). -/
theorem State.permittedTerm_target {s : State} {d : Dir} {targets : List Target} {k : TargetKind} {p : Int} {vt : Nat}
    (h : (s.permittedTerm d targets).shown = .target k p vt) : ∃ l g r, targets = l ++ g :: r ∧ g.kind = k ∧ g.pos = p ∧
      g.vt = vt ∧ g.curve = (s.permittedTerm d targets).value ∧
      ∀ x ∈ l, (s.permittedTerm d targets).value < x.curve := by
  obtain ⟨a, b, hsplit, hbefore, -⟩ := s.permittedTerm_split d targets
  obtain ⟨y, hy⟩ : ∃ y, y = s.permittedTerm d targets := ⟨_, rfl⟩
  rw [← hy] at hsplit hbefore h ⊢
  rw [State.allTerms_eq, List.append_eq_append_iff] at hsplit
  have hlate : y ∉ s.ownTerms d := fun hmem => by
    have := (s.ownTerms_sorted d).2 y hmem
    rw [h] at this
    simp [Limiting.place] at this
  obtain ⟨m, rfl, htargets⟩ | ⟨m, hown, hrest⟩ := hsplit
  · obtain ⟨l, r, rfl, hl, hr⟩ := List.map_eq_append_iff.1 htargets
    obtain ⟨g, r, rfl, hg, -⟩ := List.map_eq_cons_iff.1 hr
    refine ⟨l, g, r, rfl, ?_⟩
    rw [← hg] at h ⊢
    simp only [Target.term, Limiting.target.injEq] at h
    obtain ⟨hk, hp, hvt⟩ := h
    refine ⟨hk, hp, hvt, rfl, fun x hx => ?_⟩
    have := hbefore x.term (by rw [← hl]; simp only [List.mem_append, List.mem_map]; exact .inr ⟨x, hx, rfl⟩)
    rw [← hg] at this
    exact this
  · cases m with
    | nil =>
      obtain ⟨g, r, rfl, hg, -⟩ := List.map_eq_cons_iff.1 hrest.symm
      refine ⟨[], g, r, rfl, ?_⟩
      rw [← hg] at h ⊢
      simp only [Target.term, Limiting.target.injEq] at h
      obtain ⟨hk, hp, hvt⟩ := h
      exact ⟨hk, hp, hvt, rfl, by simp⟩
    | cons z m =>
      have hz : y = z := (List.cons.inj hrest).1
      exact absurd (by rw [hown, hz]; simp) hlate

end Sys2Proof.Machine

/-! SUPPORT. The supervision state and the EOA test of an evaluation: EVALUATION_TIMER_EXPIRY. -/

namespace Sys2Proof.Machine

/-! ## The EOA test -/

/-- An empty set holds no kind. -/
theorem CauseSet.has_of_isEmpty {c : CauseSet} (h : c.isEmpty = true) (k : CauseKind) : c.has k = false := by
  cases k <;> simp_all [CauseSet.isEmpty, CauseSet.has]

theorem State.eoaBehind_iff {s : State} : s.eoaBehind = true ↔ s.eoaIsPassed := by
  unfold State.eoaBehind State.eoaIsPassed
  cases s.line.authority with
  | none => simp
  | some a =>
    have hpassed : s.passedEoa a = true ↔ match a.dir with
        | .up => (a.eoa : Int) < s.pos.count
        | .down => (s.pos.count : Int) - s.params.carLength < a.eoa := by
      unfold State.passedEoa
      cases a.dir <;> exact decide_eq_true_iff
    simp only [hpassed, Option.some.injEq, exists_eq_left']
    cases a.dir <;> simp

/-- A passing found with the mark clear adds EOA_PASSED; else the brakes stay (R80). -/
theorem State.eoaTest_brk (s : State) :
    s.eoaTest.brk = if s.eoaBehind = true ∧ s.sup.passedMark = false then (s.addCause .eoaPassed).brk else s.brk := by
  unfold State.eoaTest State.eoaBehind
  cases s.line.authority with
  | none => simp
  | some a =>
    dsimp only
    by_cases hp : s.passedEoa a = true
    · rw [if_pos hp]
      by_cases hm : s.sup.passedMark = true <;> simp [hp, hm]
    · simp [hp]

/-! ## The supervision state -/

/-- A supervision state that takes a value by a transition: its flag, its term, and OVERSPEED at the one into TRIP
(R78, R79). -/
theorem State.setSupState_change {st : SupState} {s : State} (h : st ≠ s.sup.state) :
    Flagged (s.setSupState st) .supervision ∧ (s.setSupState st).brk.terms.supervision = st.term ∧
      (st = .trip → (s.setSupState st).brk.causes.overspeed = true) := by
  obtain ⟨u, hu⟩ : ∃ u, u = (s.withSup { s.sup with state := st }).flag .supervision := ⟨_, rfl⟩
  obtain ⟨x, hx⟩ : ∃ x, x = { u.brk.terms with supervision := st.term } := ⟨_, rfl⟩
  have hset : s.setSupState st = if st = .trip then (u.setTerms x).addCause .overspeed else u.setTerms x := by
    rw [State.setSupState, if_neg (Ne.symm h), hx, hu]
  have hflag : Flagged (u.setTerms x) .supervision := (hu ▸ flagged_flag .supervision _ : Flagged u .supervision).setTerms x
  obtain ⟨hterms, -⟩ := State.setTerms_effect x u
  have hterm : (u.setTerms x).brk.terms.supervision = st.term := by rw [hterms, hx]
  rw [hset]
  split
  · obtain ⟨hhas, -⟩ := State.addCause_effect (k := .overspeed) (by decide) (u.setTerms x)
    refine ⟨(State.addCause_subdued (by decide) _).flags _ hflag, ?_, fun _ => hhas⟩
    rw [State.addCause_eq (by decide)]
    split
    · exact hterm
    · rw [((u.setTerms x).joinCause_effect .overspeed).1]
      exact hterm
  · next hne => exact ⟨hflag, hterm, fun he => absurd he hne⟩

/-- The supervision state moves no cause but OVERSPEED, and makes no record while a cause is held (R79, R103). -/
theorem State.setSupState_causes (st : SupState) (s : State) :
    (s.setSupState st).brk.causes.eoaPassed = s.brk.causes.eoaPassed ∧
      (s.brk.causes.isEmpty = false → (s.setSupState st).brk.first = s.brk.first) := by
  obtain ⟨u, hu⟩ : ∃ u, u = (s.withSup { s.sup with state := st }).flag .supervision := ⟨_, rfl⟩
  obtain ⟨-, hcauses, hfirst, -⟩ := State.setTerms_effect { u.brk.terms with supervision := st.term } u
  obtain ⟨w, hw⟩ : ∃ w, w = u.setTerms { u.brk.terms with supervision := st.term } := ⟨_, rfl⟩
  have hset : s.setSupState st = if s.sup.state = st then s else if st = .trip then w.addCause .overspeed else w := by
    rw [hw, hu]
    rfl
  have hbrk : u.brk = s.brk := by simp [hu]
  rw [← hw, hbrk] at hcauses hfirst
  rw [hset]
  split
  · exact ⟨rfl, fun _ => rfl⟩
  · split
    · rw [State.addCause_eq (by decide)]
      split
      · exact ⟨by rw [hcauses], fun _ => hfirst⟩
      · obtain ⟨-, hjoined, hrecord, -⟩ := w.joinCause_effect .overspeed
        refine ⟨by rw [hjoined, hcauses]; rfl, fun hheld => ?_⟩
        rw [hrecord, State.firstAfter, hcauses, hheld]
        exact hfirst
    · exact ⟨by rw [hcauses], fun _ => hfirst⟩

/-- R77, in the words of the table: a TRIP is left at standstill alone, INTERVENE once the speed is at most P. -/
theorem SupState.next_eq (st : SupState) (v p service emergency : Nat) (standstill : Bool) :
    st.next v p service emergency standstill =
      if st = .trip then (if standstill = true then .normal else .trip)
      else if p + emergency < v then .trip
      else if st = .intervene then (if p < v then .intervene else .normal)
      else if p + service < v then .intervene
      else if p < v then .warning
      else .normal := by
  cases st <;> simp [SupState.next]

theorem SupState.term_eq (st : SupState) : st.term = if st = .intervene ∨ st = .trip then 100 else 0 := by
  cases st <;> simp [SupState.term]

/-! ## EVALUATION_TIMER_EXPIRY -/

/-- The state a timer's evaluation takes supervision to (R77). -/
def State.supJudged (s : State) : SupState :=
  s.sup.state.next s.pos.speed s.limitNow.value s.params.serviceMargin s.params.emergencyMargin s.pos.standstill

/-- The measured state, the EOA test made (R60, R80). -/
def State.eoaTested (s : State) : State := s.evalRestarted.measureLimits.eoaTest

theorem State.evalRestarted_evalCore (s : State) : s.evalRestarted.evalCore = s.eoaTested.setSupState s.supJudged := by
  have hsup : s.eoaTested.sup = { s.evalRestarted.measureLimits.sup with passedMark := s.eoaBehind } :=
    State.eoaTest_sup _
  have hpos : s.eoaTested.pos = s.pos := by simp [State.eoaTested, State.evalRestarted]
  have hparams : s.eoaTested.params = s.params := by simp [State.eoaTested, State.evalRestarted]
  show s.eoaTested.setSupState (s.eoaTested.sup.state.next s.eoaTested.pos.speed s.eoaTested.sup.permitted
    s.eoaTested.params.serviceMargin s.eoaTested.params.emergencyMargin s.eoaTested.pos.standstill) = _
  rw [hsup, hpos, hparams]
  rfl

theorem State.eoaTested_state (s : State) : s.eoaTested.sup.state = s.sup.state := by
  rw [State.eoaTested, State.eoaTest_sup]
  rfl

/-- The brakes of the measured state: EOA_PASSED joined where the passing is found with the mark clear (R80). -/
theorem State.eoaTested_causes (s : State) :
    (s.eoaIsPassed → s.sup.passedMark = false → s.eoaTested.brk.causes.eoaPassed = true ∧
        s.eoaTested.brk.causes.isEmpty = false ∧
        (s.brk.causes.isEmpty = true → s.eoaTested.brk.first =
          some { kind := .eoaPassed, count := s.pos.count, speed := s.pos.speed, mode := s.mode.mode })) ∧
      (¬ s.eoaIsPassed ∨ s.sup.passedMark = true → s.eoaTested.brk = s.brk) := by
  obtain ⟨u, hu⟩ : ∃ u, u = s.evalRestarted.measureLimits := ⟨_, rfl⟩
  have htested : s.eoaTested.brk = if s.eoaBehind = true ∧ s.sup.passedMark = false then (u.addCause .eoaPassed).brk
      else s.brk := by
    subst hu
    exact State.eoaTest_brk s.evalRestarted.measureLimits
  rw [← State.eoaBehind_iff]
  constructor
  · intro hpassed hmark
    rw [htested, if_pos ⟨hpassed, hmark⟩]
    have hhas : (u.addCause .eoaPassed).brk.causes.eoaPassed = true := 
      (State.addCause_effect (k := .eoaPassed) (by decide) u).1
    refine ⟨hhas, by simp [CauseSet.isEmpty, hhas], fun hnone => ?_⟩
    have hbrk : u.brk = s.brk := by rw [hu]; rfl
    have hfree : u.brk.causes.has .eoaPassed ≠ true := by simp [hbrk, CauseSet.has_of_isEmpty hnone]
    rw [State.addCause_eq (by decide), if_neg hfree, (u.joinCause_effect .eoaPassed).2.2.1, State.firstAfter, hbrk, if_pos hnone, hu]
    rfl
  · rintro (hnot | hmark)
    · rw [htested, if_neg fun h => hnot h.1]
    · rw [htested, if_neg fun h => by simp [hmark] at h]

/-- Settles O38: the least term and its place, the judgement of the speed, and the EOA test before it. -/
theorem evaluationJudgesTheSpeed : Obligations.EvaluationJudgesTheSpeed := by
  intro s htravel
  obtain ⟨t, ht⟩ : ∃ t, t = s.evalRestarted.evalCore := ⟨_, rfl⟩
  have hsup := ht ▸ s.evalRestarted_sup
  have hset : t = s.eoaTested.setSupState s.supJudged := ht.trans s.evalRestarted_evalCore
  have hstate : t.sup.state = s.supJudged := by rw [hsup]; rfl
  obtain ⟨hjoined, hkept⟩ := s.eoaTested_causes
  obtain ⟨hcause, hfirst⟩ := s.eoaTested.setSupState_causes s.supJudged
  rw [← hset] at hcause hfirst
  refine ⟨t, by rw [ht]; exact exec_evaluation htravel, ?_, ?_, ?_, ?_, ?_, ?_, ?_, ?_, ?_, ?_, ?_, ?_, ?_, ?_⟩
  · rw [hsup]; rfl
  · rw [hsup]
  · rw [hsup]
  · intro hprofile
    rw [hsup]
    exact ⟨(State.limitNow_noProfile hprofile).1, (State.limitNow_noProfile hprofile).2, by simp [State.targetsNow, hprofile]⟩
  · intro hprofile hdir
    rw [hsup]
    simp [State.limitNow, State.targetsNow, hprofile, hdir]
  · intro hprofile d hdir
    obtain ⟨targets, htargets⟩ : ∃ l, l = s.targetList d := ⟨_, rfl⟩
    have hlimit : s.limitNow = s.permittedTerm d targets := by simp [State.limitNow, hprofile, hdir, htargets]
    have hlist : s.targetsNow = targets := by simp [State.targetsNow, hprofile, hdir, htargets]
    rw [hsup, hlimit, hlist]
    dsimp only
    refine ⟨s.permittedTerm_applies d targets, fun l v happlies => ?_, fun id other hids hshown happlies => ?_,
      fun k p vt hshown => State.permittedTerm_target hshown⟩
    · have hmem : (⟨v, l⟩ : SpeedTerm) ∈ s.allTerms d targets := State.mem_allTerms.2 happlies
      refine ⟨State.permittedTerm_least hmem, fun hv => ?_⟩
      rcases State.permittedTerm_before hmem hv with heq | hbefore
      · exact Nat.le_of_eq (congrArg (fun x : SpeedTerm => x.shown.place) heq.symm)
      · exact hbefore.1
    · have hmem : (⟨(s.permittedTerm d targets).value, .restriction other⟩ : SpeedTerm) ∈ s.allTerms d targets :=
        State.mem_allTerms.2 happlies
      rcases State.permittedTerm_before hmem rfl with heq | hbefore
      · rw [← heq, Limiting.restriction.injEq] at hshown
        exact Nat.le_of_eq hshown.symm
      · exact hbefore.2 hids.2 id other hshown rfl
  · rw [hsup]
    exact SupState.next_eq ..
  · intro hchange
    rw [hstate, ← State.eoaTested_state] at hchange
    obtain ⟨hflag, hterm, -⟩ := State.setSupState_change hchange
    rw [← hset] at hflag hterm
    rw [hterm, hstate]
    exact ⟨hflag, SupState.term_eq _⟩
  · intro htrip hbefore
    rw [hstate] at htrip
    obtain ⟨-, -, hover⟩ := State.setSupState_change (st := s.supJudged) (s := s.eoaTested)
      (by rw [State.eoaTested_state, htrip]; exact Ne.symm hbefore)
    rw [← hset] at hover
    exact hover htrip
  · intro hpassed
    rw [hsup]
    exact State.eoaBehind_iff.2 hpassed
  · intro hnot
    rw [hsup]
    exact Bool.eq_false_iff.2 fun h => hnot (State.eoaBehind_iff.1 h)
  · intro hpassed hmark
    obtain ⟨hadded, hheld, hrecord⟩ := hjoined hpassed hmark
    exact ⟨hcause.trans hadded, fun hnone => (hfirst hheld).trans (hrecord hnone)⟩
  · intro hquiet
    rw [hcause, hkept hquiet]
  · simp [ht, SameSetup, SameRadio, State.evalRestarted]

end Sys2Proof.Machine

/-! SUPPORT. A millisecond in which nothing falls due. -/

namespace Sys2Proof.Machine

/-- Where no expiry of a list is due, none is taken. -/
theorem runExpiries_idle {l : List Expiry} {s : State} (h : ∀ e ∈ l, e.isDue s = false) : runExpiries l s = .next s := by
  induction l with
  | nil => rfl
  | cons e l ih =>
    rw [runExpiries, h e (by simp)]
    exact ih fun x hx => h x (List.mem_cons_of_mem _ hx)

/-- Settles O2: with no expiry due the step is the passing of one millisecond. -/
theorem idleStepMovesTheTimers : Obligations.IdleStepMovesTheTimers := by
  intro s hqueue hidle
  have hstep : step s = .next s.pass := by
    rw [step, hqueue]
    exact runExpiries_idle hidle
  exact ⟨s.pass, hstep, rfl, rfl, rfl, rfl, rfl, rfl, rfl, rfl, rfl, rfl, rfl, rfl, rfl, rfl, rfl, hqueue⟩

end Sys2Proof.Machine

/-! SUPPORT. The ports and the owners of the cab requests: no owner moves an assembler. -/

namespace Sys2Proof.Machine

/-! ## Owners that leave the ports -/

/-- Both ports stay. -/
def SamePorts (s t : State) : Prop := t.upper = s.upper ∧ t.lower = s.lower

theorem SamePorts.refl (s : State) : SamePorts s s := ⟨rfl, rfl⟩

theorem SamePorts.trans {s t u : State} (h : SamePorts s t) (g : SamePorts t u) : SamePorts s u :=
  ⟨g.1.trans h.1, g.2.trans h.2⟩

theorem SamePorts.foldl {α : Type} {f : State → α → State} (h : ∀ s x, SamePorts s (f s x)) (l : List α) (s : State) :
    SamePorts s (l.foldl f s) := by
  induction l generalizing s with
  | nil => exact .refl s
  | cons x l ih => exact (h s x).trans (ih _)

theorem ownTransferCounters_ports (s : State) : SamePorts s (ownTransferCounters s).st := by
  simp [ownTransferCounters, acceptWith, SamePorts]

theorem ownReadResetCause_ports (s : State) : SamePorts s (ownReadResetCause s).st := by
  simp [ownReadResetCause, SamePorts]

theorem ownOpenCab_ports (c : Cab) (s : State) : SamePorts s (ownOpenCab c s).st := by
  unfold ownOpenCab
  split <;> simp [SamePorts, acceptWith, refuse]

theorem ownCloseCab_ports (c : Cab) (s : State) : SamePorts s (ownCloseCab c s).st := by
  unfold ownCloseCab
  split <;> simp [SamePorts, acceptWith, refuse]

theorem ownLendDrive_ports (c : Cab) (s : State) : SamePorts s (ownLendDrive c s).st := by
  unfold ownLendDrive
  (repeat' split) <;> simp [SamePorts, acceptWith, refuse]

theorem ownReturnDrive_ports (c : Cab) (s : State) : SamePorts s (ownReturnDrive c s).st := by
  unfold ownReturnDrive
  split
  · split <;> simp [SamePorts, acceptWith, refuse]
  · exact .refl s

theorem ownEmergencyAck_ports (s : State) : SamePorts s (ownEmergencyAck s).st := by
  unfold ownEmergencyAck State.acknowledge
  dsimp only
  (repeat' split) <;> simp [SamePorts, acceptWith]

theorem ownHoldRelease_ports (s : State) : SamePorts s (ownHoldRelease s).st := by
  unfold ownHoldRelease
  split <;> simp [SamePorts, acceptWith, refuse]

theorem ownHoldApply_ports (s : State) : SamePorts s (ownHoldApply s).st := by
  simp [ownHoldApply, SamePorts, acceptWith]

theorem State.releaseSide_ports (d : SideId) (s : State) : SamePorts s (s.releaseSide d) := by
  unfold State.releaseSide
  split
  · exact .refl s
  · refine .trans (t := s.setSide d .released) (by simp [SamePorts]) (.foldl (fun t i => ?_) _ _)
    unfold State.unlockLeaf
    dsimp only
    split <;> simp [SamePorts]

theorem ownDoorRelease_ports (p : List Octet) (s : State) : SamePorts s (ownDoorRelease p s).st := by
  unfold ownDoorRelease
  split
  · exact .refl s
  · split
    · exact .refl s
    · split
      · exact .foldl (fun t d => State.releaseSide_ports d t) _ s
      · exact .refl s

theorem State.closeSide_ports (d : SideId) (s : State) : SamePorts s (s.closeSide d) := by
  refine .trans (t := (s.setSide d .locked).withdrawLeaves d) (by simp [SamePorts]) (.foldl (fun t i => ?_) _ _)
  split
  · exact .refl t
  · unfold State.closeLeafAgain
    dsimp only
    split
    · simp [SamePorts]
    · simp [SamePorts]
    · split <;> simp [SamePorts]
    all_goals exact .refl t

theorem ownDoorClose_ports (p : List Octet) (s : State) : SamePorts s (ownDoorClose p s).st := by
  unfold ownDoorClose
  split
  · exact .refl s
  · exact .foldl (fun t d => State.closeSide_ports d t) _ s

theorem ownDoorIsolateOn_ports (p : List Octet) (s : State) : SamePorts s (ownDoorIsolateOn p s).st := by
  unfold ownDoorIsolateOn
  split
  · (repeat' split) <;> simp [SamePorts, acceptWith, refuse]
  · exact .refl s

theorem ownDoorIsolateOff_ports (p : List Octet) (s : State) : SamePorts s (ownDoorIsolateOff p s).st := by
  unfold ownDoorIsolateOff
  split
  · split <;> simp [SamePorts, acceptWith, refuse]
  · exact .refl s

theorem ownProfileBegin_ports (c : Cab) (s : State) : SamePorts s (ownProfileBegin c s).st := by
  unfold ownProfileBegin State.beginLoad
  (repeat' split) <;> simp [SamePorts, accept, refuse]

theorem ownProfileSegment_ports (c : Cab) (p : List Octet) (s : State) : SamePorts s (ownProfileSegment c p s).st := by
  unfold ownProfileSegment
  split
  · exact .refl s
  · split <;> simp [SamePorts, accept, refuse]

theorem ownProfileMarker_ports (c : Cab) (p : List Octet) (s : State) : SamePorts s (ownProfileMarker c p s).st := by
  unfold ownProfileMarker
  split
  · exact .refl s
  · split <;> simp [SamePorts, accept, refuse]

theorem ownProfileCommit_ports (c : Cab) (p : List Octet) (s : State) : SamePorts s (ownProfileCommit c p s).st := by
  unfold ownProfileCommit
  split
  · exact .refl s
  · split
    · exact .refl s
    · split <;> simp [SamePorts, acceptWith]

theorem ownSetPosition_ports (p : List Octet) (s : State) : SamePorts s (ownSetPosition p s).st := by
  unfold ownSetPosition
  split
  · exact .refl s
  · split
    · exact .refl s
    · unfold State.declarePosition
      dsimp only
      (repeat' split) <;> simp [SamePorts, accept, refuse]

theorem ownInsert_ports (o : Origin) (p : List Octet) (s : State) : SamePorts s (ownInsert o p s).st := by
  unfold ownInsert
  split
  · exact .refl s
  · split
    · unfold refuseFull
      dsimp only
      split <;> simp [SamePorts]
    · split
      · exact .refl s
      · unfold insertEntry
        split
        · exact .refl s
        · split <;> simp [SamePorts, refuse]

theorem ownCabLift_ports (c : Cab) (p : List Octet) (s : State) : SamePorts s (ownCabLift c p s).st := by
  unfold ownCabLift
  split
  · exact .refl s
  · split
    · exact .refl s
    · split
      · exact .refl s
      · split <;> simp [SamePorts, acceptWith, State.liftEntry, refuse]

theorem ownPark_ports (c : Cab) (s : State) : SamePorts s (ownPark c s).st := by
  unfold ownPark
  (repeat' split) <;> simp [SamePorts, acceptWith, refuse]

theorem ownSetGate_ports (p : List Octet) (s : State) : SamePorts s (ownSetGate p s).st := by
  unfold ownSetGate
  split
  · exact .refl s
  · split
    · split
      · exact .refl s
      · split
        · exact .refl s
        · split
          · unfold setGateEntry
            split
            · exact .refl s
            · split
              · exact .refl s
              · split <;> simp [SamePorts, acceptWith, refuse]
          · exact .refl s
    · exact .refl s

theorem State.paramWritten_ports (n : Nat) (s : State) : SamePorts s (s.paramWritten n) := by
  unfold State.paramWritten
  split
  · simp [SamePorts]
  · split
    · unfold State.judgeDistance
      split <;> simp [SamePorts]
    · split
      · simp [SamePorts]
      · split
        · simp [SamePorts]
        · split
          · simp [SamePorts, State.judgeTransferTimer]
          · exact .refl s

theorem ownSetParameter_ports (p : List Octet) (s : State) : SamePorts s (ownSetParameter p s).st := by
  unfold ownSetParameter
  split
  · exact .refl s
  · split
    · split
      · exact .refl s
      · split
        · exact .refl s
        · exact .trans (t := s.withParams _) (by simp [SamePorts]) (State.paramWritten_ports _ _)
    · exact .refl s

/-! ## Owners that write their port -/

/-- What a port's assembler and receive buffer hold. -/
def Port.assembly (p : Port) : AsmState × List Octet × List Octet := (p.asm, p.buffer, p.receive)

/-- Neither assembler nor receive buffer moves. -/
def SameAssembly (s t : State) : Prop := ∀ d, (t.port d).assembly = (s.port d).assembly

theorem SamePorts.assembly {s t : State} (h : SamePorts s t) : SameAssembly s t := fun d => by
  rw [State.port_congr h.1 h.2]

theorem SameAssembly.refl (s : State) : SameAssembly s s := fun _ => rfl

theorem SameAssembly.trans {s t u : State} (h : SameAssembly s t) (g : SameAssembly t u) : SameAssembly s u :=
  fun d => (g d).trans (h d)

theorem State.withPort_assembly {c : Cab} {p : Port} {s : State} (h : p.assembly = (s.port c).assembly) :
    SameAssembly s (s.withPort c p) := fun d => by
  by_cases hd : d = c
  · rw [hd, State.withPort_port_same, h]
  · rw [State.withPort_port_ne hd]

theorem ownCabState_assembly (c : Cab) (p : List Octet) (s : State) : SameAssembly s (ownCabState c p s).st := by
  unfold ownCabState
  split
  · exact .refl s
  · next r hr =>
    have hput : SameAssembly s (s.putControls c r) := State.withPort_assembly rfl
    refine hput.trans (SamePorts.assembly ?_)
    unfold State.takeControls
    dsimp only
    (repeat' split) <;> simp [SamePorts]

theorem ownReadStatus_assembly (c : Cab) (s : State) : SameAssembly s (ownReadStatus c s).st :=
  .trans (t := s.withFlags (s.flags.emptied c)) (SamePorts.assembly (by simp [SamePorts]))
    (State.withPort_assembly (by cases c <;> rfl))

theorem readBackAt_assembly (c : Cab) (t : TableId) (i : Nat) (s : State) : SameAssembly s (readBackAt c t i s).st := by
  unfold readBackAt
  split
  · exact State.withPort_assembly rfl
  · exact .refl s

theorem ownReadProfileEntry_assembly (c : Cab) (p : List Octet) (s : State) :
    SameAssembly s (ownReadProfileEntry c p s).st := by
  unfold ownReadProfileEntry
  split
  · split
    · split
      · exact readBackAt_assembly _ _ _ _
      · exact .refl s
    · exact .refl s
  · exact .refl s

theorem ownReadProfileEntryNext_assembly (c : Cab) (p : List Octet) (s : State) :
    SameAssembly s (ownReadProfileEntryNext c p s).st := by
  unfold ownReadProfileEntryNext
  split
  · split
    · exact readBackAt_assembly _ _ _ _
    · exact .refl s
  · exact .refl s

/-- No owner of a cab request moves an assembler (R182). -/
theorem cabOwner_assembly (kind : Octet) (c : Cab) (p : List Octet) (s : State) :
    SameAssembly s (cabOwner kind c p s).st := by
  unfold cabOwner
  split
  · exact ownCabState_assembly c p s
  · exact ownReadStatus_assembly c s
  · split
    · exact ownReadProfileEntryNext_assembly c p s
    · exact ownReadProfileEntry_assembly c p s
  · exact .refl s
  · exact (ownTransferCounters_ports s).assembly
  · exact (ownReadResetCause_ports s).assembly
  · exact (ownOpenCab_ports c s).assembly
  · exact (ownCloseCab_ports c s).assembly
  · exact (ownLendDrive_ports c s).assembly
  · exact (ownReturnDrive_ports c s).assembly
  · exact (ownEmergencyAck_ports s).assembly
  · exact (ownHoldRelease_ports s).assembly
  · exact (ownHoldApply_ports s).assembly
  · exact (ownDoorRelease_ports p s).assembly
  · exact (ownDoorClose_ports p s).assembly
  · split
    · exact (ownDoorIsolateOff_ports p s).assembly
    · exact (ownDoorIsolateOn_ports p s).assembly
  · exact (ownProfileBegin_ports c s).assembly
  · exact (ownProfileSegment_ports c p s).assembly
  · exact (ownProfileMarker_ports c p s).assembly
  · exact (ownProfileCommit_ports c p s).assembly
  · exact (ownSetPosition_ports p s).assembly
  · exact (ownInsert_ports _ p s).assembly
  · exact (ownCabLift_ports c p s).assembly
  · exact (ownPark_ports c s).assembly
  · split
    · exact (ownSetParameter_ports p s).assembly
    · exact (ownSetGate_ports p s).assembly
  · exact .refl s

end Sys2Proof.Machine

/-! SUPPORT. The answer slots and the assembler of a port: ANSWER_SENT, FRAMING_FAULT, BAD_CAB_MESSAGE. -/

namespace Sys2Proof.Machine

/-- A port put back as it is. -/
theorem State.withPort_same {c : Cab} {p : Port} {s : State} (h : p = s.port c) : s.withPort c p = s := by
  subst h
  cases c <;> rfl

theorem State.withPort_withPort (c : Cab) (p q : Port) (s : State) : (s.withPort c p).withPort c q = s.withPort c q := by
  cases c <;> rfl

theorem State.setAsm_port_same (c : Cab) (a : AsmState) (l : List Octet) (s : State) :
    (s.setAsm c a l).port c = { s.port c with asm := a, buffer := l } :=
  State.withPort_port_same ..

/-- A valid message held unjudged: the link ACTIVE, its octets kept in WAITING (R183). -/
theorem State.heard_setAsm (c : Cab) (a : AsmState) (l : List Octet) (s : State) :
    (s.heard c).setAsm c a l = s.withPort c { (s.port c).heard with asm := a, buffer := l } := by
  cases c <;> rfl

theorem State.post_assembly (c : Cab) (a : Answer) (s : State) :
    SameAssembly s (s.withPort c ((s.port c).post a)) := by
  refine State.withPort_assembly ?_
  unfold Port.post
  split <;> rfl

theorem State.serve_assembly {own : State → Reply} (h : ∀ s, SameAssembly s (own s).st) (kind : Octet) (m : CabMsg)
    (s : State) : SameAssembly s (s.serve kind m own) := by
  refine .trans (t := (s.judge kind (.cab m.cab) own).st) ?_ (State.post_assembly _ _ _)
  have hnote : ∀ (code : ResultCode) (o : Origin) (t : State), SameAssembly t (t.noteResult code kind o) :=
    fun code o t => SamePorts.assembly (by simp [SamePorts])
  unfold State.judge
  split
  · exact hnote _ _ s
  · exact (h s).trans (hnote _ _ _)

/-- An assembler that hunts with nothing received goes on so (R182). -/
theorem State.feed_nothing {c : Cab} {s : State} (h : (s.port c).assembly = (.hunting, [], [])) :
    (s.withPort c { s.port c with receive := [] }).feed c (s.port c).receive = s := by
  simp only [Port.assembly, Prod.mk.injEq] at h
  obtain ⟨hasm, hbuffer, hreceive⟩ := h
  have hsame : s.withPort c { s.port c with receive := [] } = s := State.withPort_same (by rw [← hreceive])
  have hhunt : s.setAsm c .hunting [] = s := State.withPort_same (by rw [← hbuffer, ← hasm])
  rw [hsame, hreceive]
  simp only [State.feed, hasm, hbuffer, List.nil_append, hhunt]
  rfl

/-- The body held of a message is its kind, tag and payload (Table 12-2). -/
theorem heldBody_cabOctets (kind : Octet) (m : CabMsg) : heldBody (cabOctets kind m) = kind :: m.tag :: m.payload := by
  simp [heldBody, cabOctets, crcOctets, oct2]

/-- The message held in WAITING is judged as one that comes with the waiting slot free (R183). -/
theorem State.takeHeld_message {s : State} {kind : Octet} {m : CabMsg} (hlength : m.payload.length ≤ 58)
    (hasm : (s.port m.cab).asm = .waiting) (hbuffer : (s.port m.cab).buffer = cabOctets kind m)
    (hreceive : (s.port m.cab).receive = []) (hwaiting : (s.port m.cab).waiting = none)
    (hheard : (s.port m.cab).heard = s.port m.cab) :
    s.takeHeld m.cab = (s.setAsm m.cab .hunting []).cabCommand m kind (cabOwner kind m.cab m.payload) := by
  obtain ⟨u, hu⟩ : ∃ u, u = s.setAsm m.cab .hunting [] := ⟨_, rfl⟩
  have hport : u.port m.cab = { s.port m.cab with asm := .hunting, buffer := [] } :=
    hu ▸ State.setAsm_port_same ..
  have hsame : u.heard m.cab = u := by
    refine State.withPort_same ?_
    have hlink := congrArg Port.link hheard
    have hsilence := congrArg Port.silence hheard
    rw [hport]
    simpa [Port.heard, silenceTime] using ⟨hlink, hsilence⟩
  have hserved : ((u.serve kind { cab := m.cab, tag := m.tag, payload := m.payload }
      (cabOwner kind m.cab m.payload)).port m.cab).assembly = (.hunting, [], []) := by
    rw [State.serve_assembly (fun t => cabOwner_assembly kind m.cab m.payload t) kind _ u m.cab, hport, Port.assembly, hreceive]
  rw [← hu]
  simp only [State.takeHeld, hasm, ← hu, hbuffer, heldBody_cabOctets, State.serveBody, hreceive]
  simp only [State.cabCommand, hport, hlength, hwaiting, hsame, and_self, if_true]
  have hdone := State.feed_nothing hserved
  simp only [Port.assembly, Prod.mk.injEq] at hserved
  obtain ⟨-, -, hempty⟩ := hserved
  rw [hempty] at hdone
  exact hdone

theorem State.scan_none {l : List Octet} (c : Cab) (n : Nat) (h : 0xA5#8 ∉ l) (s : State) : s.scan c n l = s := by
  induction l generalizing n with
  | nil => cases n <;> rfl
  | cons o rest ih =>
    obtain ⟨ho, hrest⟩ : 0xA5#8 ≠ o ∧ 0xA5#8 ∉ rest := by simpa using h
    cases n with
    | zero => rfl
    | succ n => rw [State.scan, if_pos (Ne.symm ho), ih n hrest]

/-- A bad message without a second start octet, from HUNTING, counts one error (R182). -/
theorem exec_badCabMessage {s : State} {c : Cab} {octets : List Octet} (hasm : (s.port c).asm = .hunting)
    (hbuffer : (s.port c).buffer = []) (hbad : badFraming 0xA5#8 60 0 octets = true) (hlone : 0xA5#8 ∉ octets.tail) :
    exec (.badCabMessage c octets) s = .next (s.errorUp c) := by
  obtain ⟨hhead, hframe⟩ : octets.head? = some 0xA5#8 ∧ frameOf 60 0 octets = .bad := by
    simpa [badFraming] using hbad
  obtain ⟨rest, rfl⟩ : ∃ rest, octets = 0xA5#8 :: rest := by
    cases octets with
    | nil => simp at hhead
    | cons o rest => exact ⟨rest, by simpa using hhead⟩
  have hhunt : s.setAsm c .hunting [] = s := State.withPort_same (by rw [← hbuffer, ← hasm])
  change Host.Outcome.next (s.feed c (0xA5#8 :: rest)) = _
  simp only [State.feed, hasm, hbuffer, List.nil_append, hhunt, State.scan, ne_eq, not_true_eq_false, if_false, hframe]
  exact congrArg Host.Outcome.next (State.scan_none c _ hlone _)

/-- Settles O6: the answer slots in their order, and the errors of one character and one bad message. -/
theorem portsAnswerInTurnAndCountErrors : Obligations.PortsAnswerInTurnAndCountErrors := by
  intro s kind m first second sent
  refine ⟨fun hlength hsending hsent => ⟨fun hasm hwaiting => ?_, fun hasm => ?_, fun hasm hbuffer hreceive hwaiting
    hlink hsilence => ?_⟩, fun c => ⟨rfl, fun o hasm => ?_, fun octets hasm hbuffer hbad hlone =>
      exec_badCabMessage hasm hbuffer hbad hlone⟩⟩
  · rw [exec_cabRequest]
    simp only [State.cabCommand, hasm, hlength, hwaiting, and_self, if_true]
    exact congrArg Host.Outcome.next (State.heard_setAsm ..)
  · have hoctets : sent = first.octets := by rw [hsent, Nat.add_comm 3]; rfl
    change Host.Outcome.next _ = _
    simp only [hsending, ← hoctets]
    unfold State.takeHeld
    dsimp only
    split
    · next h => exact absurd (by simpa using h) hasm
    · rfl
    · rfl
  · have hoctets : sent = first.octets := by rw [hsent, Nat.add_comm 3]; rfl
    obtain ⟨u, hu⟩ : ∃ u, u = s.withPort m.cab { s.port m.cab with
      sending := (s.port m.cab).waiting, waiting := none, lastSent := sent } := ⟨_, rfl⟩
    have hport : u.port m.cab = { s.port m.cab with
        sending := (s.port m.cab).waiting, waiting := none, lastSent := sent } := hu ▸ State.withPort_port_same ..
    have hexec : exec (.answerSent m.cab) s = .next (u.takeHeld m.cab) := by
      change Host.Outcome.next _ = _
      simp only [hsending, ← hoctets, hu]
    rw [hexec, State.takeHeld_message (kind := kind) hlength (by rw [hport]; exact hasm) (by rw [hport]; exact hbuffer)
      (by rw [hport]; exact hreceive) (by rw [hport]) (by rw [hport]; simp [Port.heard, hlink, hsilence]), exec_cabRequest,
      State.setAsm, hport, hu, State.withPort_withPort, hwaiting]
  · have hfeed : s.feed c [o] = s.stash c [o] := by simp only [State.feed, hasm]
    change Host.Outcome.next (s.feed c [o]) = _
    rw [hfeed]
    change Host.Outcome.next (if (s.port c).receive.length < 128 then _ else _) = _
    split <;> rfl

end Sys2Proof.Machine

/-! SUPPORT. Validation of a load, and the commit: PROFILE_COMMIT. -/

namespace Sys2Proof.Machine

/-! ## The fields carried -/

/-- The ranges of a commit's fields (R9). -/
def Commit.inRange (k : Commit) : Prop :=
  1 ≤ k.segCount ∧ k.segCount ≤ 256 ∧ k.mkrCount ≤ 128 ∧ 100 ≤ k.lineEnd ∧ k.lineEnd ≤ 99999 ∧ 1 ≤ k.version

theorem readCommit_carried {k : Commit} (rest : List Octet) (hseg : k.segCount ≤ 65535) (hmkr : k.mkrCount ≤ 65535)
    (hend : k.lineEnd ≤ 16777215) (hversion : k.version ≤ 65535) :
    (k.inRange → readCommit (oct2 k.segCount ++ oct2 k.mkrCount ++ oct3 k.lineEnd ++ oct2 k.version ++ rest) = some k) ∧
      (¬ k.inRange →
        readCommit (oct2 k.segCount ++ oct2 k.mkrCount ++ oct3 k.lineEnd ++ oct2 k.version ++ rest) = none) := by
  have hfields : readCommit (oct2 k.segCount ++ oct2 k.mkrCount ++ oct3 k.lineEnd ++ oct2 k.version ++ rest) =
      if 1 ≤ k.segCount ∧ k.segCount ≤ 256 ∧ k.mkrCount ≤ 128 ∧ 100 ≤ k.lineEnd ∧ k.lineEnd ≤ positionMax ∧ 1 ≤ k.version
        then some k else none := by
    simp [readCommit, oct2, oct3, num2_oct2 (n := k.segCount) (by omega), num2_oct2 (n := k.mkrCount) (by omega),
      num3_oct3 (n := k.lineEnd) (by omega), num2_oct2 (n := k.version) (by omega)]
  rw [hfields]
  exact ⟨fun h => if_pos h, fun h => if_neg h⟩

/-! ## Validation -/

theorem firstFault_none {table : TableId} {check : Nat → Option CommitReason} {l : List Nat}
    (h : ∀ i ∈ l, check i = none) : firstFault table check l = none := by
  induction l with
  | nil => rfl
  | cons i l ih =>
    rw [firstFault, h i (by simp)]
    exact ih fun j hj => h j (List.mem_cons_of_mem _ hj)

theorem firstFault_append {table : TableId} {check : Nat → Option CommitReason} {i : Nat} {r : CommitReason}
    {a : List Nat} (b : List Nat) (hbefore : ∀ j ∈ a, check j = none) (hat : check i = some r) :
    firstFault table check (a ++ i :: b) = some { table := table, index := i, reason := r } := by
  induction a with
  | nil => simp [firstFault, hat]
  | cons j a ih =>
    rw [List.cons_append, firstFault, hbefore j (by simp)]
    exact ih fun x hx => hbefore x (List.mem_cons_of_mem _ hx)

/-- The first failing index below a count is reported (R10). -/
theorem firstFault_range {table : TableId} {check : Nat → Option CommitReason} {n i : Nat} {r : CommitReason} (hi : i < n)
    (hbefore : ∀ j, j < i → check j = none) (hat : check i = some r) :
    firstFault table check (List.range n) = some { table := table, index := i, reason := r } := by
  have hsplit : List.range n = List.range i ++ i :: (List.range (n - i - 1)).map fun j => i + (j + 1) := by
    obtain ⟨m, rfl⟩ : ∃ m, n = i + (m + 1) := ⟨n - i - 1, by omega⟩
    have hm : i + (m + 1) - i - 1 = m := by omega
    rw [List.range_add, List.range_succ_eq_map, hm]
    simp [Function.comp_def]
  rw [hsplit]
  exact firstFault_append _ (fun j hj => hbefore j (List.mem_range.1 hj)) hat

/-- A segment that passes, its predecessor written, fails no check (Table 1-4). -/
theorem segmentFault_none {l : LineStore} {e i : Nat} (h : l.segmentPasses e i)
    (hwritten : 0 < i → ∃ g, l.segments.get (i - 1) = some g) : segmentFault l.segments e i = none := by
  obtain ⟨g, hg, hend, hzero, hrises⟩ := h
  rw [segmentFault, hg]
  dsimp only
  rw [if_neg (fun hc => hc.2 (hzero hc.1)), if_neg ?_, if_neg (by omega)]
  rintro ⟨hi, hle⟩
  obtain ⟨q, hq⟩ := hwritten (by omega)
  have := hrises q (by omega) hq
  rw [hq] at hle
  simp only [Option.map_some, Option.getD_some] at hle
  omega

/-- The first check a segment fails gives the reason (Table 1-4). -/
theorem segmentFault_some {l : LineStore} {e i : Nat} {reason : Octet} (h : l.segmentFails e i reason)
    (hwritten : 0 < i → ∃ g, l.segments.get (i - 1) = some g) :
    ∃ r, segmentFault l.segments e i = some r ∧ oct r.num = reason := by
  obtain ⟨rfl, hnone⟩ | ⟨g, hg, hreason⟩ := h
  · exact ⟨.unwritten, by rw [segmentFault, hnone], rfl⟩
  · rw [segmentFault, hg]
    dsimp only
    obtain ⟨rfl, hi, hstart⟩ | ⟨rfl, hi, q, hq, hle⟩ | ⟨rfl, hzero, hrises, hend⟩ := hreason
    · exact ⟨.notAtZero, by rw [if_pos ⟨hi, hstart⟩], rfl⟩
    · exact ⟨.notIncreasing, by rw [if_neg (by omega), if_pos ⟨by omega, by simpa [hq] using hle⟩], rfl⟩
    · refine ⟨.beyondEnd, ?_, rfl⟩
      rw [if_neg (fun hc => hc.2 (hzero hc.1)), if_neg ?_, if_pos hend]
      rintro ⟨hi, hle⟩
      obtain ⟨q, hq⟩ := hwritten (by omega)
      have := hrises q (by omega) hq
      rw [hq] at hle
      simp only [Option.map_some, Option.getD_some] at hle
      omega

/-- A marker that passes, its predecessor written, fails no check (Table 1-4). -/
theorem markerFault_none {l : LineStore} {e i : Nat} (h : l.markerPasses e i)
    (hwritten : 0 < i → ∃ p, l.markers.get (i - 1) = some p) : markerFault l.markers e i = none := by
  obtain ⟨p, hp, hend, hrises⟩ := h
  rw [markerFault, hp]
  dsimp only
  rw [if_neg ?_, if_neg (by omega)]
  rintro ⟨hi, hle⟩
  obtain ⟨q, hq⟩ := hwritten (by omega)
  have := hrises q (by omega) hq
  rw [hq] at hle
  simp only [Option.getD_some] at hle
  omega

/-- The first check a marker fails gives the reason (Table 1-4). -/
theorem markerFault_some {l : LineStore} {e i : Nat} {reason : Octet} (h : l.markerFails e i reason)
    (hwritten : 0 < i → ∃ p, l.markers.get (i - 1) = some p) :
    ∃ r, markerFault l.markers e i = some r ∧ oct r.num = reason := by
  obtain ⟨rfl, hnone⟩ | ⟨p, hp, hreason⟩ := h
  · exact ⟨.unwritten, by rw [markerFault, hnone], rfl⟩
  · rw [markerFault, hp]
    dsimp only
    obtain ⟨rfl, hi, q, hq, hle⟩ | ⟨rfl, hrises, hend⟩ := hreason
    · exact ⟨.notIncreasing, by rw [if_pos ⟨by omega, by simpa [hq] using hle⟩], rfl⟩
    · refine ⟨.beyondEnd, ?_, rfl⟩
      rw [if_neg ?_, if_pos hend]
      rintro ⟨hi, hle⟩
      obtain ⟨q, hq⟩ := hwritten (by omega)
      have := hrises q (by omega) hq
      rw [hq] at hle
      simp only [Option.getD_some] at hle
      omega

/-- A segment that passes is written. -/
theorem LineStore.segmentPasses.written {l : LineStore} {e n : Nat} (h : ∀ j, j < n → l.segmentPasses e j) {i : Nat}
    (hi : i ≤ n) (hpos : 0 < i) : ∃ g, l.segments.get (i - 1) = some g := by
  obtain ⟨g, hg, -⟩ := h (i - 1) (by omega)
  exact ⟨g, hg⟩

theorem LineStore.markerPasses.written {l : LineStore} {e n : Nat} (h : ∀ j, j < n → l.markerPasses e j) {i : Nat}
    (hi : i ≤ n) (hpos : 0 < i) : ∃ p, l.markers.get (i - 1) = some p := by
  obtain ⟨p, hp, -⟩ := h (i - 1) (by omega)
  exact ⟨p, hp⟩

theorem LineStore.segments_pass {l : LineStore} {e n : Nat} (h : ∀ j, j < n → l.segmentPasses e j) :
    firstFault .segments (segmentFault l.segments e) (List.range n) = none :=
  firstFault_none fun j hj => segmentFault_none (h j (List.mem_range.1 hj)) fun hpos =>
    LineStore.segmentPasses.written h (Nat.le_of_lt (List.mem_range.1 hj)) hpos

/-- A load whose entries pass is valid (R10). -/
theorem LineStore.validate_none {l : LineStore} {k : Commit} (hseg : ∀ i, i < k.segCount → l.segmentPasses k.lineEnd i)
    (hmkr : ∀ i, i < k.mkrCount → l.markerPasses k.lineEnd i) : l.validate k = none := by
  rw [LineStore.validate, LineStore.segments_pass hseg]
  exact firstFault_none fun j hj => markerFault_none (hmkr j (List.mem_range.1 hj)) fun hpos =>
    LineStore.markerPasses.written hmkr (Nat.le_of_lt (List.mem_range.1 hj)) hpos

/-- The first segment that fails is reported (R10). -/
theorem LineStore.validate_segment {l : LineStore} {k : Commit} {i : Nat} {reason : Octet} (hi : i < k.segCount)
    (hbefore : ∀ j, j < i → l.segmentPasses k.lineEnd j) (hfails : l.segmentFails k.lineEnd i reason) :
    ∃ f, l.validate k = some f ∧ f.octets = 0#8 :: oct2 i ++ [reason] := by
  obtain ⟨r, hfault, hnum⟩ := segmentFault_some hfails fun hpos => LineStore.segmentPasses.written hbefore (Nat.le_refl _) hpos
  refine ⟨{ table := .segments, index := i, reason := r }, ?_, by rw [← hnum]; rfl⟩
  rw [LineStore.validate, firstFault_range hi (fun j hj => ?_) hfault]
  exact segmentFault_none (hbefore j hj) fun hpos => LineStore.segmentPasses.written hbefore (Nat.le_of_lt hj) hpos

/-- With the segments in order the first marker that fails is reported (R10). -/
theorem LineStore.validate_marker {l : LineStore} {k : Commit} {i : Nat} {reason : Octet}
    (hseg : ∀ j, j < k.segCount → l.segmentPasses k.lineEnd j) (hi : i < k.mkrCount)
    (hbefore : ∀ j, j < i → l.markerPasses k.lineEnd j) (hfails : l.markerFails k.lineEnd i reason) :
    ∃ f, l.validate k = some f ∧ f.octets = 1#8 :: oct2 i ++ [reason] := by
  obtain ⟨r, hfault, hnum⟩ := markerFault_some hfails fun hpos => LineStore.markerPasses.written hbefore (Nat.le_refl _) hpos
  refine ⟨{ table := .markers, index := i, reason := r }, ?_, by rw [← hnum]; rfl⟩
  rw [LineStore.validate, LineStore.segments_pass hseg]
  refine firstFault_range hi (fun j hj => ?_) hfault
  exact markerFault_none (hbefore j hj) fun hpos => LineStore.markerPasses.written hbefore (Nat.le_of_lt hj) hpos

/-! ## PROFILE_COMMIT refused -/

theorem exec_profileCommit_refused {s : State} {m : CabMsg} {code : ResultCode} (h : s.admits 19#8 m = true)
    (hload : s.loadRefusal m.cab = some code) (hcode : code.accepted = false) :
    exec (.profileCommit m) s = .next (s.refused 19#8 m code) :=
  congrArg Host.Outcome.next (State.cabCommand_refused h (by simp [ownProfileCommit, hload]) hcode)

theorem exec_profileCommit_range {s : State} {m : CabMsg} (h : s.admits 19#8 m = true)
    (hload : s.loadRefusal m.cab = none) (hread : readCommit m.payload = none) :
    exec (.profileCommit m) s = .next (s.refused 19#8 m .range) :=
  congrArg Host.Outcome.next (State.cabCommand_refused h (by simp [ownProfileCommit, hload, hread]) rfl)

/-- A commit whose validation fails is refused STATE with its detail, and reported (R5, R10). -/
theorem exec_profileCommit_invalid {s : State} {m : CabMsg} {k : Commit} {f : CommitFault} (h : s.admits 19#8 m = true)
    (hload : s.loadRefusal m.cab = none) (hread : readCommit m.payload = some k) (hfault : s.line.validate k = some f) :
    exec (.profileCommit m) s =
      .next (((s.flag .lineRecord).withRefusal (some { code := .stateFails, index := 19, valley := false })).answer
        19#8 m .stateFails f.octets) := by
  have hown : ownProfileCommit m.cab m.payload (s.heard m.cab) =
      { st := (s.heard m.cab).flag .lineRecord, code := .stateFails, body := fun _ => f.octets } := by
    simp [ownProfileCommit, hload, hread, hfault]
  refine congrArg Host.Outcome.next ((State.cabCommand_reply h hown rfl).trans ?_)
  have hnote : ((s.heard m.cab).flag .lineRecord).noteResult .stateFails 19#8 (.cab m.cab) =
      ((s.flag .lineRecord).heard m.cab).withRefusal (some { code := .stateFails, index := 19, valley := false }) := by
    cases m.cab <;> rfl
  have hport : ∀ (t : State) (r : Option Refused), (t.withRefusal r).port m.cab = t.port m.cab := fun t r =>
    State.port_congr rfl rfl m.cab
  simp only [hnote, hport, State.heard_port_same, State.answer, State.answered]
  exact State.withPort_withRefusal_withPort ..

/-- Settles O22: where a commit stands, what it carries, and the first check its load fails. -/
theorem failedCommitKeepsTheLoad : Obligations.FailedCommitKeepsTheLoad := by
  intro s m k rest h hpayload hseg hmkr hend hversion
  obtain ⟨hgood, hbad⟩ := readCommit_carried rest hseg hmkr hend hversion
  rw [← hpayload] at hgood hbad
  refine ⟨fun hprofile => ?_, fun hprofile hloader => ?_, fun hprofile hloader => ⟨fun hout => ?_, ?_⟩⟩
  · exact exec_profileCommit_refused h (by simp [State.loadRefusal, hprofile]) rfl
  · exact exec_profileCommit_refused h (by simp [State.loadRefusal, hprofile, hloader]) rfl
  · exact exec_profileCommit_range h (State.loadRefusal_own hprofile hloader) (hbad (by unfold Commit.inRange; omega))
  · intro h1 h2 h3 h4 h5 h6 table reason i hfails
    have hinvalid : ∃ f, s.line.validate k = some f ∧ f.octets = table :: oct2 i ++ [reason] := by
      obtain ⟨rfl, hi, hbefore, hfails⟩ | ⟨rfl, hi, hsegments, hbefore, hfails⟩ := hfails
      · exact LineStore.validate_segment hi hbefore hfails
      · exact LineStore.validate_marker hsegments hi hbefore hfails
    obtain ⟨f, hf, hoctets⟩ := hinvalid
    rw [exec_profileCommit_invalid h (State.loadRefusal_own hprofile hloader) (hgood ⟨h1, h2, h3, h4, h5, h6⟩) hf, hoctets]

end Sys2Proof.Machine

/-! SUPPORT. A valid load sealed by PROFILE_COMMIT. -/

namespace Sys2Proof.Machine

theorem Table.get_below {α : Type} (t : Table α) {n i : Nat} (h : i < n) : (t.below n).get i = t.get i := by
  induction t with
  | nil => rfl
  | cons e t ih =>
    obtain ⟨j, x⟩ := e
    have hstep : Table.below ((j, x) :: t) n = if j < n then (j, x) :: Table.below t n else Table.below t n := by
      by_cases hj : j < n <;> simp [Table.below, hj]
    rw [hstep]
    split
    · simp only [Table.get, ih]
    · rw [ih, Table.get, if_neg (by omega)]

theorem Table.mem_below {α : Type} {t : Table α} {n : Nat} {e : Nat × α} (h : e ∈ t.below n) : e.1 < n :=
  of_decide_eq_true (List.mem_filter.1 h).2

/-- The state with a load sealed, the mode READY, before the readers of the profile follow (R11). -/
def State.sealed (k : Commit) (s : State) : State := (s.withLine (s.line.committed k)).changeMode .ready

theorem State.sealed_line (k : Commit) (s : State) : (s.sealed k).line = s.line.committed k := by
  simp [State.sealed]

/-- From CONFIG the commit's mode change is flagged (R187). -/
theorem State.sealed_flagged {s : State} (k : Commit) (h : s.mode.mode = .config) : Flagged (s.sealed k) .mode := by
  have hmode : (s.withLine (s.line.committed k)).mode.mode ≠ .ready := by simp [h]
  obtain ⟨-, hflag, -⟩ := State.enterMode_effect hmode
  rcases (s.withLine (s.line.committed k)).changeMode_cases .ready with hcase | hcase
  · rw [State.sealed, hcase]
    exact hflag
  · rw [State.sealed, hcase]
    exact iteInduction (motive := fun t => Flagged t .mode) (fun _ => hflag.releaseCmd .rack) fun _ => hflag

/-- A commit whose entries pass seals the load (R11). -/
theorem exec_profileCommit_sealed {s : State} {m : CabMsg} {k : Commit} (h : s.admits 19#8 m = true)
    (hload : s.loadRefusal m.cab = none) (hread : readCommit m.payload = some k) (hvalid : s.line.validate k = none) :
    exec (.profileCommit m) s = .next ((((s.heard m.cab).sealed k).profileChanged).withPort m.cab
      (s.answered 19#8 m .ok (oct2 ((s.heard m.cab).sealed k).profileChanged.line.version ++
        crcOctets ((s.heard m.cab).sealed k).profileChanged.line.storeCheck))) := by
  refine congrArg Host.Outcome.next (State.cabCommand_acceptedWith
    (body := fun t => oct2 t.line.version ++ crcOctets t.line.storeCheck) h ?_ ?_)
  · simp [ownProfileCommit, hload, hread, hvalid, State.sealed]
  · exact (State.port_congr (by simp [State.sealed]) (by simp [State.sealed]) m.cab).trans (State.heard_port_same ..)

/-- Settles O21: the line record sealed is the load's below the counts, with the readers of the profile after it. -/
theorem commitSealsAValidLoad : Obligations.CommitSealsAValidLoad := by
  intro s m k rest h hprofile hloader hmode hpayload h1 h2 h3 h4 h5 h6 h7 hsegments hmarkers
  obtain ⟨hread, -⟩ := readCommit_carried rest (k := k) (by omega) (by omega) (by omega) h7
  rw [← hpayload] at hread
  have hexec := exec_profileCommit_sealed h (State.loadRefusal_own hprofile hloader) (hread ⟨h1, h2, h3, h4, h5, h6⟩)
    (LineStore.validate_none hsegments hmarkers)
  obtain ⟨u, hu⟩ : ∃ u, u = (s.heard m.cab).sealed k := ⟨_, rfl⟩
  have huline : u.line = s.line.committed k := by rw [hu, State.sealed_line]; simp
  obtain ⟨-, -, -, -, -, hstored, -⟩ := State.record_parts u.profileChanged_reacts.record
  rw [huline] at hstored
  obtain ⟨x, hline⟩ : ∃ x, u.profileChanged.line = { s.line.committed k with authority := x } :=
    ⟨_, LineStore.eq_of_stored hstored⟩
  have hversion := u.judgeVersion_versionInd
  rw [← State.profileChanged_handler, huline] at hversion
  have hflag : Flagged u .mode := hu ▸ State.sealed_flagged k (by simpa using hmode)
  have hready : u.mode.mode = .ready := hu ▸ State.changeMode_mode .ready _
  rw [← hu] at hexec
  refine ⟨_, hexec, ?_, ?_⟩
  · have hother : u.profileChanged.port (otherCab m.cab) = s.port (otherCab m.cab) :=
      (State.port_congr (by simp [hu, State.sealed]) (by simp [hu, State.sealed]) _).trans (State.heard_port_other m.cab s)
    have hcarried : u.profileChanged.line.version = k.version := by rw [hline]; rfl
    simp only [State.withPort_frame, hcarried]
    exact answers_withPort hother
  · have hhandler : u.handler = s.handler := by simp [hu, State.sealed]
    rw [hhandler] at hversion
    simp only [State.withPort_frame, hline]
    refine ⟨rfl, rfl, rfl, rfl, rfl, rfl, rfl, fun i hi => Table.get_below _ hi, fun e => Table.mem_below,
      fun i hi => Table.get_below _ hi, fun e => Table.mem_below, rfl, by simpa using hready,
      u.profileChanged_flagged.congr (by simp), (u.profileChanged_subdued.flags _ hflag).congr (by simp), hversion, ?_⟩
    simp [SameSetup, hu, State.sealed]

end Sys2Proof.Machine

/-! SUPPORT. The watch of a parked car and the end of waking. -/

namespace Sys2Proof.Machine

/-! ## The search of the watch -/

theorem State.setLineCode_joined (c : LineCode) (s : State) : Joined 4 s (s.setLineCode c) := by
  have hcode : Joined 0 s (s.withLineCode c) := .of_eq 0 (by simp) (by simp)
  have hterm : Joined 0 s ((s.withLineCode c).flag .lineCode).valleyTerm := by
    refine .of_eq 0 ?_ (by simp)
    simp [State.valleyTerm]
  unfold State.setLineCode
  dsimp only
  split
  · exact .of_eq 4 (by simp) (by simp)
  · exact Joined.trans hterm (State.evaluate_joined _)

/-- An alignment dropped leaves the report timer (R172). -/
theorem State.toHunt_reportTimer (n : Nat) (s : State) : (s.toHunt n).reports.timer = s.reports.timer := by
  have hset : ((s.discard.withRx (s.rx.hunting n)).setRxState .hunt).reports = s.reports := by simp
  unfold State.toHunt
  dsimp only
  split
  · rw [State.holdCode, (State.setLineCode_joined _ _).timer, hset]
  · rw [hset]

/-- An alignment dropped writes nothing of the line store but the void flag of the authority (R57). -/
theorem State.toHunt_line (n : Nat) (s : State) : ∃ a, (s.toHunt n).line = { s.line with authority := a } := by
  obtain ⟨-, -, -, -, -, hstored, -⟩ := State.record_parts (s.toHunt_reacts n).record
  exact ⟨_, LineStore.eq_of_stored hstored⟩

/-! ## The WAKE flags -/

/-- The WAKE flags of both cabs. -/
def State.wakeFlags (s : State) : Bool × Bool := (s.flags.upper.wake, s.flags.lower.wake)

theorem State.wakeFlags_congr {s t : State} (h : t.flags = s.flags) : t.wakeFlags = s.wakeFlags := by
  simp [State.wakeFlags, h]

theorem State.flag_wakeFlags {k : FlagKind} (hk : k ≠ .wake) (s : State) : (s.flag k).wakeFlags = s.wakeFlags := by
  cases k
  case wake => exact absurd rfl hk
  all_goals rfl

/-- A brake whose valve is de-energized is not moved by an apply command (R93). -/
theorem State.applyCmd_closed {b : BrakeId} {s : State} (h : (s.brk.get b).state.energized = false) : s.applyCmd b = s := by
  unfold State.applyCmd
  split
  case h_1 hst | h_2 hst => simp [hst, BrakeState.energized] at h
  all_goals rfl

/-- With the holding brake's valve de-energized new terms move no WAKE flag and no brake. -/
theorem State.setTerms_closed {s : State} (t : Terms) (h : s.brk.hold.state.energized = false) :
    (s.setTerms t).wakeFlags = s.wakeFlags ∧ ∀ b, (s.setTerms t).brk.get b = s.brk.get b := by
  obtain ⟨u, hu⟩ : ∃ u, u = (s.withBrk { s.brk with terms := t }).settleOutputs := ⟨_, rfl⟩
  have hget : ∀ b, u.brk.get b = s.brk.get b := fun b => by
    rw [hu]
    unfold State.settleOutputs
    dsimp only
    split <;> cases b <;> simp [Brakes.get]
  have hflags : u.wakeFlags = s.wakeFlags := by
    rw [hu]
    unfold State.settleOutputs
    dsimp only
    split
    · exact State.wakeFlags_congr (by simp)
    · exact (State.flag_wakeFlags (by decide) _).trans (State.wakeFlags_congr (by simp))
  have hset : s.setTerms t = u := by
    have happly : u.applyCmd .hold = u := State.applyCmd_closed ((hget .hold) ▸ h)
    unfold State.setTerms
    rw [← hu]
    dsimp only
    rw [happly, ite_self]
  rw [hset]
  exact ⟨hflags, hget⟩

/-- With both valves de-energized a joining cause moves no WAKE flag (R99). -/
theorem State.addCause_wakeFlags {k : CauseKind} (hk : k ≠ .rollaway) {s : State}
    (hrack : s.brk.rack.state.energized = false) (hhold : s.brk.hold.state.energized = false) :
    (s.addCause k).wakeFlags = s.wakeFlags := by
  obtain ⟨u, hu⟩ : ∃ u, u = (s.withBrk { s.brk with causes := s.brk.causes.join k, first := s.firstAfter k }).flag .causes :=
    ⟨_, rfl⟩
  have huflags : u.wakeFlags = s.wakeFlags := by
    rw [hu]
    exact (State.flag_wakeFlags (by decide) _).trans (State.wakeFlags_congr (by simp))
  obtain ⟨hflags, hget⟩ := State.setTerms_closed (s := u) { s.brk.terms with emergency := 100 } (by simpa [hu] using hhold)
  obtain ⟨v, hv⟩ : ∃ v, v = u.setTerms { s.brk.terms with emergency := 100 } := ⟨_, rfl⟩
  rw [← hv] at hflags hget
  have hvrack : v.applyCmd .rack = v := State.applyCmd_closed (by rw [hget .rack, hu]; simpa [Brakes.get] using hrack)
  have hvhold : v.applyCmd .hold = v := State.applyCmd_closed (by rw [hget .hold, hu]; simpa [Brakes.get] using hhold)
  have htake : s.takeCause k = v := by
    refine Eq.trans ?_ hvrack
    rw [hv, hu]
    rfl
  rw [State.addCause_eq hk, State.joinCause_eq, htake, hvhold, ite_self]
  split
  · rfl
  · exact (State.wakeFlags_congr (by simp)).trans (hflags.trans huflags)

/-! ## The door check -/

/-- What a failed door check makes of a leaf (R124, R195). -/
def Leaf.faulted (l : Leaf) : Leaf :=
  if l.locked = true ∨ l.state = .fault then l else { l with state := .fault, timer := none }

/-- With the holding brake's valve de-energized the check moves the leaf alone (R95, R124). -/
theorem State.faultUnlocked_eq {s : State} (i : LeafId) (h : s.brk.hold.state.energized = false) :
    s.faultUnlocked i = if (s.doors.leaf i).locked = true ∨ (s.doors.leaf i).state = .fault then s
      else (s.withDoors (s.doors.putLeaf i (s.doors.leaf i).faulted)).flag .doors := by
  obtain ⟨l, hl⟩ : ∃ l, l = s.doors.leaf i := ⟨_, rfl⟩
  have hunfold : s.faultUnlocked i = if l.locked = false ∧ l.state ≠ .fault then s.enterLeaf i .fault l.reversals else s := by
    rw [hl]
    rfl
  rw [hunfold, ← hl]
  by_cases hstays : l.locked = true ∨ l.state = .fault
  · rw [if_pos hstays, if_neg fun hgoes => hstays.elim (fun h1 => by simp [h1] at hgoes) hgoes.2]
  · rw [if_neg hstays, if_pos (by simpa using hstays), State.enterLeaf_idle rfl]
    have hfaulted : l.faulted = { l with state := .fault, timer := leafTimer .fault, reversals := l.reversals } := if_neg hstays
    have hclosed : ∀ t : State, t.brk = s.brk → t.applyCmd .hold = t := fun t ht =>
      State.applyCmd_closed (by rw [ht]; exact h)
    rw [hfaulted, hl]
    exact hclosed _ (by simp)

/-- What the check of one leaf leaves (R124). -/
theorem State.faultUnlocked_effect {s : State} (i : LeafId) (h : s.brk.hold.state.energized = false) :
    (s.faultUnlocked i).brk = s.brk ∧ (s.faultUnlocked i).doors.sideReleased = s.doors.sideReleased ∧
      (∀ j, (s.faultUnlocked i).doors.leaf j = if j = i then (s.doors.leaf j).faulted else s.doors.leaf j) ∧
      (s.faultUnlocked i).wakeFlags = s.wakeFlags ∧ (∀ k, Flagged s k → Flagged (s.faultUnlocked i) k) := by
  rw [State.faultUnlocked_eq i h]
  split
  · next hstays =>
    refine ⟨rfl, rfl, fun j => ?_, rfl, fun _ hk => hk⟩
    split
    · next hj => rw [hj, Leaf.faulted, if_pos hstays]
    · rfl
  · refine ⟨by simp, by cases i <;> rfl, fun j => ?_, ?_, fun k hk => ?_⟩
    · by_cases hj : j = i
      · subst hj
        simp
      · simp [hj, Doors.leaf_putLeaf_other]
    · exact (State.flag_wakeFlags (by decide) _).trans (State.wakeFlags_congr (by simp))
    · exact Flagged.flag (s := s.withDoors _) hk _

@[simp] theorem State.faultUnlocked_frame (i : LeafId) (s : State) :
    (s.faultUnlocked i).params = s.params ∧ (s.faultUnlocked i).gates = s.gates ∧ (s.faultUnlocked i).token = s.token ∧
      (s.faultUnlocked i).refusal = s.refusal ∧ (s.faultUnlocked i).line = s.line ∧ (s.faultUnlocked i).pos = s.pos ∧
      (s.faultUnlocked i).upper = s.upper ∧ (s.faultUnlocked i).lower = s.lower ∧
      (s.faultUnlocked i).lineCode = s.lineCode ∧ (s.faultUnlocked i).handler = s.handler ∧
      (s.faultUnlocked i).mon = s.mon ∧ (s.faultUnlocked i).mode = s.mode ∧
      (s.faultUnlocked i).pending = s.pending := by
  unfold State.faultUnlocked
  dsimp only
  split <;> simp

/-- What the failed door check leaves of the car (R124, R195). -/
theorem State.faultAllUnlocked_effect {s : State} (h : s.brk.hold.state.energized = false) :
    s.faultAllUnlocked.brk = s.brk ∧ s.faultAllUnlocked.doors.sideReleased = s.doors.sideReleased ∧
      (∀ i, s.faultAllUnlocked.doors.leaf i = (s.doors.leaf i).faulted) ∧
      s.faultAllUnlocked.wakeFlags = s.wakeFlags ∧ (∀ k, Flagged s k → Flagged s.faultAllUnlocked k) := by
  obtain ⟨hb1, hs1, hl1, hw1, hf1⟩ := State.faultUnlocked_effect .a1 h
  obtain ⟨hb2, hs2, hl2, hw2, hf2⟩ := State.faultUnlocked_effect (s := s.faultUnlocked .a1) .a2 (by rw [hb1]; exact h)
  obtain ⟨hb3, hs3, hl3, hw3, hf3⟩ := State.faultUnlocked_effect (s := (s.faultUnlocked .a1).faultUnlocked .a2) .b1
    (by rw [hb2, hb1]; exact h)
  obtain ⟨hb4, hs4, hl4, hw4, hf4⟩ := State.faultUnlocked_effect
    (s := ((s.faultUnlocked .a1).faultUnlocked .a2).faultUnlocked .b1) .b2 (by rw [hb3, hb2, hb1]; exact h)
  refine ⟨hb4.trans (hb3.trans (hb2.trans hb1)), hs4.trans (hs3.trans (hs2.trans hs1)), fun i => ?_,
    hw4.trans (hw3.trans (hw2.trans hw1)), fun k hk => hf4 k (hf3 k (hf2 k (hf1 k hk)))⟩
  rw [State.faultAllUnlocked, hl4, hl3, hl2, hl1]
  cases i <;> rfl

end Sys2Proof.Machine

/-! SUPPORT. The entry into READY at the end of waking: CHECK_TIMER_EXPIRY, PERIOD_TIMER_EXPIRY, WINDOW_CLOSE,
VALVE_READBACK_CHANGE, STORE_VERIFICATION. -/

namespace Sys2Proof.Machine

/-! ## The end of waking -/

/-- With the holding brake's valve de-energized the entry into READY moves no brake and no WAKE flag (R95, R191). -/
theorem State.enterReady_closed {s : State} (h : s.brk.hold.state.energized = false) :
    (s.enterMode .ready).wakeFlags = s.wakeFlags ∧ ∀ b, (s.enterMode .ready).brk.get b = s.brk.get b := by
  obtain ⟨u, hu⟩ : ∃ u, u = (s.withMode (ModeCtl.timersFor .ready { s.mode with mode := .ready })).flag .mode := ⟨_, rfl⟩
  have hget : ∀ b, u.brk.get b = s.brk.get b := fun b => by cases b <;> simp [hu, Brakes.get]
  have hflags : u.wakeFlags = s.wakeFlags := by
    rw [hu]
    exact (State.flag_wakeFlags (by decide) _).trans (State.wakeFlags_congr (by simp))
  have hbrakes : s.modeBrakes .ready = u := by
    have hclosed : u.applyCmd .hold = u := State.applyCmd_closed ((hget .hold) ▸ h)
    rw [← hclosed, hu]
    rfl
  rw [State.enterMode_eq, hbrakes]
  split
  · exact ⟨rfl, fun _ => rfl⟩
  · have hfollows : u.modeFollows .ready = (u.modemFor .ready).syncRollaway := rfl
    rw [hfollows]
    refine ⟨(State.wakeFlags_congr (by simp)).trans hflags, fun b => ?_⟩
    rw [(State.syncRollaway_parts _).2.1 b, ← hget b]
    cases b <;> simp [Brakes.get]

/-- With no side RELEASED the rack brake's release moves the valve alone (R93, R94). -/
theorem State.releaseRack_locked {s : State} (h : s.doors.sideReleased = false) :
    s.releaseRack = if s.brk.causes.isEmpty ∧ s.mode.mode.running then s.releaseValve .rack else s := by
  have hcmd : s.releaseCmd .rack = s.releaseValve .rack := by
    rcases State.releaseCmd_cases .rack s with hcmd | hcmd
    · exact hcmd
    · rw [hcmd]
      unfold State.leftApplied
      dsimp only
      rw [State.withdrawAll_locked (by simpa using h), ite_self]
  rw [State.releaseRack, hcmd]

/-- The state at the end of waking before the rack brake's release (R195). -/
def State.wakingChecked (s : State) : State :=
  let u := s.enterMode .ready
  let v := if s.brakeCheck ∧ s.doors.allClosed then u.flag .wake else u
  let w := if s.brakeCheck then v else v.addCause .brakeFeedback
  if s.doors.allClosed then w else w.faultAllUnlocked

theorem State.endWaking_eq (s : State) : s.endWaking = s.wakingChecked.releaseRack := rfl

theorem State.wakingChecked_frame (s : State) :
    SameSetup s s.wakingChecked ∧ s.wakingChecked.token = s.token ∧ s.wakingChecked.refusal = s.refusal ∧
      s.wakingChecked.upper = s.upper ∧ s.wakingChecked.lower = s.lower ∧ s.wakingChecked.pos = s.pos ∧
      s.wakingChecked.line = s.line ∧ s.wakingChecked.lineCode = s.lineCode ∧ s.wakingChecked.handler = s.handler ∧
      s.wakingChecked.mon = s.mon := by
  unfold State.wakingChecked SameSetup State.faultAllUnlocked
  dsimp only
  (repeat' split) <;> simp

/-- What both checks leave, the rack brake not yet released (R195). -/
theorem State.wakingChecked_effect {s : State} (hmode : s.mode.mode = .waking) (hside : s.doors.sideReleased = false)
    (hrack : s.brk.rack.state.energized = false) (hhold : s.brk.hold.state.energized = false) :
    s.wakingChecked.mode = { ModeCtl.timersFor .ready { s.mode with mode := .ready } with modemPower := true, modemKey := true } ∧
      s.wakingChecked.doors.sideReleased = false ∧ Flagged s.wakingChecked .mode ∧
      (s.brakeCheck = true → s.wakingChecked.brk.causes = s.brk.causes ∧ s.wakingChecked.brk.rack = s.brk.rack ∧
        (s.doors.allClosed = true → Flagged s.wakingChecked .wake)) ∧
      (s.brakeCheck = false → s.wakingChecked.brk.causes.brakeFeedback = true ∧ s.wakingChecked.wakeFlags = s.wakeFlags) ∧
      (s.doors.allClosed = true → s.wakingChecked.doors = s.doors) ∧
      (s.doors.allClosed = false → ∀ i, s.wakingChecked.doors.leaf i = (s.doors.leaf i).faulted) := by
  obtain ⟨u, hu⟩ : ∃ u, u = s.enterMode .ready := ⟨_, rfl⟩
  obtain ⟨v, hv⟩ : ∃ v, v = if s.brakeCheck ∧ s.doors.allClosed then u.flag .wake else u := ⟨_, rfl⟩
  obtain ⟨w, hw⟩ : ∃ w, w = if s.brakeCheck then v else v.addCause .brakeFeedback := ⟨_, rfl⟩
  have hdef : s.wakingChecked = if s.doors.allClosed then w else w.faultAllUnlocked := by rw [hw, hv, hu]; rfl
  obtain ⟨humode, huflag, -, -, -, hudoors, -⟩ := State.enterMode_effect (m := .ready) (s := s) (by rw [hmode]; decide)
  obtain ⟨huwake, huget⟩ := State.enterReady_closed hhold
  have hucauses := State.enterMode_causes .ready s
  rw [← hu] at humode huflag hudoors huwake huget hucauses
  have hvparts : v.mode = u.mode ∧ v.doors = u.doors ∧ v.brk = u.brk := by
    rw [hv]
    split <;> simp
  obtain ⟨hvmode, hvdoors, hvbrk⟩ := hvparts
  have hvflag : Flagged v .mode := by
    rw [hv]
    split
    · exact huflag.flag .wake
    · exact huflag
  have hrackU : u.brk.rack = s.brk.rack := huget .rack
  have hholdU : u.brk.hold = s.brk.hold := huget .hold
  have hwparts : w.mode = u.mode ∧ w.doors = u.doors ∧ Flagged w .mode ∧ w.brk.hold.state.energized = false := by
    rw [hw]
    split
    · exact ⟨hvmode, hvdoors, hvflag, by rw [hvbrk, hholdU]; exact hhold⟩
    · have hadded := State.addCause_subdued (k := .brakeFeedback) (by decide) v
      exact ⟨by simp [hvmode], by simp [hvdoors], hadded.flags _ hvflag, hadded.valves .hold (by
        rw [hvbrk]
        exact (huget .hold) ▸ hhold)⟩
  obtain ⟨hwmode, hwdoors, hwflag, hwhold⟩ := hwparts
  have hudoors : u.doors = s.doors := hudoors (by decide) (by decide)
  obtain ⟨hfbrk, hfside, hfleaf, hfwake, hfflags⟩ := State.faultAllUnlocked_effect hwhold
  have hcheck : s.wakingChecked.brk = w.brk ∧ s.wakingChecked.wakeFlags = w.wakeFlags ∧
      (∀ k, Flagged w k → Flagged s.wakingChecked k) ∧ s.wakingChecked.mode = w.mode ∧
      s.wakingChecked.doors.sideReleased = w.doors.sideReleased := by
    rw [hdef]
    split
    · exact ⟨rfl, rfl, fun _ h => h, rfl, rfl⟩
    · exact ⟨hfbrk, hfwake, hfflags, by simp [State.faultAllUnlocked], hfside⟩
  obtain ⟨hcbrk, hcwake, hcflags, hcmode, hcside⟩ := hcheck
  refine ⟨?_, by rw [hcside, hwdoors, hudoors]; exact hside, hcflags _ hwflag, fun hpass => ?_, fun hfail => ?_,
    fun hclosed => ?_, fun hopen i => ?_⟩
  · rw [hcmode, hwmode, humode]
    simp
  · have hwv : w = v := by rw [hw, if_pos hpass]
    refine ⟨by rw [hcbrk, hwv, hvbrk, hucauses], by rw [hcbrk, hwv, hvbrk, hrackU], fun hclosed => hcflags _ ?_⟩
    rw [hwv, hv, if_pos ⟨hpass, hclosed⟩]
    exact flagged_flag .wake u
  · have hwadd : w = u.addCause .brakeFeedback := by rw [hw, hv, hfail]; simp
    rw [hcbrk, hcwake, hwadd, State.addCause_wakeFlags (by decide) (by rw [hrackU]; exact hrack)
      (by rw [hholdU]; exact hhold)]
    exact ⟨(State.addCause_effect (k := .brakeFeedback) (by decide) u).1, huwake⟩
  · rw [hdef, if_pos hclosed, hwdoors, hudoors]
  · rw [hdef, hopen, if_neg (by decide), hfleaf, hwdoors, hudoors]

end Sys2Proof.Machine

/-! SUPPORT. The expiries of the parked watch and of waking, the valve readbacks and a verification that passes. -/

namespace Sys2Proof.Machine

/-! ## CHECK_TIMER_EXPIRY -/

theorem exec_checkTimerExpiry {s : State} {n : Nat} (h : s.mode.checkTimer = some n) :
    exec .checkTimerExpiry s = .next s.wakingChecked.releaseRack := by
  change Host.Outcome.next _ = _
  rw [h]
  exact congrArg Host.Outcome.next s.endWaking_eq

/-- The rack brake's release where no side is RELEASED leaves doors, mode, causes and WAKE flags of a held cause
(R94). -/
theorem State.releaseRack_closed {s : State} (h : s.doors.sideReleased = false) :
    s.releaseRack.doors = s.doors ∧ s.releaseRack.brk.causes = s.brk.causes ∧
      (s.brk.causes.isEmpty = false → s.releaseRack = s) ∧
      (s.brk.causes.isEmpty = true → s.mode.mode = .ready → s.brk.rack.state ≠ .fault →
        s.releaseRack.brk.rack.state = s.brk.rack.freed) := by
  rw [State.releaseRack_locked h]
  refine ⟨?_, ?_, fun hheld => ?_, fun hnone hready hfault => ?_⟩
  · split <;> simp
  · split
    · exact (Brakes.still_iff.1 (State.releaseValve_still .rack s)).2.1
    · rfl
  · simp [hheld]
  · rw [if_pos ⟨hnone, by rw [hready]; rfl⟩]
    exact State.releaseValve_freed (b := .rack) hfault

theorem State.brakeCheck_iff {s : State} : s.brakeCheck = true ↔ s.brk.rack.state = .applied ∧ s.brk.hold.state = .applied := by
  simp [State.brakeCheck]

/-- The end of waking by what the two checks find (R195). -/
theorem checkTimerExpiry_wakes {s : State} {n : Nat} (htimer : s.mode.checkTimer = some n) (hmode : s.mode.mode = .waking)
    (hside : s.doors.sideReleased = false) (hrack : s.brk.rack.state.energized = false)
    (hhold : s.brk.hold.state.energized = false) :
    ∃ t, exec .checkTimerExpiry s = .next t ∧ t.mode.mode = .ready ∧ t.mode.checkTimer = none ∧
        t.mode.modemPower = true ∧ t.mode.modemKey = true ∧ Flagged t .mode ∧
        (s.brk.rack.state = .applied → s.brk.hold.state = .applied →
          t.brk.causes = s.brk.causes ∧ (s.doors.allClosed = true → Flagged t .wake) ∧
          (s.brk.causes.isEmpty = true → t.brk.rack.state =
            (if s.brk.rack.feedback = .clear then BrakeState.released else .releasing))) ∧
        (s.brk.rack.state ≠ .applied ∨ s.brk.hold.state ≠ .applied → t.brk.causes.brakeFeedback = true ∧
          t.flags.upper.wake = s.flags.upper.wake ∧ t.flags.lower.wake = s.flags.lower.wake) ∧
        (s.doors.allClosed = true → t.doors = s.doors) ∧
        (s.doors.allClosed = false → ∀ i, t.doors.leaf i =
          (if (s.doors.leaf i).locked = true ∨ (s.doors.leaf i).state = .fault then s.doors.leaf i
           else { s.doors.leaf i with state := .fault, timer := none })) ∧
        SameSetup s t ∧ t.token = s.token ∧ t.refusal = s.refusal ∧ t.upper = s.upper ∧ t.lower = s.lower ∧
        t.pos = s.pos ∧ t.line = s.line ∧ t.lineCode = s.lineCode ∧ t.handler = s.handler ∧ t.mon = s.mon := by
  obtain ⟨hcmode, hcside, hcflag, hpass, hfail, hclosed, hopen⟩ := State.wakingChecked_effect hmode hside hrack hhold
  obtain ⟨hdoors, hcauses, hheld, hfreed⟩ := State.releaseRack_closed hcside
  have hframe := s.wakingChecked_frame
  have hflags := (State.releaseRack_effect s.wakingChecked).2.1
  have hready : s.wakingChecked.mode.mode = .ready := by rw [hcmode]; rfl
  refine ⟨_, exec_checkTimerExpiry htimer, ?_, ?_, ?_, ?_, hflags _ hcflag, fun hr hh => ?_, fun hbrakes => ?_,
    fun hc => hdoors.trans (hclosed hc), fun ho i => ?_, ?_⟩
  · simpa using hready
  · simp [hcmode, ModeCtl.timersFor]
  · simp [hcmode]
  · simp [hcmode]
  · obtain ⟨hkept, hkeptRack, hwake⟩ := hpass (State.brakeCheck_iff.2 ⟨hr, hh⟩)
    refine ⟨hcauses.trans hkept, fun hc => hflags _ (hwake hc), fun hnone => ?_⟩
    rw [hfreed (by rw [hkept]; exact hnone) hready (by rw [hkeptRack, hr]; decide), hkeptRack, SpringBrake.freed, hr]
  · have hcheck : s.brakeCheck = false := Bool.eq_false_iff.2 fun hc => by
      obtain ⟨hr, hh⟩ := State.brakeCheck_iff.1 hc
      exact hbrakes.elim (· hr) (· hh)
    obtain ⟨hadded, hwake⟩ := hfail hcheck
    rw [hheld (by simp [CauseSet.isEmpty, hadded])]
    exact ⟨hadded, congrArg Prod.fst hwake, congrArg Prod.snd hwake⟩
  · rw [hdoors]
    exact hopen ho i
  · simpa [SameSetup] using hframe

/-! ## The watch -/

/-- A window opens with the framer's search (R193). -/
theorem exec_periodTimerExpiry {s : State} {n : Nat} (h : s.mode.periodTimer = some n) :
    exec .periodTimerExpiry s = .next (s.withMode { s.mode with
      periodTimer := some watchPeriod, window := some { elapsed := 0, closeAt := windowFirst }
      modemPower := true }).beginSearch := by
  change Host.Outcome.next _ = _
  rw [h]

/-- The search that begins leaves the receive side in HUNT, and drops an alignment held (R159, R193). -/
theorem State.beginSearch_effect (s : State) :
    s.beginSearch.rx.state = .hunt ∧ s.beginSearch.rx.search = 0 ∧
      (s.rx.state = .hunt → s.beginSearch = s.withRx { s.rx with search := 0 }) ∧
      (s.rx.state ≠ .hunt → s.beginSearch.rx.align = none ∧ s.beginSearch.handler = { s.handler with buffer := [] } ∧
        Flagged s.beginSearch .radio) ∧
      (s.rx.state = .checked → s.lineCode.condition = .live → s.beginSearch.lineCode.condition = .held) ∧
      s.beginSearch.reports.timer = s.reports.timer := by
  by_cases hhunt : s.rx.state = .hunt
  · have hbegin : s.beginSearch = s.withRx { s.rx with search := 0 } := if_pos hhunt
    rw [hbegin]
    exact ⟨hhunt, rfl, fun _ => rfl, fun h => absurd hhunt h, fun h => by simp [hhunt] at h, rfl⟩
  · have hbegin : s.beginSearch = s.toHunt 0 := if_neg hhunt
    rw [hbegin]
    refine ⟨by rw [State.toHunt_rx], by rw [State.toHunt_rx]; rfl, fun h => absurd h hhunt,
      fun _ => ⟨by rw [State.toHunt_rx]; rfl, State.toHunt_handler 0 s, State.toHunt_flagged hhunt⟩,
      fun hchecked hlive => by rw [State.toHunt_lineCode hchecked hlive], State.toHunt_reportTimer 0 s⟩

/-- The state as a window closes, before the modem's power goes (R193). -/
def State.windowClosed (s : State) : State :=
  ((s.withMode { s.mode with window := none }).discard).withMode { s.mode with window := none, modemPower := false }

theorem exec_windowClose {s : State} {w : Window} (h : s.mode.window = some w) (hpower : s.mode.modemPower = true) :
    exec .windowClose s =
      .next (if s.rx.state = .hunt then s.windowClosed else s.windowClosed.toHunt 0) := by
  change Host.Outcome.next _ = _
  rw [h]
  exact congrArg Host.Outcome.next (if_pos hpower)

/-- A window that closes ends the modem's power, without a LOSS (R159, R193). -/
theorem windowClose_ends {s : State} {w : Window} (h : s.mode.window = some w) (hpower : s.mode.modemPower = true) :
    ∃ t, exec .windowClose s = .next t ∧ t.mode = { s.mode with window := none, modemPower := false } ∧
        t.handler = { s.handler with buffer := [] } ∧ t.rx.state = .hunt ∧ t.mon = s.mon ∧
        (s.rx.state ≠ .hunt → t.rx.align = none ∧ t.rx.search = 0 ∧ Flagged t .radio) ∧
        (s.rx.state = .checked → s.lineCode.condition = .live → t.lineCode.condition = .held) ∧
        SameSetup s t ∧ t.tx = s.tx ∧ t.reports.timer = s.reports.timer ∧ t.token = s.token ∧ t.refusal = s.refusal ∧
        t.upper = s.upper ∧ t.lower = s.lower ∧ t.pos = s.pos ∧ t.doors = s.doors ∧
        t.line = { s.line with authority := t.line.authority } := by
  rw [exec_windowClose h hpower]
  split
  · next hhunt =>
    exact ⟨_, rfl, rfl, rfl, hhunt, rfl, fun hne => absurd hhunt hne, fun hc => by simp [hhunt] at hc, ⟨rfl, rfl, rfl⟩, rfl,
      rfl, rfl, rfl, rfl, rfl, rfl, rfl, rfl⟩
  · next hhunt =>
    obtain ⟨a, hline⟩ := s.windowClosed.toHunt_line 0
    refine ⟨_, rfl, by simp [State.windowClosed], (State.toHunt_handler 0 _).trans rfl, by rw [State.toHunt_rx],
      by simp [State.windowClosed], fun _ => ⟨by rw [State.toHunt_rx]; rfl, by rw [State.toHunt_rx]; rfl,
        State.toHunt_flagged hhunt⟩, fun hchecked hlive => ?_, ?_⟩
    · rw [State.toHunt_lineCode (s := s.windowClosed) hchecked hlive]
    · rw [State.toHunt_reportTimer, hline]
      simp [State.windowClosed, SameSetup]

/-! ## The valve readbacks -/

/-- A reading taken, with the timer by the comparison made again (R196). -/
theorem exec_valveReadbackChange (b : BrakeId) (energized : Bool) (s : State) :
    ∃ t rackRead holdRead, exec (.valveReadbackChange b energized) s = .next t ∧
      rackRead = (if b = .rack then energized else s.valves.rackReadback) ∧
      holdRead = (if b = .hold then energized else s.valves.holdReadback) ∧
      t = s.withValves { rackReadback := rackRead, holdReadback := holdRead, timer :=
        if rackRead = s.brk.rack.state.energized ∧ holdRead = s.brk.hold.state.energized then none
        else match s.valves.timer with
          | some n => some n
          | none => some 20 } := by
  refine ⟨_, _, _, rfl, rfl, rfl, ?_⟩
  obtain ⟨v, hv⟩ : ∃ v, v = s.valves.put b energized := ⟨_, rfl⟩
  have hparts : v.rackReadback = (if b = .rack then energized else s.valves.rackReadback) ∧
      v.holdReadback = (if b = .hold then energized else s.valves.holdReadback) ∧ v.timer = s.valves.timer := by
    rw [hv]
    cases b <;> exact ⟨rfl, rfl, rfl⟩
  obtain ⟨hrack, hhold, htimer⟩ := hparts
  have hagree : (s.withValves v).readbackDisagrees = true ↔
      ¬ (v.rackReadback = s.brk.rack.state.energized ∧ v.holdReadback = s.brk.hold.state.energized) := by
    simp only [State.readbackDisagrees, Bool.or_eq_true, decide_eq_true_eq]
    exact Classical.not_and_iff_not_or_not.symm
  have hsync : (s.withValves v).syncReadback = s.withValves { v with
      timer := if (s.withValves v).readbackDisagrees then some (v.timer.getD readbackTime) else none } := rfl
  rw [← hv, hsync, ← hrack, ← hhold, ← htimer]
  congr 1
  by_cases h : v.rackReadback = s.brk.rack.state.energized ∧ v.holdReadback = s.brk.hold.state.energized
  · rw [if_neg (fun hd => hagree.1 hd h), if_pos h]
  · rw [if_pos (hagree.2 h), if_neg h]
    cases v.timer <;> rfl

/-- Settles O54: the watch's window and search, the end of waking, and the two comparisons. -/
theorem watchAndWakingTimersAct : Obligations.WatchAndWakingTimersAct := by
  intro s n b energized
  refine ⟨fun h => ?_, fun w h hpower => windowClose_ends h hpower, checkTimerExpiry_wakes,
    exec_valveReadbackChange b energized s, fun n htimer hcheck => ?_⟩
  · obtain ⟨u, hu⟩ : ∃ u, u = s.withMode { s.mode with
      periodTimer := some watchPeriod, window := some { elapsed := 0, closeAt := windowFirst }
      modemPower := true } := ⟨_, rfl⟩
    obtain ⟨hhunt, hsearch, hkept, hdropped, hheld, htimer⟩ := u.beginSearch_effect
    have hmode : u.beginSearch.mode = { s.mode with
        periodTimer := some 10000, window := some { elapsed := 0, closeAt := 2000 }, modemPower := true } := by
      simp [hu, watchPeriod, windowFirst]
    refine ⟨_, exec_periodTimerExpiry h, ?_⟩
    rw [← hu]
    refine ⟨hmode, hhunt, hsearch, fun hs => ?_, fun hs => ?_, fun hs hlive => hheld (by rw [hu]; exact hs)
      (by rw [hu]; exact hlive), ?_⟩
    · rw [hmode, hkept (by rw [hu]; exact hs), hu]
      rfl
    · obtain ⟨halign, hhandler, hradio⟩ := hdropped (by rw [hu]; exact hs)
      exact ⟨halign, by rw [hhandler, hu]; rfl, hradio⟩
    · rw [htimer]
      simp [hu, SameSetup]
  · change Host.Outcome.next _ = _
    simp only [htimer]
    exact congrArg Host.Outcome.next (if_pos hcheck)

end Sys2Proof.Machine

/-! SUPPORT. The four resets: POWER_ON_RESET, PIN_RESET, READBACK_TIMER_EXPIRY, STORE_VERIFICATION. -/

namespace Sys2Proof.Machine

/-- The first-cause record a reset leaves (R107). -/
def State.resetCause (k : ResetKind) (s : State) : FirstCause :=
  { kind := .restart, count := (s.blocksAt k).pos.count, speed := 0, mode := (s.blocksAt k).mode.mode }

/-- The two reports a reset leaves, the ALARM for RESTART and the STATUS of the keying (R107, R180). -/
def State.resetReports (k : ResetKind) (s : State) : Reports :=
  { queue := [
      Slot.waiting (.alarm { kind := .restart, first := s.resetCause k, repeats := 1 }) (s.blocksAt k).carIdOctet,
      Slot.waiting (.status (s.blocksAt k).statusPayload) (s.blocksAt k).carIdOctet]
    backlog := []
    number := 0
    timer := some reportPeriod }

/-- A reset leaves the blocks at their values, keyed, with its two reports (R198). -/
theorem State.restart_eq (k : ResetKind) (s : State) : s.restart k =
    (((s.blocksAt k).withMode { (s.blocksAt k).mode with modemKey := true }).withTx
      { (s.blocksAt k).tx with frameNo := some 0, half := [], prevCheck := none }).withReports (s.resetReports k) := rfl

/-- What each of the four commands does where it resets (R14, R196, R198). -/
theorem exec_reset {s : State} {c : Instr} {k : ResetKind}
    (h : (c = .powerOnReset ∧ k = .powerOn) ∨ (c = .pinReset ∧ k = .pin) ∨
      (c = .readbackTimerExpiry ∧ k = .internalOutput ∧ s.valves.timer ≠ none) ∨
      (c = .storeVerification ∧ k = .internalStore ∧ s.line.verifyTimer ≠ none ∧ s.line.freshCheck ≠ s.line.storeCheck)) :
    exec c s = .next (s.restart k) := by
  obtain ⟨rfl, rfl⟩ | ⟨rfl, rfl⟩ | ⟨rfl, rfl, htimer⟩ | ⟨rfl, rfl, htimer, hcheck⟩ := h
  · rfl
  · rfl
  · obtain ⟨n, hn⟩ := Option.ne_none_iff_exists'.1 htimer
    change Host.Outcome.next _ = _
    simp only [hn]
  · obtain ⟨n, hn⟩ := Option.ne_none_iff_exists'.1 htimer
    change Host.Outcome.next _ = _
    simp only [hn, if_neg hcheck]

/-- Whether a reset of a kind retains the profile (R15). -/
def State.retains (k : ResetKind) (s : State) : Bool := !decide (k = .powerOn) && s.line.passes

theorem State.retains_eq (k : ResetKind) (s : State) : s.retains k =
    (decide (k ≠ .powerOn) && decide (s.line.profile = .valid) && decide (s.line.freshCheck = s.line.storeCheck)) := by
  simp [State.retains, LineStore.passes, Bool.and_assoc]

theorem SpringBrake.restart_state (b : SpringBrake) :
    b.restart.state = (if b.feedback = .applied then .applied else .applying) ∧ b.restart.feedback = b.feedback ∧
      b.restart.timer = (if b.feedback = .applied then none else some 800) := by
  unfold SpringBrake.restart SpringBrake.atReset
  cases b.feedback <;> exact ⟨rfl, rfl, rfl⟩

theorem Leaf.restart_eq (l : Leaf) : l.restart =
    { l with state := if l.locked = true then .closedLocked else .fault, timer := none, reversals := 0 } := by
  obtain ⟨st, locked, openEnd, edge, timer, reversals⟩ := l
  cases locked <;> rfl

/-- Settles O55: the blocks at the values of their chapters, by the kind of the reset and whether the profile passes. -/
theorem resetsSetEveryBlock : Obligations.ResetsSetEveryBlock := by
  intro s c k pass hkind hpass
  rw [← State.retains_eq] at hpass
  subst hpass
  have hbrake : ∀ b, (s.restart k).brk.get b = (s.brk.get b).restart := fun b => by cases b <;> rfl
  have hleaf : ∀ i, (s.restart k).doors.leaf i = (s.doors.leaf i).restart := fun i => by cases i <;> rfl
  refine ⟨s.restart k, exec_reset hkind, rfl, rfl, rfl, rfl, rfl, rfl, ?_, ?_, rfl, rfl, rfl, rfl, rfl, rfl, rfl, rfl, rfl,
    rfl, rfl, ?_, ⟨rfl, rfl⟩, rfl, rfl, rfl, rfl, rfl, rfl, fun b => ?_, rfl, fun b => ?_, rfl, rfl, rfl, fun i => ?_, rfl,
    rfl, ?_, rfl, rfl, rfl, rfl, rfl, rfl, rfl, rfl, rfl, rfl, rfl, rfl, rfl, rfl, rfl, rfl, rfl, rfl, rfl, rfl⟩
  · cases k <;> rfl
  · cases k <;> exact ⟨rfl, rfl, rfl, rfl⟩
  · intro f hf
    cases f
    case mode => exact absurd rfl hf
    all_goals exact ⟨rfl, rfl⟩
  · rw [hbrake]
    exact (SpringBrake.restart_state _).1
  · rw [hbrake]
    exact (SpringBrake.restart_state _).2
  · rw [hleaf, Leaf.restart_eq]
  · rfl

end Sys2Proof.Machine
